-- ==== Sys2Proof/Word.lean ====
section
/-! DEFINITION. The word types of the FN418 and their plainest arithmetic.

`Byte` is a character of either port (ch. 12); `Time` is a reading of the crossing clock, a 32-bit count of
milliseconds that wraps (introduction, 4.2). Everything a test could show wrong about bytes, checks and
clock comparisons stands in `Machine/Bytes.lean` and `Machine/Clock.lean`. -/

namespace Sys2Proof

/-- One byte of a frame or of a record. -/
abbrev Byte := BitVec 8

/-- A reading of the crossing clock, in milliseconds, modulo 2^32 (introduction, 4.2). -/
abbrev Time := BitVec 32

/-- Replaces one entry of a table by a function of that entry. -/
def upd {α : Type} {n : Nat} (v : Vector α n) (i : Fin n) (f : α → α) : Vector α n :=
  v.set i (f v[i])

/-- Rebuilds a table entry by entry, each from its number and its old value. -/
def remake {α β : Type} {n : Nat} (v : Vector α n) (f : Fin n → α → β) : Vector β n :=
  Vector.ofFn fun i => f i v[i]

end Sys2Proof
end

