-- ==== Sys2Proof/Config.lean ====
section
/-! DEFINITION. What the part fixes once (its codes, its fixed times, the strap tables) and the FREE VALUES:
opaque constants with no body, for the values and orders the manual leaves open. No proof can see what a free
value is; `State.free` counts how many have been taken. -/

namespace Sys2Proof.Config

/-- FREE VALUE (log entry 3): which of two things the manual lets "be taken in either order" comes first. -/
opaque freeOrder : Nat → Bool

/-- FREE VALUE (log entry 4): which of several timed events due in one instant is taken first. -/
opaque freePick : Nat → Nat

/-- FREE VALUE (log entries 5 and 6): a byte whose value the manual does not state. -/
opaque freeByte : Nat → Byte

/-- Device part code, byte 1-2 of the IDENTIFY reply (ch. 12.2). -/
def partCode : Nat := 0x0418

/-- Device revision A, byte 3 of the IDENTIFY reply (ch. 12.2). -/
def deviceRevision : Nat := 0x41

/-- Bit rate of the signaller line for the LRATE straps (introduction, 5; R140). -/
def lineRate (strap : BitVec 2) : Nat :=
  match strap.toNat with
  | 0 => 600
  | 1 => 1200
  | 2 => 2400
  | _ => 4800

/-- Bit rate of the host port for the HRATE straps (introduction, 5; R191). -/
def hostRate (strap : BitVec 2) : Nat :=
  match strap.toNat with
  | 0 => 19200
  | 1 => 57600
  | 2 => 115200
  | _ => 230400

/-- Head ticks in one millisecond (R3). -/
def ticksPerMs : Nat := 20

/-- Quiet mark age (R9), in ms. -/
def quietMarkMs : Nat := 10000

/-- Quiet period that ends a HEAD_FAULT (R15); also the wait of R113, R115 and R116, in ms. -/
def settleMs : Nat := 2000

/-- Longest interval a passage can carry (R12), in head ticks. -/
def maxInterval : Nat := 65535

/-- Greatest count of a section (R22). -/
def maxAxles : Nat := 1023

/-- Measured speed above which a measurement is a glitch (R47), in mm/s. -/
def glitchSpeed : Nat := 90000

/-- Age at which the long-warning mark (R60) and the aged mark (R166) are set, in ms. -/
def longAgeMs : Nat := 65535000

/-- Closure length from which the longest histogram bin takes a closure (R81), in ms. -/
def longBinMs : Nat := 480000

/-- Half of the start-up flash cycle (R97), in ms. -/
def startUpHalfMs : Nat := 500

/-- Time each channel is lit in a lamp test (R99), in ms. -/
def testChannelMs : Nat := 1000

/-- Time between two amber proofs (R91) and between two dark samples (R94), in ms. -/
def amberProofMs : Nat := 500
def darkSampleMs : Nat := 100

/-- Greatest current reading (R86), in mA. -/
def maxCurrent : Nat := 4000

/-- Period of the contact and supply samples (R105, R136), in ms. -/
def contactSampleMs : Nat := 10

/-- Gap limits: 20 ms between host bytes (R192), 20 bit-times between line characters (R143). -/
def hostGapMs : Nat := 20
def lineGapBits : Nat := 20

/-- Entries the collided list holds (R194). -/
def collidedMax : Nat := 8

/-- Greatest value of a statistics counter, and the value of its half notice (R187, R188). -/
def counterMax : Nat := 4294967295
def counterHalf : Nat := 2147483648

end Sys2Proof.Config
end

