-- ==== Sys2Proof/Syntax.lean ====
section
/-! DEFINITION. The commands of the FN418, one constructor for each row of spec/opcode_table.json, in the
table's order, with the operands the row needs.

Host requests carry the frame's TAG and its payload bytes, so that every form of a request, well formed or
not, is a command (ch. 12.2). Frames of the signaller line carry HEAD's class and source, DEST and the payload
(ch. 12.3). Events at the field inputs carry what the input shows. Timed events carry the object they concern. -/

namespace Sys2Proof

/-- The last five samples of one head, oldest first (R3); `s4` is the newest. -/
structure Window where
  s0 : Bool
  s1 : Bool
  s2 : Bool
  s3 : Bool
  s4 : Bool
  deriving DecidableEq, Repr

/-- A window of five off samples (R16). -/
def Window.off : Window := ⟨false, false, false, false, false⟩

/-- The two supply inputs (R136). -/
inductive SupplyInput where
  | mains
  | batt
  deriving DecidableEq, Repr

/-- HEAD and DEST of a frame on the signaller line (ch. 12.3): the class in HEAD's upper two bits, the source
in its lower six, and the destination address. -/
structure LineHead where
  cls : BitVec 2
  src : BitVec 6
  dest : BitVec 6
  deriving DecidableEq, Repr

/-- The commands, one constructor per row of the opcode table. -/
inductive Instr where
  -- resets and the host port
  | coldReset (lrate hrate : BitVec 2)
  | hostReady (ready : Bool)
  | hostFrameDiscarded (bytes : List Byte) (framingError : Bool)
  | hostGap (bytes : List Byte)
  | hostOverrun (kind tag : Byte) (payload : List Byte)
  | hostUnknownKind (kind tag : Byte) (payload : List Byte)
  | identify (tag : Byte) (payload : List Byte)
  | readTime (tag : Byte) (payload : List Byte)
  | configPoint (tag : Byte) (payload : List Byte)
  | configSection (tag : Byte) (payload : List Byte)
  | configTrack (tag : Byte) (payload : List Byte)
  | configTiming (tag : Byte) (payload : List Byte)
  | configFlash (tag : Byte) (payload : List Byte)
  | configLamp (tag : Byte) (payload : List Byte)
  | configBarrier (tag : Byte) (payload : List Byte)
  | configLink (tag : Byte) (payload : List Byte)
  | configMemory (tag : Byte) (payload : List Byte)
  | commit (tag : Byte) (payload : List Byte)
  | restartCold (tag : Byte) (payload : List Byte)
  | restartWarm (tag : Byte) (payload : List Byte)
  | readState (tag : Byte) (payload : List Byte)
  | readSections (tag : Byte) (payload : List Byte)
  | readRecords (tag : Byte) (payload : List Byte)
  | readFaults (tag : Byte) (payload : List Byte)
  | readCounters (tag : Byte) (payload : List Byte)
  | readLog (tag : Byte) (payload : List Byte)
  | readPassage (tag : Byte) (payload : List Byte)
  | localHold (tag : Byte) (payload : List Byte)
  | lampTest (tag : Byte) (payload : List Byte)
  | hostRestore (tag : Byte) (payload : List Byte)
  | faultAck (tag : Byte) (payload : List Byte)
  | hostRelease (tag : Byte) (payload : List Byte)
  | hostTxStart
  | hostTxDone
  -- detection points
  | headChange (p : Fin 12) (winA winB : Window)
  | stuckTimeout (p : Fin 12)
  | quietPeriodEnd (p : Fin 12)
  | quietMark (p : Fin 12)
  -- approach prediction
  | startTimerExpiry (slot : Fin 4)
  | longWarningMark (slot : Fin 4)
  -- crossing sequencer
  | openMark
  | tAmberExpiry
  | tPrelowerExpiry
  | exitDelayMark
  | longClosureTimer
  | longBinMark
  -- road lights
  | flashPartEnd
  | litProof (c : Fin 10) (mA : Nat)
  | darkSample (c : Fin 10) (mA : Nat)
  | startUpFlashHalf
  | lampTestSample (mA : Nat)
  | lampTestChannelEnd
  -- barriers
  | barrierContactChange (b : Fin 4) (up down : Bool)
  | barrierLimit (b : Fin 4)
  | barrierDropped (b : Fin 4)
  | barrierSettled (b : Fin 4)
  | barrierLostDown (b : Fin 4)
  -- supply inputs
  | supplyInputChange (input : SupplyInput) (ok : Bool)
  -- signaller line
  | beacon (h : LineHead) (payload : List Byte)
  | beaconTimeout
  | poll (h : LineHead) (payload : List Byte)
  | sigAck (h : LineHead) (payload : List Byte)
  | sigRestore (h : LineHead) (payload : List Byte)
  | sigHold (h : LineHead) (payload : List Byte)
  | sigRelease (h : LineHead) (payload : List Byte)
  | sigCmdUnknownKind (h : LineHead) (kind : Byte) (payload : List Byte)
  | sigCmdRefusedSource (h : LineHead) (kind : Byte) (payload : List Byte)
  | lineFrameBad (chars : List Byte) (framingError : Bool)
  | lineGapAbort (chars : List Byte)
  | skipEnd
  | foreignFrame (h : LineHead) (kind : Byte) (payload : List Byte)
  | ownAddressFrame (h : LineHead) (kind : Byte) (payload : List Byte)
  | accessWaitQuiet
  | lineFrameSent
  | arbitrationLost
  | collision
  | healthTimerExpiry
  | repeatInterval (slot : Fin 32)
  | agedMark (slot : Fin 32)
  | addressedFrameLinkNotActive (h : LineHead) (kind : Byte) (payload : List Byte)
  deriving DecidableEq, Repr

end Sys2Proof
end

