-- ==== Sys2Proof/Decode.lean ====
section
/-! DEFINITION. Decoding by the table's bits. spec/opcode_table.json gives no row any bits (its rows are events and
messages of variable length, not words), so no word spells a command. -/

/-- The command a word spells by the table's bits: none, since no row of the table has bits. -/
def Sys2Proof.decodeTableWord (_nbits _w : Nat) : Option Sys2Proof.Instr := none
end

