-- ==== Sys2Proof/Machine/State.lean ====
section
/-! DEFINITION. The state of the FN418 as plain data, block by block in the order of the introduction's block
overview, the reasons a step can stop, and the state after a cold reset (R204).

Every table of the manual is a `Vector` of its fixed length. A time the manual calls absent is `none`. -/

namespace Sys2Proof.Machine

/-! ### Reasons to stop -/

/-- The faults of the part. There are none: the manual stops the part on no command, so no meaning faults.
(A command whose triggering condition does not hold is no event and leaves the state as it is: log entry 2.) -/
inductive Fault where
  deriving DecidableEq, Repr

/-- The refusals of the model. -/
inductive Refusal where
  /-- Raised by `exec` alone, for a command that has no meaning yet; no arm of this model answers it (safe). -/
  | notModelled (mnemonic : String)
  deriving DecidableEq, Repr

/-! ### Common codes (ch. 12.1) -/

/-- The two part states (introduction, 4.6). -/
inductive Part where
  | config
  | run
  deriving DecidableEq, Repr

/-- The two tracks (introduction, 4.4). -/
inductive Track where
  | one
  | two
  deriving DecidableEq, Repr

/-- The two directions of travel (introduction, 4.4). -/
inductive Dir where
  | aToB
  | bToA
  deriving DecidableEq, Repr

/-- The two road approaches (introduction, 4.4). -/
inductive Side where
  | a
  | b
  deriving DecidableEq, Repr

/-- Result codes of requests and commands (ch. 12.1). -/
inductive Result where
  | ok
  | unknownKind
  | badLength
  | outOfRange
  | wrongState
  | busy
  | collided
  | invalidConfig
  | notDisturbed
  | pointsActive
  | severeActive
  deriving DecidableEq, Repr

/-! ### Point Monitor (ch. 1) -/

/-- States of the head-sequence machine (R4). -/
inductive HeadSeq where
  | idle
  | ab1
  | ab2
  | ab3
  | ba1
  | ba2
  | ba3
  | skew
  deriving DecidableEq, Repr

/-- A head tick: its millisecond and its phase 0-19 within it (R3). -/
structure Tick where
  ms : Time
  phase : Nat
  deriving DecidableEq, Repr

/-- A point channel (table of 1.1). -/
structure Point where
  track : Option Track
  position : Int
  spacing : Nat
  inService : Bool
  winA : Window
  winB : Window
  accA : Bool
  accB : Bool
  seq : HeadSeq
  stamp : Option Tick
  interval : Option Nat
  rocked : Bool
  leave : Time
  headFault : Bool
  quiet : Option Time
  lastCount : Time
  quietMark : Bool
  deriving DecidableEq, Repr

/-! ### Section Counter (ch. 2) -/

/-- Section states (R22). -/
inductive SectionState where
  | clear
  | occupied
  | disturbed
  | prepared
  deriving DecidableEq, Repr

/-- Role of a section entry (2.1). -/
inductive SectionRole where
  | approach
  | island
  deriving DecidableEq, Repr

/-- A section entry (table of 2.1). `state` is absent while the entry holds no live state (R36). -/
structure Sect where
  track : Option Track
  aEnd : Fin 12
  bEnd : Fin 12
  role : SectionRole
  state : Option SectionState
  count : Nat
  sweep : Bool
  deriving DecidableEq, Repr

/-! ### Approach Predictor (ch. 3) -/

/-- Phase of a train record (R39). -/
inductive TrainPhase where
  | approaching
  | arrived
  deriving DecidableEq, Repr

/-- Commit causes (R55). -/
inductive CommitCause where
  | prediction
  | timer
  | prepared
  | guard
  | arrival
  deriving DecidableEq, Repr

/-- One entry of a prediction list (R39): point, interval, speed used and predicted interval T. -/
structure Prediction where
  point : Fin 12
  interval : Option Nat
  vUsed : Nat
  tMs : Nat
  deriving DecidableEq, Repr

/-- A train record (R39). `startTimer` is its start timer (R51, R52): running to the time held, or stopped. -/
structure TrainRecord where
  phase : TrainPhase
  committed : Bool
  commitTime : Option Time
  commitCause : Option CommitCause
  arrivalA : Option Time
  warningS : Option Time
  startTimer : Option Time
  shortWarning : Bool
  created : Time
  arrived : Option Time
  axlesIn : Nat
  predictions : List Prediction
  longMark : Bool
  deriving DecidableEq, Repr

/-- A slot of the approach table (R38) with its speed parameters (R40). -/
structure Slot where
  vLine : Nat
  vFloor : Nat
  accel : Nat
  record : Option TrainRecord
  deriving DecidableEq, Repr

/-! ### Crossing Sequencer (ch. 4) -/

/-- Sequencer states (4.3). -/
inductive SeqState where
  | roadOpen
  | amber
  | redWait
  | lowerEntry
  | lowerExit
  | closed
  | raising
  deriving DecidableEq, Repr

/-- Causes of a SEQ_STATE record (R82). -/
inductive SeqCause where
  | demand
  | timer
  | barriers
  | guardPassed
  | barrierFault
  | start
  | hold
  deriving DecidableEq, Repr

/-- The Crossing Sequencer (tables of 4.1). `state` is absent in CONFIG. -/
structure Sequencer where
  state : Option SeqState
  entry : Time
  exitMark : Option Time
  closureStart : Time
  counted : Bool
  longBin : Bool
  longFlag : Bool
  openMark : Bool
  holdSignaller : Bool
  holdLocal : Bool
  tAmber : Nat
  tPrelower : Nat
  tExitDelay : Nat
  tMinOpen : Nat
  tLong : Nat
  deriving DecidableEq, Repr

/-! ### Lamp Driver (ch. 5) -/

/-- A lamp channel (table of R86). `litDue` and `darkDue` are the moments of the channel's next lit proof
(R91) and next dark sample (R94). -/
structure Lamp where
  enabled : Bool
  iMin : Nat
  iMax : Nat
  iOff : Nat
  lit : Bool
  failed : Bool
  bad : Nat
  good : Nat
  stuckOn : Bool
  darkRun : Nat
  current : Option Nat
  litDue : Option Time
  darkDue : Option Time
  deriving DecidableEq, Repr

/-- The four parts of the flash cycle (5.2). -/
inductive FlashPart where
  | lOn
  | g1
  | rOn
  | g2
  deriving DecidableEq, Repr

/-- The flash cycle and the settle time (R88), in ms. -/
structure FlashConfig where
  period : Nat
  lOn : Nat
  g1 : Nat
  rOn : Nat
  g2 : Nat
  settle : Nat
  deriving DecidableEq, Repr

/-- The running flash generator: its part and when the part began (R89). -/
structure Flashing where
  part : FlashPart
  since : Time
  deriving DecidableEq, Repr

/-- The start-up flash (R97): which half is lit and since when. -/
structure StartUpFlash where
  leftHalf : Bool
  since : Time
  deriving DecidableEq, Repr

/-- The result of a lamp test sample (R99). -/
structure TestResult where
  good : Bool
  mA : Nat
  deriving DecidableEq, Repr

/-- A lamp test in progress (R99): the channel under test, since when, whether its sample was taken, and the
results so far (`none` is NOT_TESTED). -/
structure LampTest where
  channel : Fin 10
  since : Time
  sampled : Bool
  results : Vector (Option TestResult) 10
  deriving DecidableEq, Repr

/-- The Lamp Driver. `gen` is absent while the generator is stopped, `startUp` outside CONFIG. -/
structure LampDriver where
  lamps : Vector Lamp 10
  flash : FlashConfig
  gen : Option Flashing
  startUp : Option StartUpFlash
  test : Option LampTest
  deriving DecidableEq, Repr

/-! ### Barrier Controller (ch. 6) -/

/-- A contact or supply filter (R105, R136): the last two samples and the accepted value. -/
structure Filter where
  prev : Bool
  last : Bool
  accepted : Bool
  deriving DecidableEq, Repr

/-- Barrier role (6.1). -/
inductive BarrierRole where
  | entry
  | exit
  deriving DecidableEq, Repr

/-- Barrier states (6.1). -/
inductive BarrierState where
  | heldUp
  | lowering
  | down
  | raising
  | fault
  deriving DecidableEq, Repr

/-- Motion phases (6.1). -/
inductive MotionPhase where
  | leave
  | travel
  deriving DecidableEq, Repr

/-- The three limits of one motion (6.1), in ms. -/
structure MotionLimits where
  leave : Nat
  travel : Nat
  total : Nat
  deriving DecidableEq, Repr

/-- A barrier channel (table of 6.1). `state` is absent in CONFIG and for a channel not configured. -/
structure Barrier where
  configured : Bool
  role : BarrierRole
  side : Side
  lower : MotionLimits
  raise : MotionLimits
  state : Option BarrierState
  phase : Option MotionPhase
  motionStart : Option Time
  phaseStart : Option Time
  holdOut : Bool
  raiseOut : Bool
  up : Filter
  down : Filter
  dropped : Option Time
  lostDown : Option Time
  disturbed : Bool
  detail : Nat
  settled : Option Time
  deriving DecidableEq, Repr

/-! ### Fault Manager (ch. 7) -/

/-- The fifteen fault kinds (R120). -/
inductive FaultKind where
  | sectionDisturbed
  | headFault
  | overspeed
  | shortWarning
  | lateClosure
  | lampFail
  | lampStuckOn
  | roadSideDark
  | barrierFail
  | barrierDisturbed
  | longClosure
  | linkLost
  | supplyMains
  | supplyBattery
  | tableFull
  deriving DecidableEq, Repr

/-- Fault classes (R120). -/
inductive FaultClass where
  | severe
  | minor
  | notice
  deriving DecidableEq, Repr

/-- States of a fault record (R121). -/
inductive FaultState where
  | activeUnacked
  | activeAcked
  | clearedUnacked
  deriving DecidableEq, Repr

/-- A fault record (R121). -/
structure FaultRecord where
  kind : FaultKind
  object : Nat
  cls : FaultClass
  state : FaultState
  detail : Nat
  count : Nat
  first : Time
  last : Time
  lastReported : Option FaultState
  lastReport : Option Time
  deriving DecidableEq, Repr

/-- A slot of the fault table (R121) with the Report Scheduler's forced, carried and aged marks of the slot
(9.1); the carried mark keeps the state carried (R170). -/
structure FaultSlot where
  record : Option FaultRecord
  forced : Bool
  carried : Option FaultState
  aged : Bool
  deriving DecidableEq, Repr

/-- The crossing mode (R131). -/
inductive Mode where
  | auto
  | degraded
  | failed
  deriving DecidableEq, Repr

/-- Causes of a MODE record (R133). -/
inductive ModeCause where
  | raised
  | ended
  | ack
  | release
  | start
  deriving DecidableEq, Repr

/-- The Fault Manager. `mode` is absent in CONFIG (R139). -/
structure FaultManager where
  table : Vector FaultSlot 32
  latch : Bool
  mode : Option Mode
  deriving DecidableEq, Repr

/-- The supply inputs' filters (R136). -/
structure Supply where
  mains : Filter
  batt : Filter
  deriving DecidableEq, Repr

/-! ### Line Controller (ch. 8) -/

/-- Link states (8.4). -/
inductive LinkState where
  | down
  | sync
  | active
  | lost
  deriving DecidableEq, Repr

/-- Causes of a LINK record (R149). -/
inductive LinkCause where
  | beacon
  | timeout
  | start
  deriving DecidableEq, Repr

/-- The three classes the part sends (R150). -/
inductive LineClass where
  | alarm
  | state
  | routine
  deriving DecidableEq, Repr

/-- Receiver states (R143). -/
inductive RxState where
  | idle
  | assembling
  | skipping
  deriving DecidableEq, Repr

/-- The part's frame in flight (R153): class, KIND, payload, all its characters, how many of its bits have been sent and
read back, and whether its start bit has begun (R152). A frame not begun stands from the part's asking for it (R169) to the
start of its first bit-time, which fixes its content (R153, R170; log entry 26). -/
structure TxFrame where
  cls : LineClass
  kind : Byte
  payload : List Byte
  chars : List Byte
  sent : Nat
  begun : Bool
  deriving DecidableEq, Repr

/-- The Line Controller. `assembly` holds the characters of the frame being received and `headBits` the bits of
HEAD taken over at an arbitration loss (R154); `bitAcc` is the phase of the bit clock against the head ticks, in millionths
of a bit-time from the latest sample; `waitTest` is set in the instants in which a wait's W is tested, those of a sample and
of the wait's beginning (R151, R152). -/
structure LineController where
  own : Option (BitVec 6)
  groups : Vector (Option (BitVec 6)) 4
  beaconMs : Nat
  tHealth : Nat
  tRepeat : Nat
  link : LinkState
  firstBeacon : Option Time
  lastBeacon : Option Time
  rx : RxState
  assembly : List Byte
  headBits : List Bool
  quiet : Nat
  bitAcc : Nat
  raisedAlarm : Bool
  raisedState : Bool
  raisedRoutine : Bool
  wait : Option LineClass
  waitTest : Bool
  inFlight : Option TxFrame
  deriving DecidableEq, Repr

/-! ### Report Scheduler (ch. 9) -/

/-- A confirmation (R163): the command's KIND and its result. -/
structure Confirm where
  kind : Byte
  result : Result
  deriving DecidableEq, Repr

/-- The Report Scheduler (table of 9.1); its per-slot marks stand in `FaultSlot`, its frame in flight is the
Line Controller's. `healthTimer` is the expiry, or absent while stopped. -/
structure ReportScheduler where
  confirm : Option Confirm
  confirmRenewed : Bool
  stateMark : Bool
  healthMark : Bool
  stateRenewed : Bool
  healthRenewed : Bool
  healthTimer : Option Time
  deriving DecidableEq, Repr

/-! ### Record Memory and Statistics Counters (ch. 10) -/

/-- Granule counts of the three partitions (R176). -/
structure Layout where
  log : Nat
  passage : Nat
  hnq : Nat
  deriving DecidableEq, Repr

/-- Log kinds (ch. 12.4). -/
inductive LogKind where
  | seqState
  | mode
  | record
  | sectionState
  | fault
  | sigCmd
  | hostCmd
  | link
  deriving DecidableEq, Repr

/-- An event log record (10.2): sequence, time, kind, object and eight bytes of data. -/
structure LogRecord where
  seq : BitVec 16
  time : Time
  kind : LogKind
  object : Nat
  data : List Byte
  deriving DecidableEq, Repr

/-- Outcome of a train record (R59). -/
inductive TrainOutcome where
  | passed
  | withdrawn
  deriving DecidableEq, Repr

/-- A passage record (R60, ch. 12.6). -/
structure PassageRecord where
  seq : BitVec 16
  track : Track
  dir : Dir
  outcome : TrainOutcome
  axles : Nat
  created : Time
  commit : Option Time
  arrived : Option Time
  ended : Time
  warning : Option Nat
  short : Bool
  predictions : List Prediction
  deriving DecidableEq, Repr

/-- Record Memory (ch. 10): the configured counts and the layout in use, the log with its next-sequence value
and level flag, the passage store with its next-sequence value. Both rings are held oldest first. -/
structure RecordMemory where
  configured : Layout
  layout : Layout
  log : List LogRecord
  nextSeq : BitVec 16
  armed : Bool
  passages : List PassageRecord
  nextPassage : BitVec 16
  deriving DecidableEq, Repr

/-- A statistics counter (10.4). -/
structure Counter where
  value : Nat
  half : Bool
  full : Bool
  deriving DecidableEq, Repr

/-! ### Host Port (ch. 11) -/

/-- Notice kinds (R199, ch. 12.2). -/
inductive NoticeKind where
  | state
  | fault
  | link
  | counter
  | logLevel
  | passage
  | lampTestDone
  | resync
  deriving DecidableEq, Repr

/-- A notice (R199): its kind and its payload. -/
structure Notice where
  kind : NoticeKind
  payload : List Byte
  deriving DecidableEq, Repr

/-- A reply waiting in the reply buffer; `warm` marks the OK reply of a RESTART WARM (R205). -/
structure ReplyFrame where
  kind : Byte
  tag : Byte
  payload : List Byte
  warm : Bool
  deriving DecidableEq, Repr

/-- An entry of the collided list (R195): the request's KIND and TAG, and the result its reply will carry. -/
structure CollidedEntry where
  kind : Byte
  tag : Byte
  result : Result
  deriving DecidableEq, Repr

/-- The frame the host transmitter is sending (R191): its bytes, whether it is the OK reply of a RESTART WARM,
and the bits sent so far, in millionths of a bit. -/
structure Sending where
  bytes : List Byte
  warm : Bool
  progress : Nat
  deriving DecidableEq, Repr

/-- The Host Port (table of 11.1). The receiver is in HUNT exactly when `assembly` is empty; `rxLast` is when the
latest byte arrived. -/
structure HostPort where
  assembly : List Byte
  rxLast : Time
  reply : Option ReplyFrame
  collided : List CollidedEntry
  tx : Option Sending
  hnq : List Notice
  pendingKinds : List NoticeKind
  warmPending : Bool
  deriving DecidableEq, Repr

/-! ### Field inputs and straps (introduction, 1.2 and 5) -/

/-- Two logic inputs that belong together: heads A and B of a point, or UP and DOWN of a barrier. -/
structure InputPair where
  fst : Bool
  snd : Bool
  deriving DecidableEq, Repr

/-- The levels at the inputs, set by the commands alone: heads, barrier contacts, lamp currents in mA, supply
inputs, HOST_READY and the strap pins. -/
structure Pins where
  heads : Vector InputPair 12
  contacts : Vector InputPair 4
  current : Vector Nat 10
  mains : Bool
  batt : Bool
  hostReady : Bool
  lrate : BitVec 2
  hrate : BitVec 2
  deriving DecidableEq, Repr

/-! ### The whole part -/

/-- The state of the FN418. `now` and `phase` are the crossing clock and the head tick within its millisecond;
`sample10` is the millisecond within the 10 ms sampling schedule (R105); `lrate` and `hrate` are the captured
straps. `free` counts the free values taken, and `pending` is the queue of waiting commands (both the model's). -/
structure State where
  part : Part
  now : Time
  phase : Nat
  sample10 : Nat
  lrate : BitVec 2
  hrate : BitVec 2
  pins : Pins
  points : Vector Point 12
  tStuck : Nat
  sections : Vector Sect 10
  slots : Vector Slot 4
  rwt : Nat
  seq : Sequencer
  lamps : LampDriver
  barriers : Vector Barrier 4
  faults : FaultManager
  supply : Supply
  line : LineController
  reports : ReportScheduler
  memory : RecordMemory
  counters : Vector Counter 32
  host : HostPort
  free : Nat
  pending : List Instr
  deriving DecidableEq, Repr

/-! ### Cold reset (R204) -/

/-- A point channel after a cold reset (R16). -/
def Point.cold : Point :=
  { track := none, position := 0, spacing := 1500, inService := false, winA := Window.off, winB := Window.off,
    accA := false, accB := false, seq := .idle, stamp := none, interval := none, rocked := false, leave := 0,
    headFault := false, quiet := none, lastCount := 0, quietMark := false }

/-- A section entry after a cold reset (R36). -/
def Sect.cold : Sect :=
  { track := none, aEnd := 0, bEnd := 0, role := .approach, state := none, count := 0, sweep := false }

/-- A slot after a cold reset (R40, R61). -/
def Slot.cold : Slot := { vLine := 44444, vFloor := 5000, accel := 0, record := none }

/-- The Sequencer after a cold reset (R63, R84). -/
def Sequencer.cold : Sequencer :=
  { state := none, entry := 0, exitMark := none, closureStart := 0, counted := false, longBin := false,
    longFlag := false, openMark := false, holdSignaller := false, holdLocal := false, tAmber := 3000,
    tPrelower := 4000, tExitDelay := 0, tMinOpen := 5000, tLong := 300000 }

/-- The L channels 1, 3, 6 and 8 (R86). -/
def leftChannels : List (Fin 10) := [1, 3, 6, 8]

/-- The R channels 2, 4, 7 and 9 (R86). -/
def rightChannels : List (Fin 10) := [2, 4, 7, 9]

/-- A lamp channel after a cold reset (R102), driven or not by the start-up flash. -/
def Lamp.cold (lit : Bool) : Lamp :=
  { enabled := false, iMin := 200, iMax := 1200, iOff := 50, lit := lit, failed := false, bad := 0, good := 0,
    stuckOn := false, darkRun := 0, current := none, litDue := none, darkDue := none }

/-- The Lamp Driver after a cold reset: the start-up flash begins with its L half (R88, R97, R102). -/
def LampDriver.cold : LampDriver :=
  { lamps := Vector.ofFn fun c => Lamp.cold (leftChannels.contains c),
    flash := { period := 1000, lOn := 450, g1 := 50, rOn := 450, g2 := 50, settle := 60 },
    gen := none, startUp := some ⟨true, 0⟩, test := none }

/-- A filter that shows one value (R118, R136). -/
def Filter.full (v : Bool) : Filter := ⟨v, v, v⟩

/-- A barrier channel after a cold reset (R117). -/
def Barrier.cold : Barrier :=
  { configured := false, role := .entry, side := .a, lower := ⟨1500, 8000, 9000⟩, raise := ⟨1500, 8000, 9000⟩,
    state := none, phase := none, motionStart := none, phaseStart := none, holdOut := false, raiseOut := false,
    up := Filter.full false, down := Filter.full false, dropped := none, lostDown := none, disturbed := false,
    detail := 0, settled := none }

/-- An empty slot of the fault table. -/
def FaultSlot.empty : FaultSlot := ⟨none, false, none, false⟩

/-- The Fault Manager after a cold reset (R139). -/
def FaultManager.cold : FaultManager :=
  { table := Vector.replicate 32 FaultSlot.empty, latch := false, mode := none }

/-- The Line Controller after a cold reset (R142, R159). -/
def LineController.cold : LineController :=
  { own := none, groups := Vector.replicate 4 none, beaconMs := 2000, tHealth := 60, tRepeat := 30, link := .down,
    firstBeacon := none, lastBeacon := none, rx := .skipping, assembly := [], headBits := [], quiet := 0, bitAcc := 0,
    raisedAlarm := false, raisedState := false, raisedRoutine := false, wait := none, waitTest := false,
    inFlight := none }

/-- The Report Scheduler after a cold reset (R175). -/
def ReportScheduler.cold : ReportScheduler :=
  { confirm := none, confirmRenewed := false, stateMark := false, healthMark := false, stateRenewed := false,
    healthRenewed := false, healthTimer := none }

/-- Record Memory after a cold reset (R176, R183, R186). -/
def RecordMemory.cold : RecordMemory :=
  { configured := ⟨64, 32, 32⟩, layout := ⟨64, 32, 32⟩, log := [], nextSeq := 0, armed := true, passages := [],
    nextPassage := 0 }

/-- The Host Port after a cold reset (R204). -/
def HostPort.cold : HostPort :=
  { assembly := [], rxLast := 0, reply := none, collided := [], tx := none, hnq := [], pendingKinds := [],
    warmPending := false }

/-- Every input low, no current, both strap pairs 00 (log entry 10). -/
def Pins.low : Pins :=
  { heads := Vector.replicate 12 ⟨false, false⟩, contacts := Vector.replicate 4 ⟨false, false⟩,
    current := Vector.replicate 10 0, mains := false, batt := false, hostReady := false, lrate := 0, hrate := 0 }

/-- The part right after a cold reset (R204): in CONFIG, the crossing clock at 0, every block in its cold-reset
state, the straps captured from the strap pins. The queue is empty. -/
def State.reset : State :=
  { part := .config, now := 0, phase := 0, sample10 := 0, lrate := 0, hrate := 0, pins := Pins.low,
    points := Vector.replicate 12 Point.cold, tStuck := 10000, sections := Vector.replicate 10 Sect.cold,
    slots := Vector.replicate 4 Slot.cold, rwt := 30000, seq := Sequencer.cold, lamps := LampDriver.cold,
    barriers := Vector.replicate 4 Barrier.cold, faults := FaultManager.cold,
    supply := ⟨Filter.full false, Filter.full false⟩, line := LineController.cold, reports := ReportScheduler.cold,
    memory := RecordMemory.cold, counters := Vector.replicate 32 ⟨0, false, false⟩, host := HostPort.cold,
    free := 0, pending := [] }

end Sys2Proof.Machine
end

