-- ==== Sys2Proof/Machine/Bytes.lean ====
section
/-! DEFINITION. Bytes, byte order and the check code (ch. 12, R206, R207), and the code of every enumerated item
(ch. 12.1, 12.2, 12.5). Multi-byte fields are sent most significant byte first (introduction, 4.3). -/

namespace Sys2Proof.Machine

/-- The low byte of a number. -/
def byte (n : Nat) : Byte := BitVec.ofNat 8 n

/-- A number as two, three or four bytes, most significant first. -/
def be16 (n : Nat) : List Byte := [byte (n / 256), byte n]
def be24 (n : Nat) : List Byte := [byte (n / 65536), byte (n / 256), byte n]
def be32 (n : Nat) : List Byte := [byte (n / 16777216), byte (n / 65536), byte (n / 256), byte n]

/-- A time as four bytes. -/
def timeBytes (t : Time) : List Byte := be32 t.toNat

/-- An absent time is sent as 0, its presence in a flag of its own (R207). -/
def timeOrZero (t : Option Time) : List Byte := timeBytes (t.getD 0)

/-- The number in two or four bytes, most significant first. -/
def rd16 (a b : Byte) : Nat := a.toNat * 256 + b.toNat
def rd32 (a b c d : Byte) : Nat := ((a.toNat * 256 + b.toNat) * 256 + c.toNat) * 256 + d.toNat

/-- A 32-bit two's-complement number (R207). -/
def signed32 (n : Nat) : Int := if n < 2147483648 then (n : Int) else (n : Int) - 4294967296

/-- One bit of a byte, as a number. -/
def flag (b : Bool) : Nat := if b then 1 else 0

/-- Bits packed into a number, the first at bit 0. -/
def packBits : List Bool → Nat
  | [] => 0
  | b :: bs => flag b + 2 * packBits bs

/-- Two-bit fields packed into a number, the first at bits 1-0. -/
def packPairs : List Nat → Nat
  | [] => 0
  | n :: ns => n + 4 * packPairs ns

/-- Data bytes not named are zero (ch. 12.5): a data field of eight bytes. -/
def pad8 (l : List Byte) : List Byte := (l ++ List.replicate 8 0).take 8

/-! ### The check code (R206) -/

/-- One bit through the cyclic redundancy check x^16 + x^12 + x^5 + 1. -/
def crcBit (c : BitVec 16) (bit : Bool) : BitVec 16 :=
  if (c.msb != bit) then (c <<< 1) ^^^ 0x1021 else c <<< 1

/-- One byte through the check, most significant bit first. -/
def crcByte (c : BitVec 16) (b : Byte) : BitVec 16 :=
  [7, 6, 5, 4, 3, 2, 1, 0].foldl (fun c i => crcBit c (b.getLsbD i)) c

/-- The check code: initial value FFFFh, no final inversion (R206). -/
def crc16 (l : List Byte) : BitVec 16 := l.foldl crcByte 0xFFFF

/-- The two check bytes appended to a frame, high byte first (R206). -/
def crcBytes (l : List Byte) : List Byte := be16 (crc16 l).toNat

/-! ### Codes -/

def Part.code : Part → Nat
  | .config => 0
  | .run => 1

def Track.code : Track → Nat
  | .one => 1
  | .two => 2

/-- Track 1 or 2, 0 for not used (ch. 12.1). -/
def trackCode (t : Option Track) : Nat := (t.map Track.code).getD 0

def Dir.code : Dir → Nat
  | .aToB => 0
  | .bToA => 1

def Side.code : Side → Nat
  | .a => 0
  | .b => 1

def Result.code : Result → Nat
  | .ok => 0x00
  | .unknownKind => 0x01
  | .badLength => 0x02
  | .outOfRange => 0x03
  | .wrongState => 0x04
  | .busy => 0x05
  | .collided => 0x06
  | .invalidConfig => 0x07
  | .notDisturbed => 0x08
  | .pointsActive => 0x09
  | .severeActive => 0x0A

def HeadSeq.code : HeadSeq → Nat
  | .idle => 0
  | .ab1 => 1
  | .ab2 => 2
  | .ab3 => 3
  | .ba1 => 4
  | .ba2 => 5
  | .ba3 => 6
  | .skew => 7

def SectionState.code : SectionState → Nat
  | .clear => 0
  | .occupied => 1
  | .disturbed => 2
  | .prepared => 3

def SectionRole.code : SectionRole → Nat
  | .approach => 0
  | .island => 1

def TrainPhase.code : TrainPhase → Nat
  | .approaching => 1
  | .arrived => 2

def CommitCause.code : CommitCause → Nat
  | .prediction => 0
  | .timer => 1
  | .prepared => 2
  | .guard => 3
  | .arrival => 4

def TrainOutcome.code : TrainOutcome → Nat
  | .passed => 0
  | .withdrawn => 1

def SeqState.code : SeqState → Nat
  | .roadOpen => 0
  | .amber => 1
  | .redWait => 2
  | .lowerEntry => 3
  | .lowerExit => 4
  | .closed => 5
  | .raising => 6

def SeqCause.code : SeqCause → Nat
  | .demand => 0
  | .timer => 1
  | .barriers => 2
  | .guardPassed => 3
  | .barrierFault => 4
  | .start => 5
  | .hold => 6

def FlashPart.code : FlashPart → Nat
  | .lOn => 0
  | .g1 => 1
  | .rOn => 2
  | .g2 => 3

def BarrierRole.code : BarrierRole → Nat
  | .entry => 0
  | .exit => 1

def BarrierState.code : BarrierState → Nat
  | .heldUp => 0
  | .lowering => 1
  | .down => 2
  | .raising => 3
  | .fault => 4

def MotionPhase.code : MotionPhase → Nat
  | .leave => 0
  | .travel => 1

def FaultKind.code : FaultKind → Nat
  | .sectionDisturbed => 1
  | .headFault => 2
  | .overspeed => 3
  | .shortWarning => 4
  | .lateClosure => 5
  | .lampFail => 6
  | .lampStuckOn => 7
  | .roadSideDark => 8
  | .barrierFail => 9
  | .barrierDisturbed => 10
  | .longClosure => 11
  | .linkLost => 12
  | .supplyMains => 13
  | .supplyBattery => 14
  | .tableFull => 15

/-- Every fault kind, in code order (R120). -/
def faultKinds : List FaultKind :=
  [.sectionDisturbed, .headFault, .overspeed, .shortWarning, .lateClosure, .lampFail, .lampStuckOn, .roadSideDark,
   .barrierFail, .barrierDisturbed, .longClosure, .linkLost, .supplyMains, .supplyBattery, .tableFull]

/-- The fault kind a code names. -/
def FaultKind.ofCode (n : Nat) : Option FaultKind := faultKinds.find? fun k => k.code == n

def FaultClass.code : FaultClass → Nat
  | .severe => 0
  | .minor => 1
  | .notice => 2

def FaultState.code : FaultState → Nat
  | .activeUnacked => 0
  | .activeAcked => 1
  | .clearedUnacked => 2

def Mode.code : Mode → Nat
  | .auto => 0
  | .degraded => 1
  | .failed => 2

def ModeCause.code : ModeCause → Nat
  | .raised => 0
  | .ended => 1
  | .ack => 2
  | .release => 3
  | .start => 4

def LinkState.code : LinkState → Nat
  | .down => 0
  | .sync => 1
  | .active => 2
  | .lost => 3

def LinkCause.code : LinkCause → Nat
  | .beacon => 0
  | .timeout => 1
  | .start => 2

def LineClass.code : LineClass → Nat
  | .alarm => 0
  | .state => 1
  | .routine => 2

def RxState.code : RxState → Nat
  | .idle => 0
  | .assembling => 1
  | .skipping => 2

def LogKind.code : LogKind → Nat
  | .seqState => 1
  | .mode => 2
  | .record => 3
  | .sectionState => 4
  | .fault => 5
  | .sigCmd => 6
  | .hostCmd => 7
  | .link => 8

def NoticeKind.code : NoticeKind → Nat
  | .state => 0x60
  | .fault => 0x61
  | .link => 0x62
  | .counter => 0x63
  | .logLevel => 0x64
  | .passage => 0x65
  | .lampTestDone => 0x66
  | .resync => 0x67

/-- An absent one-byte code is FFh (R207). -/
def codeOrFF (n : Option Nat) : Byte := byte (n.getD 0xFF)

end Sys2Proof.Machine
end

