-- ==== Sys2Proof/Machine/Clock.lean ====
section
/-! DEFINITION. Comparisons on the crossing clock (introduction, 4.2): every comparison is made on a difference
taken modulo 2^32. The introduction says that each is less than 2^31; two of the rules' have no such bound (log entry 27). -/

namespace Sys2Proof.Machine

/-- Milliseconds that have passed since `t`. -/
def elapsed (now t : Time) : Nat := (now - t).toNat

/-- "Time t is at or before time u": u minus t, modulo 2^32, is less than 2^31. -/
def atOrBefore (t u : Time) : Bool := decide (elapsed u t < 2147483648)

/-- The time `ms` milliseconds after `t`. -/
def later (t : Time) (ms : Nat) : Time := t + BitVec.ofNat 32 ms

/-- Head ticks from one tick to a later one (R3). -/
def ticksSince (now : Tick) (t : Tick) : Nat :=
  (Config.ticksPerMs * elapsed now.ms t.ms + now.phase) - t.phase

/-- Whether at least `ms` milliseconds have passed since a time that is present. -/
def agedBy (now : Time) (t : Option Time) (ms : Nat) : Bool :=
  match t with
  | some t => decide (ms ≤ elapsed now t)
  | none => false

/-- Whether more than `ms` milliseconds have passed since a time that is present. -/
def agedPast (now : Time) (t : Option Time) (ms : Nat) : Bool :=
  match t with
  | some t => decide (ms < elapsed now t)
  | none => false

/-- Whether a moment that is present has been reached. -/
def reached (now : Time) (t : Option Time) : Bool :=
  match t with
  | some t => atOrBefore t now
  | none => false

end Sys2Proof.Machine
end

