-- ==== Sys2Proof/Machine/Flags.lean ====
section
/-! DEFINITION. Conditions and status derived from the state: head acceptance (R3), clear sections (R35), the
closure demand (R64), dark road sides (R96), fault classes and the crossing mode (R120, R131), what is due for
report (R167, R168). -/

namespace Sys2Proof

/-- How many of the five samples are on. -/
def Window.ons (w : Window) : Nat := Machine.flag w.s0 + Machine.flag w.s1 + Machine.flag w.s2 + Machine.flag w.s3 + Machine.flag w.s4

/-- The accepted state: the one shown by at least three of the five samples (R3). -/
def Window.accepted (w : Window) : Bool := decide (3 ≤ w.ons)

/-- The new sample enters the window and the oldest leaves it (R3). -/
def Window.push (w : Window) (v : Bool) : Window := ⟨w.s1, w.s2, w.s3, w.s4, v⟩

/-- A window of five copies of one sample (R17). -/
def Window.fill (v : Bool) : Window := ⟨v, v, v, v, v⟩

end Sys2Proof

namespace Sys2Proof.Machine

/-! ### The numbers of the tables -/

def allPoints : List (Fin 12) := [0, 1, 2, 3, 4, 5, 6, 7, 8, 9, 10, 11]
def allSections : List (Fin 10) := [0, 1, 2, 3, 4, 5, 6, 7, 8, 9]
def allSlots : List (Fin 4) := [0, 1, 2, 3]
def allLamps : List (Fin 10) := [0, 1, 2, 3, 4, 5, 6, 7, 8, 9]
def allBarriers : List (Fin 4) := [0, 1, 2, 3]
def allGeneral : List (Fin 32) :=
  [0, 1, 2, 3, 4, 5, 6, 7, 8, 9, 10, 11, 12, 13, 14, 15, 16, 17, 18, 19, 20, 21, 22, 23, 24, 25, 26, 27, 28, 29, 30]
def allFaultSlots : List (Fin 32) := allGeneral ++ [31]

/-! ### Points -/

/-- A DIRECT restore's test of one point: in IDLE with its quiet mark set (R32). -/
def Point.still (p : Point) : Bool := p.seq == .idle && p.quietMark

/-! ### Sections -/

/-- An entry whose track is set is in use (R20). -/
def Sect.inUse (c : Sect) : Bool := c.track.isSome

/-- CLEAR and PREPARED count as clear (R35). -/
def Sect.isClear (c : Sect) : Bool := c.state == some .clear || c.state == some .prepared

/-- OCCUPIED and DISTURBED count as not clear (R35). -/
def Sect.notClear (c : Sect) : Bool := c.state == some .occupied || c.state == some .disturbed

/-- An island section in use. -/
def Sect.isIsland (c : Sect) : Bool := c.inUse && c.role == .island

/-! ### The closure demand -/

/-- Whether a slot holds a committed record. -/
def Slot.demands (k : Slot) : Bool :=
  match k.record with
  | some r => r.committed
  | none => false

/-- The closure demand: a committed record, an island not clear, a member of the hold set, or the mode
FAILED (R64). -/
def State.demand (s : State) : Bool :=
  (allSlots.any fun k => s.slots[k].demands) ||
  (allSections.any fun i => s.sections[i].isIsland && s.sections[i].notClear) ||
  s.seq.holdSignaller || s.seq.holdLocal || s.faults.mode == some .failed

/-! ### Lamps -/

/-- The road side of a lamp channel (R86). -/
def lampSide (c : Fin 10) : Side := if c.val < 5 then .a else .b

/-- Whether a channel is an amber (R86). -/
def isAmber (c : Fin 10) : Bool := c == 0 || c == 5

/-- The L and R channels of a road side (R86). -/
def leftOf : Side → List (Fin 10)
  | .a => [1, 3]
  | .b => [6, 8]

def rightOf : Side → List (Fin 10)
  | .a => [2, 4]
  | .b => [7, 9]

/-- All enabled channels of a list are FAILED. -/
def LampDriver.allFailed (d : LampDriver) (cs : List (Fin 10)) : Bool :=
  cs.all fun c => !d.lamps[c].enabled || d.lamps[c].failed

/-- A road side is dark when all of its enabled L channels, or all of its enabled R channels, are FAILED; a side
with no enabled red channel is not tested (R96). -/
def LampDriver.sideDark (d : LampDriver) (x : Side) : Bool :=
  ((leftOf x ++ rightOf x).any fun c => d.lamps[c].enabled) &&
    (d.allFailed (leftOf x) || d.allFailed (rightOf x))

/-- The detail of ROAD_SIDE_DARK: 1 the L group alone, 2 the R group alone, 3 both (R96). -/
def LampDriver.darkDetail (d : LampDriver) (x : Side) : Nat :=
  flag (d.allFailed (leftOf x)) + 2 * flag (d.allFailed (rightOf x))

/-! ### Barriers -/

/-- Every configured barrier passes a test; a channel that is not configured is passed over (R103). -/
def State.barriersAll (s : State) (p : Barrier → Bool) : Bool :=
  allBarriers.all fun b => !s.barriers[b].configured || p s.barriers[b]

/-- Some configured barrier has role EXIT (R69). -/
def State.hasExit (s : State) : Bool :=
  allBarriers.any fun b => s.barriers[b].configured && s.barriers[b].role == .exit

def Barrier.isDown (b : Barrier) : Bool := b.state == some .down
def Barrier.isHeldUp (b : Barrier) : Bool := b.state == some .heldUp

/-- A barrier in DOWN or FAULT counts as finished for LOWER_ENTRY and LOWER_EXIT (R69, R114). -/
def Barrier.finished (b : Barrier) : Bool := b.state == some .down || b.state == some .fault

/-! ### Faults and the mode -/

/-- The class of each kind (R120). -/
def FaultKind.cls : FaultKind → FaultClass
  | .sectionDisturbed | .roadSideDark | .barrierFail | .tableFull => .severe
  | .headFault | .lateClosure | .lampFail | .lampStuckOn | .barrierDisturbed | .supplyBattery => .minor
  | .overspeed | .shortWarning | .longClosure | .linkLost | .supplyMains => .notice

/-- Event kinds have no ending condition (R120). -/
def FaultKind.isEvent : FaultKind → Bool
  | .overspeed | .shortWarning | .lateClosure => true
  | _ => false

/-- The objects R120 gives each kind. -/
def FaultKind.objectOk (k : FaultKind) (o : Nat) : Bool :=
  match k with
  | .sectionDisturbed | .lampFail | .lampStuckOn => decide (o < 10)
  | .headFault | .overspeed => decide (o < 12)
  | .shortWarning | .lateClosure => o == 1 || o == 2
  | .roadSideDark => decide (o < 2)
  | .barrierFail | .barrierDisturbed => decide (o < 4)
  | .longClosure | .linkLost | .supplyMains | .supplyBattery | .tableFull => o == 0

/-- A record in ACTIVE_UNACKED or ACTIVE_ACKED is active (R121). -/
def FaultRecord.active (r : FaultRecord) : Bool := r.state != .clearedUnacked

/-- Some slot holds an active record of a class. -/
def FaultManager.anyActive (f : FaultManager) (c : FaultClass) : Bool :=
  allFaultSlots.any fun i => f.table[i].record.any fun r => r.cls == c && r.active

/-- The number of active records of a class, over slots 0 to 31. -/
def FaultManager.countActive (f : FaultManager) (c : FaultClass) : Nat :=
  (allFaultSlots.filter fun i => f.table[i].record.any fun r => r.cls == c && r.active).length

/-- The crossing mode derived from the latch and the table (R131). -/
def FaultManager.derived (f : FaultManager) : Mode :=
  if f.latch then .failed else if f.anyActive .minor then .degraded else .auto

/-! ### What is due for report -/

/-- A record is due when its state differs from the last reported one or its forced mark is set (R167). -/
def FaultSlot.due (x : FaultSlot) : Bool :=
  match x.record with
  | some r => decide (r.lastReported ≠ some r.state) || x.forced
  | none => false

/-- The slots holding a due record of a class. -/
def FaultManager.dueSlots (f : FaultManager) (p : FaultClass → Bool) : List (Fin 32) :=
  allFaultSlots.filter fun i => f.table[i].due && f.table[i].record.any fun r => p r.cls

def isSevere (c : FaultClass) : Bool := c == .severe
def notSevere (c : FaultClass) : Bool := c != .severe

/-- The Report Scheduler holds content of a class (R168). -/
def State.holdsContent (s : State) : LineClass → Bool
  | .alarm => !(s.faults.dueSlots isSevere).isEmpty
  | .state => s.reports.confirm.isSome || s.reports.stateMark
  | .routine => !(s.faults.dueSlots notSevere).isEmpty || s.reports.healthMark

/-- The highest class of which content is held, ALARM before STATE before ROUTINE (R151, R168). -/
def State.highestContent (s : State) : Option LineClass :=
  if s.holdsContent .alarm then some .alarm
  else if s.holdsContent .state then some .state
  else if s.holdsContent .routine then some .routine
  else none

/-- The access wait of a class in bit-times, base or raised (R150). -/
def LineController.waitBits (l : LineController) : LineClass → Nat
  | .alarm => if l.raisedAlarm then 10 else 8
  | .state => if l.raisedState then 12 else 10
  | .routine => if l.raisedRoutine then 14 else 12

/-- KIND codes of the signaller line (ch. 12.3). -/
def kindBeacon : Byte := 0x01
def kindPoll : Byte := 0x02
def kindAck : Byte := 0x03
def kindRestore : Byte := 0x04
def kindHold : Byte := 0x05
def kindRelease : Byte := 0x06
def kindStatus : Byte := 0x41
def kindFaultReport : Byte := 0x42
def kindConfirm : Byte := 0x43

/-- A frame of the part carrying a STATUS, or a CONFIRM, is in flight, its content frozen: its start bit has begun (R170). -/
def LineController.sendingKind (l : LineController) (k : Byte) : Bool :=
  match l.inFlight with
  | some f => f.begun && f.kind == k
  | none => false

end Sys2Proof.Machine
end

