-- ==== Sys2Proof/Machine/Ops.lean ====
section
/-! DEFINITION. The named operations every block shares: single-entry updates of the tables, the notice queue
(R199, R200), the statistics counters (R187, R188), the event log (R178 to R182), the state-status mark (R165),
and `emit`, which carries out what a block hands to these. -/

namespace Sys2Proof.Machine

/-! ### Single-entry updates -/

def State.setPoint (s : State) (p : Fin 12) (f : Point → Point) : State := { s with points := upd s.points p f }
def State.setSect (s : State) (i : Fin 10) (f : Sect → Sect) : State := { s with sections := upd s.sections i f }
def State.setSlot (s : State) (k : Fin 4) (f : Slot → Slot) : State := { s with slots := upd s.slots k f }
def State.setBarrier (s : State) (b : Fin 4) (f : Barrier → Barrier) : State :=
  { s with barriers := upd s.barriers b f }
def State.setLamp (s : State) (c : Fin 10) (f : Lamp → Lamp) : State :=
  { s with lamps := { s.lamps with lamps := upd s.lamps.lamps c f } }
def State.setSeq (s : State) (f : Sequencer → Sequencer) : State := { s with seq := f s.seq }
def State.setLamps (s : State) (f : LampDriver → LampDriver) : State := { s with lamps := f s.lamps }
def State.setFaults (s : State) (f : FaultManager → FaultManager) : State := { s with faults := f s.faults }
def State.setSupply (s : State) (f : Supply → Supply) : State := { s with supply := f s.supply }
def State.setLine (s : State) (f : LineController → LineController) : State := { s with line := f s.line }
def State.setReports (s : State) (f : ReportScheduler → ReportScheduler) : State := { s with reports := f s.reports }
def State.setMemory (s : State) (f : RecordMemory → RecordMemory) : State := { s with memory := f s.memory }
def State.setHost (s : State) (f : HostPort → HostPort) : State := { s with host := f s.host }
def State.setPins (s : State) (f : Pins → Pins) : State := { s with pins := f s.pins }
def State.setCounter (s : State) (i : Fin 32) (f : Counter → Counter) : State :=
  { s with counters := upd s.counters i f }

/-! ### Free values -/

/-- The next free order (log entry 3); the caller advances `free` with `State.tookFree`. -/
def State.order (s : State) : Bool := Config.freeOrder s.free

/-- One free value has been taken. -/
def State.tookFree (s : State) : State := { s with free := s.free + 1 }

/-! ### The host notice queue (R199, R200) -/

/-- Bytes of a notice's frame: LEN + 4, with LEN counting KIND, TAG and payload (R191, R199). -/
def Notice.size (n : Notice) : Nat := n.payload.length + 6

/-- Bytes of the notices held. -/
def hnqUsed (q : List Notice) : Nat := (q.map Notice.size).sum

/-- Free bytes of the HNQ partition: 64 × H less the bytes held (R199). -/
def State.hnqFree (s : State) : Nat := 64 * s.memory.layout.hnq - hnqUsed s.host.hnq

/-- A kind joins the pending set, where a kind already present is not added twice (R200). -/
def addKind (ks : List NoticeKind) (k : NoticeKind) : List NoticeKind := if k ∈ ks then ks else ks ++ [k]

/-- A notice is queued when the pending set is empty and it fits; otherwise its kind joins the set (R200). -/
def queueNotice (n : Notice) (s : State) : State :=
  if s.host.pendingKinds = [] ∧ n.size ≤ s.hnqFree then
    s.setHost fun h => { h with hnq := h.hnq ++ [n] }
  else
    s.setHost fun h => { h with pendingKinds := addKind h.pendingKinds n.kind }

/-! ### Statistics counters (R187, R188) -/

/-- An increment raises the value by one unless it is saturated, and sets the flag of a mark it reaches. -/
def Counter.bumped (c : Counter) : Counter :=
  if Config.counterMax ≤ c.value then c
  else
    { value := c.value + 1, half := c.half || c.value + 1 == Config.counterHalf,
      full := c.full || c.value + 1 == Config.counterMax }

/-- Increments a counter and hands on the COUNTER notice of each flag newly set. -/
def bump (i : Fin 32) (s : State) : State :=
  let old := s.counters[i]
  let new := old.bumped
  let s := s.setCounter i fun _ => new
  let s := if new.half && !old.half then queueNotice ⟨.counter, [byte i.val, 0]⟩ s else s
  if new.full && !old.full then queueNotice ⟨.counter, [byte i.val, 1]⟩ s else s

/-! ### The event log (R177 to R182) -/

/-- Records the log holds at most (R180). -/
def RecordMemory.capacity (m : RecordMemory) : Nat := 4 * m.layout.log

/-- The oldest record makes room when the log holds its capacity (R180). -/
def RecordMemory.makeRoom (m : RecordMemory) : List LogRecord :=
  if m.capacity ≤ m.log.length then m.log.drop 1 else m.log

/-- Adds a record as the newest, with the next sequence number (R179), and disarms the level flag when the write
brings the log to 3 × L records (R182). -/
def RecordMemory.append (m : RecordMemory) (now : Time) (k : LogKind) (object : Nat) (data : List Byte) :
    RecordMemory :=
  let log := m.makeRoom ++ [⟨m.nextSeq, now, k, object, pad8 data⟩]
  { m with log := log, nextSeq := m.nextSeq + 1, armed := m.armed && log.length != 3 * m.layout.log }

/-- The LOG_LEVEL notice: records held and capacity (R182). -/
def levelNotice (m : RecordMemory) : Notice := ⟨.logLevel, be16 m.log.length ++ be16 m.capacity⟩

/-- Writes a log record in RUN; none is written in CONFIG (R177). -/
def writeLog (k : LogKind) (object : Nat) (data : List Byte) (s : State) : State :=
  if s.part = .run then
    let m := s.memory.append s.now k object data
    let s' := s.setMemory fun _ => m
    if s.memory.armed && !m.armed then queueNotice (levelNotice m) s' else s'
  else s

/-! ### State notices and the state-status mark -/

/-- The hold set as bits: SIGNALLER 1, LOCAL 2 (ch. 12.2, 12.5). -/
def Sequencer.holdBits (q : Sequencer) : Nat := flag q.holdSignaller + 2 * flag q.holdLocal

/-- The STATE notice of the state as it stands (R199). -/
def State.stateNotice (s : State) : Notice :=
  ⟨.state, [codeOrFF (s.seq.state.map SeqState.code), codeOrFF (s.faults.mode.map Mode.code),
    byte (flag s.faults.latch), byte s.seq.holdBits]⟩

/-- A cause of R165 sets the state-status mark; while a frame carrying a STATUS is in flight it sets the mark's
renewed flag as well. -/
def statusDue (s : State) : State :=
  s.setReports fun r => { r with stateMark := true, stateRenewed := r.stateRenewed || s.line.sendingKind kindStatus }

/-! ### What a block hands on -/

/-- What a block hands to Record Memory, the Host Port, the counters and the Report Scheduler. -/
inductive Output where
  | log (k : LogKind) (object : Nat) (data : List Byte)
  | notice (n : Notice)
  | stateNotice
  | count (i : Fin 32)
  | statusDue
  deriving DecidableEq, Repr

/-- Carries out one output. -/
def emit1 (s : State) : Output → State
  | .log k object data => writeLog k object data s
  | .notice n => queueNotice n s
  | .stateNotice => queueNotice s.stateNotice s
  | .count i => bump i s
  | .statusDue => Sys2Proof.Machine.statusDue s

/-- Carries out outputs in the order the block hands them over. -/
def emit (os : List Output) (s : State) : State := os.foldl emit1 s

/-! ### The statistics counters by name (10.4) -/

def cntAxles (p : Fin 12) : Fin 32 := ⟨p.val, by omega⟩
def cntClosures : Fin 32 := 12
def cntTrainsPassed : Fin 32 := 13
def cntTrainsWithdrawn : Fin 32 := 14
def cntShortWarnings : Fin 32 := 15
def cntLateClosures : Fin 32 := 16
def cntSequenceErrors : Fin 32 := 17
def cntLampProofFails : Fin 32 := 18
def cntBarrierFaults : Fin 32 := 19
def cntLineGood : Fin 32 := 20
def cntLineBad : Fin 32 := 21
def cntArbLost : Fin 32 := 22
def cntLineSent : Fin 32 := 23
def cntHostBad : Fin 32 := 24
def cntOverspeeds : Fin 32 := 31

/-- The closure histogram's counter for a length (R81). -/
def cntClosureBin (ms : Nat) : Fin 32 :=
  if ms < 30000 then 25
  else if ms < 60000 then 26
  else if ms < 120000 then 27
  else if ms < 240000 then 28
  else if ms < 480000 then 29
  else 30

end Sys2Proof.Machine
end

