-- ==== Sys2Proof/Machine/FaultTable.lean ====
section
/-! DEFINITION. The Fault Manager (ch. 7): raising (R123 to R125), the end of a condition (R126, R127),
acknowledging (R128, R129), the latch and the mode (R130 to R133), release (R134).

The operations on the table are pure: they give the new Fault Manager and what it hands on (R137). -/

namespace Sys2Proof.Machine

/-- Actions of a FAULT record (R137). -/
inductive FaultAction where
  | created
  | replaced
  | raised
  | cleared
  | acked
  | removed
  | lost
  deriving DecidableEq, Repr

def FaultAction.code : FaultAction → Nat
  | .created => 0
  | .replaced => 1
  | .raised => 2
  | .cleared => 3
  | .acked => 4
  | .removed => 5
  | .lost => 6

/-- Requester of an acknowledge (R137). -/
inductive Requester where
  | none
  | signaller
  | host
  deriving DecidableEq, Repr

def Requester.code : Requester → Nat
  | .none => 0
  | .signaller => 1
  | .host => 2

/-- The data of a FAULT record (ch. 12.5). -/
def faultData (act : FaultAction) (r : FaultRecord) (count : Byte) (after : Option FaultState)
    (slot : Option (Fin 32)) (req : Requester) : List Byte :=
  [byte r.kind.code, byte r.cls.code, byte act.code, codeOrFF (after.map FaultState.code), byte r.detail, count,
   codeOrFF (slot.map Fin.val), byte req.code]

/-- Each change of a record writes one FAULT record and queues one FAULT notice with the same items but the
requester (R137). -/
def faultOuts (act : FaultAction) (r : FaultRecord) (count : Byte) (after : Option FaultState)
    (slot : Option (Fin 32)) (req : Requester) : List Output :=
  let d := faultData act r count after slot req
  [.log .fault r.object d, .notice ⟨.fault, byte r.object :: d.take 7⟩]

/-- A change of the Fault Manager: its new state and what it hands on. -/
abbrev FaultStep := FaultManager × List Output

/-- One change after another. -/
def FaultStep.next (x : FaultStep) (g : FaultManager → FaultStep) : FaultStep :=
  let y := g x.1
  (y.1, x.2 ++ y.2)

/-! ### Search and placement -/

/-- The slot holding the record of a kind and object (R122). -/
def FaultManager.find (f : FaultManager) (k : FaultKind) (o : Nat) : Option (Fin 32) :=
  allFaultSlots.find? fun i => f.table[i].record.any fun r => r.kind == k && r.object == o

/-- How early a record's last change time is: a record whose aged mark is set counts as earlier than one whose
mark is clear, and two aged ones as equal (R124, R169). -/
def FaultManager.age (f : FaultManager) (now : Time) (i : Fin 32) : Nat :=
  if f.table[i].aged then 4294967296
  else match f.table[i].record with
    | some r => elapsed now r.last
    | none => 0

/-- The earliest of two slots, the first on a tie. -/
def FaultManager.earlier (f : FaultManager) (now : Time) (best : Option (Fin 32)) (i : Fin 32) : Option (Fin 32) :=
  match best with
  | none => some i
  | some b => if f.age now b < f.age now i then some i else some b

/-- The general slot of the CLEARED_UNACKED record of a class with the earliest last change time (R124). -/
def FaultManager.replaceable (f : FaultManager) (now : Time) (c : FaultClass) : Option (Fin 32) :=
  (allGeneral.filter fun i => f.table[i].record.any fun r => r.cls == c && r.state == .clearedUnacked).foldl
    (f.earlier now) none

/-- Where a raise goes: the record present (R123), or the slot the first step of R124 that finds one gives, or
nowhere (R125). -/
inductive Placement where
  | present (i : Fin 32)
  | free (i : Fin 32)
  | replaces (i : Fin 32)
  | lost
  deriving DecidableEq, Repr

def FaultManager.place (f : FaultManager) (now : Time) (k : FaultKind) (o : Nat) : Placement :=
  match f.find k o with
  | some i => .present i
  | none =>
    match allGeneral.find? fun i => f.table[i].record.isNone with
    | some i => .free i
    | none =>
      match f.replaceable now .notice with
      | some i => .replaces i
      | none =>
        match f.replaceable now .minor with
        | some i => .replaces i
        | none => .lost

/-! ### Raise -/

/-- The latch is set whenever a SEVERE record becomes active (R130). -/
def FaultManager.latchFor (f : FaultManager) (c : FaultClass) : FaultManager :=
  { f with latch := f.latch || c == .severe }

/-- An existing record is raised again (R123). -/
def FaultManager.reraise (f : FaultManager) (now : Time) (i : Fin 32) (detail : Nat) : FaultStep :=
  match f.table[i].record with
  | none => (f, [])
  | some r =>
    let r' := { r with state := .activeUnacked, detail := detail, count := min 255 (r.count + 1), last := now }
    ({ f.latchFor r.cls with table := upd f.table i fun x => { x with record := some r', aged := false } },
     faultOuts .raised r' (byte r'.count) (some .activeUnacked) (some i) .none)

/-- A new record (R124). -/
def FaultRecord.fresh (k : FaultKind) (o detail : Nat) (now : Time) : FaultRecord :=
  { kind := k, object := o, cls := k.cls, state := .activeUnacked, detail := detail, count := 1, first := now,
    last := now, lastReported := none, lastReport := none }

/-- A new record takes a slot, whose forced, carried and aged marks start clear (R124, R167, R170). -/
def FaultManager.create (f : FaultManager) (now : Time) (i : Fin 32) (k : FaultKind) (o detail : Nat) : FaultStep :=
  let r := FaultRecord.fresh k o detail now
  ({ f.latchFor k.cls with table := f.table.set i ⟨some r, false, none, false⟩ },
   faultOuts .created r (byte 1) (some .activeUnacked) (some i) .none)

/-- The raise of TABLE_FULL for a fault not recorded: always slot 31 (R125). -/
def FaultManager.raiseTableFull (f : FaultManager) (now : Time) (k : FaultKind) : FaultStep :=
  match f.table[(31 : Fin 32)].record with
  | some _ => f.reraise now 31 k.code
  | none => f.create now 31 .tableFull 0 k.code

/-- A raise (R123 to R125). `lostCount` is the free byte of the LOST record's occurrence count (log entry 5). -/
def FaultManager.raised (f : FaultManager) (now : Time) (lostCount : Byte) (k : FaultKind) (o detail : Nat) :
    FaultStep :=
  match f.place now k o with
  | .present i => f.reraise now i detail
  | .free i => f.create now i k o detail
  | .replaces i =>
    let gone := match f.table[i].record with
      | some r => faultOuts .replaced r (byte r.count) none (some i) .none
      | none => []
    FaultStep.next (f, gone) fun f => f.create now i k o detail
  | .lost =>
    FaultStep.next (f, faultOuts .lost (FaultRecord.fresh k o detail now) lostCount none none .none) fun f =>
      f.raiseTableFull now k

/-! ### Condition end -/

/-- The record of a slot leaves the table; its slot and marks are free at once (R122, R167, R170). -/
def FaultManager.remove (f : FaultManager) (i : Fin 32) (req : Requester) : FaultStep :=
  match f.table[i].record with
  | none => (f, [])
  | some r => ({ f with table := f.table.set i FaultSlot.empty }, faultOuts .removed r (byte r.count) none (some i) req)

/-- A record takes a new state at an end or an acknowledge, with last change time now. -/
def FaultManager.restate (f : FaultManager) (now : Time) (i : Fin 32) (st : FaultState) (act : FaultAction)
    (req : Requester) : FaultStep :=
  match f.table[i].record with
  | none => (f, [])
  | some r =>
    ({ f with table := upd f.table i fun x => { x with record := some { r with state := st, last := now }, aged := false } },
     faultOuts act r (byte r.count) (some st) (some i) req)

/-- The end of the condition of a slot's record (R127). -/
def FaultManager.endAt (f : FaultManager) (now : Time) (i : Fin 32) : FaultStep :=
  match f.table[i].record with
  | none => (f, [])
  | some r =>
    match r.state with
    | .activeUnacked => f.restate now i .clearedUnacked .cleared .none
    | .activeAcked => f.remove i .none
    | .clearedUnacked => (f, [])

/-- How many of the general slots are free. -/
def FaultManager.freeGeneral (f : FaultManager) : Nat :=
  (allGeneral.filter fun i => f.table[i].record.isNone).length

/-- The TABLE_FULL condition ends when at least 4 general slots are free (R126). -/
def FaultManager.testTableFull (f : FaultManager) (now : Time) : FaultStep :=
  if (f.table[(31 : Fin 32)].record.any FaultRecord.active) && decide (4 ≤ f.freeGeneral) then f.endAt now 31
  else (f, [])

/-- The end of a condition by itself (R127); an end of an event kind or of a record that is not there is ignored. -/
def FaultManager.endOf (f : FaultManager) (now : Time) (k : FaultKind) (o : Nat) : FaultStep :=
  if k.isEvent then (f, [])
  else match f.find k o with
    | none => (f, [])
    | some i => f.endAt now i

/-- The end of a condition (R127), with the test of R126 after it when a record was found. -/
def FaultManager.ended (f : FaultManager) (now : Time) (k : FaultKind) (o : Nat) : FaultStep :=
  if k.isEvent then (f, [])
  else match f.find k o with
    | none => (f, [])
    | some i => FaultStep.next (f.endAt now i) fun f => f.testTableFull now

/-! ### Acknowledge -/

/-- An acknowledge of one record (R128). -/
def FaultManager.ackAt (f : FaultManager) (now : Time) (req : Requester) (i : Fin 32) : FaultStep :=
  match f.table[i].record with
  | none => (f, [])
  | some r =>
    match r.state with
    | .activeUnacked =>
      if r.kind.isEvent then f.remove i req else f.restate now i .activeAcked .acked req
    | .activeAcked => (f, [])
    | .clearedUnacked => f.remove i req

/-- A kind and object pair as a command carries it: two bytes. -/
abbrev AckPair := Nat × Nat

/-- The record a pair names, if the pair is in range (R129). -/
def AckPair.ok (x : AckPair) : Bool :=
  match FaultKind.ofCode x.1 with
  | some k => k.objectOk x.2
  | none => false

/-- An acknowledge of a pair's record; a pair with no record is ignored (R128). -/
def FaultManager.ackPair (f : FaultManager) (now : Time) (req : Requester) (x : AckPair) : FaultStep :=
  match FaultKind.ofCode x.1 with
  | none => (f, [])
  | some k =>
    match f.find k x.2 with
    | none => (f, [])
    | some i => f.ackAt now req i

/-- What an acknowledge command names (R129). -/
inductive AckTarget where
  | all
  | pairs (l : List AckPair)
  deriving DecidableEq, Repr

/-- A whole acknowledge command: every pair in order, or every record, then the test of R126 once (R129). The manual gives
ALL no order: the slots are taken from 0 to 31 (log entry 7). -/
def FaultManager.acked (f : FaultManager) (now : Time) (req : Requester) (t : AckTarget) : FaultStep :=
  let done := match t with
    | .all => allFaultSlots.foldl (fun x i => FaultStep.next x fun f => f.ackAt now req i) (f, [])
    | .pairs l => l.foldl (fun x p => FaultStep.next x fun f => f.ackPair now req p) (f, [])
  FaultStep.next done fun f => f.testTableFull now

/-- A list is in range when it holds 1 to 6 pairs, each in range (R129). -/
def AckTarget.ok : AckTarget → Bool
  | .all => true
  | .pairs l => decide (1 ≤ l.length ∧ l.length ≤ 6) && l.all AckPair.ok

/-! ### On the whole state -/

/-- A change of the Fault Manager takes effect and hands on its outputs. -/
def applyFault (g : FaultManager → FaultStep) (s : State) : State :=
  let x := g s.faults
  emit x.2 { s with faults := x.1 }

/-- The mode is derived afresh; a change writes a MODE record, queues a STATE notice and makes a STATUS due
(R131, R133). -/
def deriveMode (cause : ModeCause) (s : State) : State :=
  if s.faults.mode = some s.faults.derived then s
  else
    emit [.log .mode 0 [codeOrFF (s.faults.mode.map Mode.code), byte s.faults.derived.code,
            byte (flag s.faults.latch), byte cause.code], .stateNotice, .statusDue]
      (s.setFaults fun f => { f with mode := some f.derived })

/-- A raise reaches the Fault Manager (R123 to R125, R131). -/
def raise (k : FaultKind) (o detail : Nat) (s : State) : State :=
  let lost := s.faults.place s.now k o == .lost
  let s' := applyFault (fun f => f.raised s.now (Config.freeByte s.free) k o detail) s
  deriveMode .raised (if lost then s'.tookFree else s')

/-- The end of a condition reaches the Fault Manager (R127, R131). -/
def endCondition (k : FaultKind) (o : Nat) (s : State) : State :=
  deriveMode .ended (applyFault (fun f => f.ended s.now k o) s)

/-- An end followed by a raise in the same step: the slot that the end frees counts for R126 only if it is still free after
the raise (R126). -/
def endThenRaise (ends : Option FaultKind) (k : FaultKind) (o detail : Nat) (s : State) : State :=
  match ends with
  | none => raise k o detail s
  | some e =>
    deriveMode .ended (applyFault (fun f => f.testTableFull s.now)
      (raise k o detail (deriveMode .ended (applyFault (fun f => f.endOf s.now e o) s))))

/-- An acknowledge command (R129): its result, and the state after it. -/
def acknowledge (req : Requester) (t : AckTarget) (s : State) : Result × State :=
  if t.ok then (.ok, deriveMode .ack (applyFault (fun f => f.acked s.now req t) s))
  else (.outOfRange, s)

/-- A release command (R134): refused while a SEVERE record is active, otherwise the latch is cleared. -/
def release (s : State) : Result × State :=
  if s.faults.anyActive .severe then (.severeActive, s)
  else (.ok, deriveMode .release (s.setFaults fun f => { f with latch := false }))

end Sys2Proof.Machine
end

