-- ==== Sys2Proof/Machine/Records.lean ====
section
/-! DEFINITION. Passage records (R60, R184) and the byte layouts of log and passage records (ch. 12.4 to 12.6). A bit that the
tables neither name nor mark zero is 0 (log entry 25). -/

namespace Sys2Proof.Machine

/-! ### Encodings -/

/-- A prediction entry, 8 bytes (ch. 12.6). -/
def Prediction.bytes (e : Prediction) : List Byte :=
  byte (16 * e.point.val + flag (decide (65536 ≤ e.vUsed % 131072))) :: be16 (e.interval.getD 0) ++ be16 e.vUsed ++ be24 e.tMs

/-- A log record, 16 bytes (ch. 12.4). -/
def LogRecord.bytes (r : LogRecord) : List Byte :=
  be16 r.seq.toNat ++ timeBytes r.time ++ [byte r.kind.code, byte r.object] ++ r.data

/-- Bytes 2 to 5 of a passage record (ch. 12.6). -/
def PassageRecord.word (p : PassageRecord) : Nat :=
  (p.track.code - 1) * 2147483648 + p.dir.code * 1073741824 + p.outcome.code * 536870912 + flag p.short * 268435456 +
    flag p.commit.isSome * 134217728 + p.warning.getD 0

/-- A passage record, 24 + 8k bytes (ch. 12.6). -/
def PassageRecord.bytes (p : PassageRecord) : List Byte :=
  be16 p.seq.toNat ++ be32 p.word ++ be16 p.axles ++ timeBytes p.created ++ timeOrZero p.commit ++ timeOrZero p.arrived ++
    timeBytes p.ended ++ (p.predictions.map Prediction.bytes).flatten

/-- The steps of 8 bytes a passage record occupies (10.3). -/
def PassageRecord.steps (p : PassageRecord) : Nat := 3 + p.predictions.length

/-! ### The passage store (R184) -/

def stepsUsed (l : List PassageRecord) : Nat := (l.map PassageRecord.steps).sum

/-- The oldest records are discarded, one whole record at a time, until the steps held and the new record's fit
the partition (R184). -/
def discardFor (cap need : Nat) : List PassageRecord → List PassageRecord
  | [] => []
  | p :: ps => if stepsUsed (p :: ps) + need ≤ cap then p :: ps else discardFor cap need ps

/-- Stores a passage record as the newest, with the next passage sequence number (R184). -/
def RecordMemory.store (m : RecordMemory) (p : PassageRecord) : RecordMemory :=
  let p := { p with seq := m.nextPassage }
  { m with passages := discardFor (8 * m.layout.passage) p.steps m.passages ++ [p], nextPassage := m.nextPassage + 1 }

/-- The PASSAGE notice (R184, ch. 12.2). -/
def passageNotice (p : PassageRecord) (held : Nat) : Notice :=
  ⟨.passage, be16 p.seq.toNat ++ [byte p.track.code, byte p.dir.code, byte p.outcome.code] ++ be16 held⟩

/-- The passage content is stored and its notice handed on (R184). -/
def storePassage (p : PassageRecord) (s : State) : State :=
  let m := s.memory.store p
  queueNotice (passageNotice { p with seq := s.memory.nextPassage } m.passages.length) (s.setMemory fun _ => m)

end Sys2Proof.Machine
end

