-- ==== Sys2Proof/Machine/Predictor.lean ====
section
/-! DEFINITION. The Approach Predictor (ch. 3): the slots' arrangement (R38), prediction (R45 to R50), commit (R51 to
R55), arrival (R56 to R58) and the end of a record (R59, R60). -/

namespace Sys2Proof.Machine

/-! ### Arrangement of the slots (R38) -/

/-- The slot of a track and direction (3.1). -/
def slotOf : Track → Dir → Fin 4
  | .one, .aToB => 0
  | .one, .bToA => 1
  | .two, .aToB => 2
  | .two, .bToA => 3

def slotTrack (k : Fin 4) : Track := if k.val < 2 then .one else .two
def slotDir (k : Fin 4) : Dir := if k.val % 2 = 0 then .aToB else .bToA

/-- The island section of a track. -/
def State.island (s : State) (t : Track) : Option (Fin 10) :=
  allSections.find? fun i => s.sections[i].track == some t && s.sections[i].role == .island

/-- The slot's near island point: the island's bounding point on the side its trains arrive from (R38). -/
def State.nearPoint (s : State) (k : Fin 4) : Option (Fin 12) :=
  (s.island (slotTrack k)).map fun i =>
    match slotDir k with
    | .aToB => s.sections[i].aEnd
    | .bToA => s.sections[i].bEnd

/-- Whether a point is one of the slot's upstream points (R38). -/
def State.upstream (s : State) (k : Fin 4) (p : Fin 12) : Bool :=
  match s.nearPoint k with
  | none => false
  | some q =>
    s.points[p].inService && s.points[p].track == some (slotTrack k) &&
      match slotDir k with
      | .aToB => decide (s.points[p].position < s.points[q].position)
      | .bToA => decide (s.points[q].position < s.points[p].position)

/-- Whether a section is in the slot's span: from the track's end up to and including the island (R38). -/
def State.inSpan (s : State) (k : Fin 4) (i : Fin 10) : Bool :=
  match s.island (slotTrack k) with
  | none => false
  | some j =>
    s.sections[i].track == some (slotTrack k) &&
      match slotDir k with
      | .aToB => decide (s.points[s.sections[i].bEnd].position ≤ s.points[s.sections[j].bEnd].position)
      | .bToA => decide (s.points[s.sections[j].aEnd].position ≤ s.points[s.sections[i].aEnd].position)

/-- Every section of the slot's span is CLEAR or PREPARED (R59). -/
def State.spanClear (s : State) (k : Fin 4) : Bool := allSections.all fun i => !s.inSpan k i || s.sections[i].isClear

/-- Some section of the slot's span is PREPARED (R53). -/
def State.spanPrepared (s : State) (k : Fin 4) : Bool :=
  allSections.any fun i => s.inSpan k i && s.sections[i].state == some .prepared

/-- The distance D between the slot's near island point and a point (R46), in mm. -/
def State.distance (s : State) (k : Fin 4) (p : Fin 12) : Nat :=
  match s.nearPoint k with
  | none => 0
  | some q => (s.points[q].position - s.points[p].position).natAbs

/-! ### The arithmetic of a prediction (R46 to R50) -/

/-- The measured speed, floor(s_h × 20,000 / n) (R47). -/
def measured (spacing n : Nat) : Nat := spacing * 20000 / n

/-- Step 1: the measured speed, unknown without an interval or above 90,000 mm/s (R47). -/
def knownSpeed (spacing : Nat) (n : Option Nat) : Option Nat :=
  match n with
  | none => none
  | some n => if Config.glitchSpeed < measured spacing n then none else some (measured spacing n)

/-- A measurement taken as a detection glitch (R47). -/
def isGlitch (spacing : Nat) (n : Option Nat) : Bool :=
  match n with
  | none => false
  | some n => decide (Config.glitchSpeed < measured spacing n)

/-- Step 2, parts 1 and 2: the speed used (R48). -/
def speedUsed (vLine vFloor : Nat) (known : Option Nat) (mode : Option Mode) : Nat :=
  let v := match known with
    | none => vLine
    | some v => max v vFloor
  if mode = some .auto ∨ mode = none then v else max v vLine

/-- One binary digit of the square root: the bit is kept when the square still does not exceed n. -/
def sqrtBit (n r bit : Nat) : Nat := if (r + bit) * (r + bit) ≤ n then r + bit else r

/-- Digits of the square root from bit k - 1 down. -/
def sqrtDigits (n : Nat) : Nat → Nat → Nat
  | 0, r => r
  | k + 1, r => sqrtDigits n k (sqrtBit n r (2 ^ k))

/-- The whole square root of n, exact for every n. -/
def isqrt (n : Nat) : Nat := sqrtDigits n (Nat.log2 n / 2 + 1) 0

/-- Step 4: the predicted interval T in ms, the floor of 1,000 × T_exact taken once on the exact value (R49).
With v_top > v_used and a > 0: while still accelerating at the island T_exact = (√(v² + 2aD) − v) / a, otherwise
T_exact = (v_top − v) / a + (D − d1) / v_top, which is (2aD + (v_top − v)²) / (2a·v_top). -/
def predictedMs (vUsed vLine a d : Nat) : Nat :=
  let vTop := max vLine vUsed
  if a = 0 ∨ vTop ≤ vUsed then 1000 * d / vUsed
  else if 2 * a * d ≤ vTop * vTop - vUsed * vUsed then
    (isqrt (1000000 * (vUsed * vUsed + 2 * a * d)) - 1000 * vUsed) / a
  else 1000 * (2 * a * d + (vTop - vUsed) * (vTop - vUsed)) / (2 * a * vTop)

/-! ### Commit (R55) -/

/-- A committed record: the flag, the time, the cause, the timer stopped (R55). -/
def TrainRecord.commit (r : TrainRecord) (cause : CommitCause) (time : Time) (short : Bool) : TrainRecord :=
  { r with committed := true, commitTime := some time, commitCause := some cause, startTimer := none,
           shortWarning := r.shortWarning || short }

def State.setRecord (s : State) (k : Fin 4) (r : Option TrainRecord) : State :=
  s.setSlot k fun x => { x with record := r }

/-- A commit of the slot's record; a cause that finds it committed changes nothing (R55). -/
def commitRecord (k : Fin 4) (cause : CommitCause) (time : Time) (short : Bool) (s : State) : State :=
  match s.slots[k].record with
  | none => s
  | some r =>
    if r.committed then s
    else
      emit [.log .record k.val [2, byte cause.code, byte (flag (r.shortWarning || short))]]
        (s.setRecord k (some (r.commit cause time short)))

/-- A PREPARED section in the span commits an uncommitted record at once (R53). -/
def testPrepared (k : Fin 4) (s : State) : State :=
  if s.spanPrepared k then commitRecord k .prepared s.now false s else s

/-- The re-open guard's request: whether a slot's uncommitted record has its S at most the guard time ahead. An S
equal to now is one whose start timer falls in this millisecond, and the guard takes it (R54, R75, log entry 12). -/
def guardTakes (now : Time) (guardMs : Nat) (x : Slot) : Bool :=
  match x.record with
  | none => false
  | some r =>
    !r.committed &&
      match r.warningS with
      | none => false
      | some w => decide (elapsed w now ≤ guardMs)

/-- Commits every record the guard takes (R54). The manual gives their "committed" records no order: the slots are taken from
0 to 3 (log entry 7). -/
def guardCommit (guardMs : Nat) (s : State) : State :=
  allSlots.foldl (fun s k => if guardTakes s.now guardMs s.slots[k] then commitRecord k .guard s.now false s else s) s

/-- Whether the guard's request commits any record: the reply to the Sequencer (R54). -/
def guardFinds (guardMs : Nat) (s : State) : Bool := allSlots.any fun k => guardTakes s.now guardMs s.slots[k]

/-! ### Creation and prediction -/

/-- A new train record (R43). -/
def TrainRecord.fresh (now : Time) : TrainRecord :=
  { phase := .approaching, committed := false, commitTime := none, commitCause := none, arrivalA := none,
    warningS := none, startTimer := none, shortWarning := false, created := now, arrived := none, axlesIn := 0,
    predictions := [], longMark := false }

/-- The slot is filled with a new record and "created" is written (R43). -/
def createRecord (k : Fin 4) (p : Fin 12) (s : State) : State :=
  emit [.log .record k.val [0, byte p.val]] (s.setRecord k (some (TrainRecord.fresh s.now)))

/-- The data of a "predicted" record (ch. 12.5). -/
def predictedData (kept : Bool) (e : Prediction) : List Byte :=
  [byte (1 + 128 * flag kept), byte (16 * e.point.val + flag (decide (65536 ≤ e.vUsed % 131072)))] ++ be16 e.vUsed ++
    be24 e.tMs

/-- The entry a prediction appends (R45 to R49). -/
def State.prediction (s : State) (k : Fin 4) (p : Fin 12) (n : Option Nat) : Prediction :=
  let x := s.slots[k]
  let v := speedUsed x.vLine x.vFloor (knownSpeed s.points[p].spacing n) s.faults.mode
  { point := p, interval := n, vUsed := v, tMs := predictedMs v x.vLine x.accel (s.distance k p) }

/-- The record after a prediction: A always replaced; S and the start timer only while uncommitted (R45, R51). -/
def TrainRecord.predicted (r : TrainRecord) (now : Time) (rwt : Nat) (e : Prediction) : TrainRecord :=
  let a := later now e.tMs
  let w := a - BitVec.ofNat 32 rwt
  if r.committed then { r with predictions := r.predictions ++ [e], arrivalA := some a }
  else { r with predictions := r.predictions ++ [e], arrivalA := some a, warningS := some w, startTimer := some w }

/-- SEQUENCE_ERRORS for a glitch (R47), or OVERSPEED for a known speed above v_line (R48). -/
def speedChecks (k : Fin 4) (p : Fin 12) (n : Option Nat) (s : State) : State :=
  if isGlitch s.points[p].spacing n then emit [.count cntSequenceErrors] s
  else match knownSpeed s.points[p].spacing n with
    | none => s
    | some v =>
      if s.slots[k].vLine < v then raise .overspeed p.val (v / 1000) (emit [.count cntOverspeeds] s) else s

/-- The commit test after a prediction: an S at or before now commits at once, short of warning when A - now is
less than RWT (R51). -/
def commitTest (k : Fin 4) (t : Nat) (s : State) : State :=
  match s.slots[k].record with
  | none => s
  | some r =>
    if r.committed then s
    else if reached s.now r.warningS then
      if t < s.rwt then
        raise .shortWarning (slotTrack k).code (t / 1000)
          (emit [.count cntShortWarnings] (commitRecord k .prediction s.now true s))
      else commitRecord k .prediction s.now false s
    else s

/-- A prediction made for the slot's record (R45 to R51). -/
def predict (k : Fin 4) (p : Fin 12) (n : Option Nat) (s : State) : State :=
  match s.slots[k].record with
  | none => s
  | some r =>
    let e := s.prediction k p n
    let s := speedChecks k p n s
    let s := emit [.log .record k.val (predictedData r.committed e)] (s.setRecord k (some (r.predicted s.now s.rwt e)))
    commitTest k e.tMs s

/-- A point lies nearer to the island than every point in the record's prediction list (R44). -/
def State.nearerThanAll (s : State) (k : Fin 4) (p : Fin 12) (r : TrainRecord) : Bool :=
  r.predictions.all fun e => decide (s.distance k p < s.distance k e.point)

/-! ### Arrival (R56 to R58) -/

/-- The record enters phase ARRIVED (R56). -/
def TrainRecord.arrive (r : TrainRecord) (now : Time) : TrainRecord :=
  { r with phase := .arrived, arrived := some now, axlesIn := 1 }

/-- The arrival's own part: the commit with cause ARRIVAL if uncommitted, the phase, and "arrived" (R56). -/
def arriveRecord (k : Fin 4) (p : Fin 12) (s : State) : State :=
  let s := commitRecord k .arrival s.now false s
  match s.slots[k].record with
  | none => s
  | some r => emit [.log .record k.val [3, byte p.val]] (s.setRecord k (some (r.arrive s.now)))

/-- The arrival's reading of the Sequencer: a state other than CLOSED raises LATE_CLOSURE (R57). -/
def lateClosureTest (k : Fin 4) (s : State) : State :=
  if s.seq.state = some .closed then s
  else
    raise .lateClosure (slotTrack k).code ((s.seq.state.map SeqState.code).getD 0xFF) (emit [.count cntLateClosures] s)

/-- An island entry: axles into island rises by one, saturating at 65,535 (R58). -/
def islandEntry (k : Fin 4) (s : State) : State :=
  s.setSlot k fun x => { x with record := x.record.map fun r => { r with axlesIn := min 65535 (r.axlesIn + 1) } }

/-! ### End of a record (R59, R60) -/

/-- The warning given: arrival time less commit time, 65,535,000 with the long-warning mark set, absent for a
withdrawn record (R60). -/
def TrainRecord.warning (r : TrainRecord) : Option Nat :=
  match r.arrived, r.commitTime with
  | some a, some c => some (if r.longMark then Config.longAgeMs else elapsed a c)
  | _, _ => none

/-- PASSED if the record arrived, WITHDRAWN otherwise (R59). -/
def TrainRecord.outcome (r : TrainRecord) : TrainOutcome :=
  match r.phase with
  | .arrived => .passed
  | .approaching => .withdrawn

/-- The passage content of an ending record (R60). -/
def TrainRecord.passage (r : TrainRecord) (k : Fin 4) (now : Time) : PassageRecord :=
  { seq := 0, track := slotTrack k, dir := slotDir k, outcome := r.outcome, axles := r.axlesIn, created := r.created,
    commit := r.commitTime, arrived := r.arrived, ended := now, warning := r.warning, short := r.shortWarning,
    predictions := r.predictions }

/-- The slot's record ends: counted, logged, its passage stored, the slot emptied (R59). -/
def endRecord (k : Fin 4) (s : State) : State :=
  match s.slots[k].record with
  | none => s
  | some r =>
    let cnt := match r.outcome with
      | .passed => cntTrainsPassed
      | .withdrawn => cntTrainsWithdrawn
    let s := emit [.count cnt, .log .record k.val ([4, byte r.outcome.code] ++ be16 r.axlesIn)] (s.setRecord k none)
    storePassage (r.passage k s.now) s

/-- Whether the slot's record ends after changes of some sections: one of them is in its span and the whole span is
clear (R59). -/
def State.endsNow (s : State) (changed : List (Fin 10)) (k : Fin 4) : Bool :=
  s.slots[k].record.isSome && changed.any (fun i => s.inSpan k i) && s.spanClear k

/-- The records that end after changes of some sections. Two records that end at one moment may be stored in either
order (R184): the order is free (log entry 3). -/
def endRecords (changed : List (Fin 10)) (s : State) : State :=
  let ks := allSlots.filter fun k => s.endsNow changed k
  match ks with
  | [] => s
  | [k] => endRecord k s
  | ks =>
    let ks := if s.order then ks else ks.reverse
    ks.foldl (fun s k => endRecord k s) s.tookFree

/-- START_TIMER_EXPIRY: an uncommitted record whose S the clock has reached commits with cause TIMER at S (R52). -/
def State.startTimerDue (s : State) (k : Fin 4) : Bool :=
  s.part == .run &&
    match s.slots[k].record with
    | some r => !r.committed && reached s.now r.startTimer
    | none => false

/-- LONG_WARNING_MARK: 65,535,000 ms since the commit time of a committed APPROACHING record (R60). -/
def State.longWarningDue (s : State) (k : Fin 4) : Bool :=
  s.part == .run &&
    match s.slots[k].record with
    | some r => r.committed && r.phase == .approaching && !r.longMark && agedBy s.now r.commitTime Config.longAgeMs
    | none => false

end Sys2Proof.Machine
end

