-- ==== Sys2Proof/Machine/Sections.lean ====
section
/-! DEFINITION. The Section Counter (ch. 2): axle events (R23 to R26), skew events (R27), the raise and the log record
of a change (R29, R30). The restores stand in Restore.lean. -/

namespace Sys2Proof.Machine

/-- Causes of a SECTION record (R30). -/
inductive SectionCause where
  | entry
  | exit
  | sweepDone
  | overflow
  | underflow
  | skew
  | start
  | direct
  | sweep
  deriving DecidableEq, Repr

def SectionCause.code : SectionCause → Nat
  | .entry => 0
  | .exit => 1
  | .sweepDone => 2
  | .overflow => 3
  | .underflow => 4
  | .skew => 5
  | .start => 6
  | .direct => 7
  | .sweep => 8

/-- The detail of SECTION_DISTURBED for a cause that disturbs (R29). -/
def SectionCause.detail : SectionCause → Option Nat
  | .start => some 0
  | .overflow => some 1
  | .underflow => some 2
  | .skew => some 3
  | _ => none

/-- What one event does to one section: its new content, and the cause if the state changes. -/
structure SectChange where
  new : Sect
  cause : Option SectionCause
  deriving DecidableEq, Repr

def Sect.become (c : Sect) (st : SectionState) (count : Nat) (sweep : Bool) : Sect :=
  { c with state := some st, count := count, sweep := sweep }

/-- DISTURBED with count 0 and the sweep-entered flag clear (R25 to R27). -/
def Sect.disturb (c : Sect) : Sect := c.become .disturbed 0 false

/-- An axle enters a section (R25). -/
def Sect.enter (c : Sect) : SectChange :=
  match c.state with
  | some .clear => ⟨c.become .occupied 1 false, some .entry⟩
  | some .occupied =>
    if Config.maxAxles ≤ c.count then ⟨c.disturb, some .overflow⟩ else ⟨{ c with count := c.count + 1 }, none⟩
  | some .prepared => ⟨c.become .occupied 1 true, some .entry⟩
  | some .disturbed => ⟨c, none⟩
  | none => ⟨c, none⟩

/-- An axle leaves a section (R26). -/
def Sect.leave (c : Sect) : SectChange :=
  match c.state with
  | some .occupied =>
    if c.count ≤ 1 then ⟨c.become .clear 0 false, some (if c.sweep then .sweepDone else .exit)⟩
    else ⟨{ c with count := c.count - 1 }, none⟩
  | some .clear => ⟨c.disturb, some .underflow⟩
  | some .prepared => ⟨c.disturb, some .underflow⟩
  | some .disturbed => ⟨c, none⟩
  | none => ⟨c, none⟩

/-- A skew event at a bounding point (R27). -/
def Sect.skewed (c : Sect) : SectChange :=
  match c.state with
  | some .disturbed => ⟨c, none⟩
  | some _ => ⟨c.disturb, some .skew⟩
  | none => ⟨c, none⟩

/-- The section in use whose B-end, or A-end, point is p (R23). -/
def State.sectionEndingAt (s : State) (p : Fin 12) : Option (Fin 10) :=
  allSections.find? fun i => s.sections[i].inUse && s.sections[i].bEnd == p
def State.sectionStartingAt (s : State) (p : Fin 12) : Option (Fin 10) :=
  allSections.find? fun i => s.sections[i].inUse && s.sections[i].aEnd == p

/-- The section an axle leaves at a point (R23). -/
def State.leaving (s : State) (p : Fin 12) : Dir → Option (Fin 10)
  | .aToB => s.sectionEndingAt p
  | .bToA => s.sectionStartingAt p

/-- The section an axle enters at a point (R23). -/
def State.entering (s : State) (p : Fin 12) : Dir → Option (Fin 10)
  | .aToB => s.sectionStartingAt p
  | .bToA => s.sectionEndingAt p

/-- A change of one numbered section. -/
structure SectEffect where
  index : Fin 10
  old : Sect
  change : SectChange
  deriving DecidableEq, Repr

/-- Both halves of an axle event, each decided by its own section alone, leaving half first (R24). -/
def State.axleEffects (s : State) (p : Fin 12) (d : Dir) : List SectEffect :=
  ((s.leaving p d).map fun i => ⟨i, s.sections[i], s.sections[i].leave⟩).toList ++
    ((s.entering p d).map fun i => ⟨i, s.sections[i], s.sections[i].enter⟩).toList

/-- A skew event disturbs each section the point bounds (R27). The manual gives their SECTION records and raises no order: the
section on the A side comes first (log entry 7). -/
def State.skewEffects (s : State) (p : Fin 12) : List SectEffect :=
  ((s.sectionEndingAt p).map fun i => ⟨i, s.sections[i], s.sections[i].skewed⟩).toList ++
    ((s.sectionStartingAt p).map fun i => ⟨i, s.sections[i], s.sections[i].skewed⟩).toList

/-- The data of a SECTION record (ch. 12.5). -/
def sectionData (old new : Sect) (cause : SectionCause) (p : Option (Fin 12)) : List Byte :=
  [codeOrFF (old.state.map SectionState.code), codeOrFF (new.state.map SectionState.code)] ++ be16 new.count ++
    [byte cause.code, codeOrFF (p.map Fin.val), byte (flag old.sweep)]

/-- The SECTION record of a change of state; a change of count writes none (R30). -/
def SectEffect.outs (e : SectEffect) (p : Option (Fin 12)) : List Output :=
  match e.change.cause with
  | none => []
  | some c => [.log .sectionState e.index.val (sectionData e.old e.change.new c p)]

/-- The raise of SECTION_DISTURBED when the change disturbs the section (R29). -/
def SectEffect.raised (e : SectEffect) (s : State) : State :=
  match e.change.cause with
  | none => s
  | some c =>
    match c.detail with
    | none => s
    | some d => raise .sectionDisturbed e.index.val d s

/-- An event is applied whole: every change is made before any reader sees the table (R24, R27). -/
def applyEffects (es : List SectEffect) (p : Option (Fin 12)) (s : State) : State :=
  let s := es.foldl (fun s e => s.setSect e.index fun _ => e.change.new) s
  let s := emit (es.map fun e => e.outs p).flatten s
  es.foldl (fun s e => e.raised s) s

/-- The sections whose state an event changes. -/
def changedBy (es : List SectEffect) : List (Fin 10) := (es.filter fun e => e.change.cause.isSome).map SectEffect.index

end Sys2Proof.Machine
end

