-- ==== Sys2Proof/Machine/Lamps.lean ====
section
/-! DEFINITION. The Lamp Driver (ch. 5): the flash generator (R89), the Sequencer's commands (R90), lit proofs (R91 to
R93), dark samples (R94, R95), dark road sides (R96), the start-up flash (R97) and the lamp test (R98 to R100). -/

namespace Sys2Proof.Machine

/-! ### Lighting and darkening a channel -/

/-- The channel is commanded lit; `due` is the moment of its next lit proof. Its dark period ends. -/
def Lamp.light (l : Lamp) (due : Option Time) : Lamp := { l with lit := true, litDue := due, darkDue := none }

/-- The channel is commanded dark. A dark period begins if it was lit, with the first dark sample t_settle later; a
channel that is dark and stays dark keeps its period and its schedule (R94). -/
def Lamp.darken (l : Lamp) (now : Time) (settle : Nat) : Lamp :=
  if l.lit then { l with lit := false, litDue := none, darkDue := some (later now settle) } else { l with litDue := none }

/-- Applies a change to every enabled channel; a disabled channel is not driven in RUN (R87). -/
def LampDriver.forEnabled (d : LampDriver) (f : Fin 10 → Lamp → Lamp) : LampDriver :=
  { d with lamps := remake d.lamps fun c l => if l.enabled then f c l else l }

/-! ### The flash generator (R89) -/

/-- Length of a part of the cycle. -/
def FlashConfig.length (f : FlashConfig) : FlashPart → Nat
  | .lOn => f.lOn
  | .g1 => f.g1
  | .rOn => f.rOn
  | .g2 => f.g2

/-- The part after a part; a gap of length 0 is passed through in the same millisecond (R89). -/
def FlashConfig.after (f : FlashConfig) : FlashPart → FlashPart
  | .lOn => if f.g1 = 0 then .rOn else .g1
  | .g1 => .rOn
  | .rOn => if f.g2 = 0 then .lOn else .g2
  | .g2 => .lOn

/-- Whether a part lights a red channel. -/
def FlashPart.lights (x : FlashPart) (c : Fin 10) : Bool :=
  match x with
  | .lOn => leftChannels.contains c
  | .rOn => rightChannels.contains c
  | _ => false

/-- The generator enters a part: the channels of its group are lit, each to be proved t_settle after the part began,
and every other enabled red channel is dark (R89, R91). -/
def LampDriver.enterPart (d : LampDriver) (x : FlashPart) (now : Time) : LampDriver :=
  let d := d.forEnabled fun c l =>
    if isAmber c then l
    else if x.lights c then l.light (some (later now d.flash.settle))
    else l.darken now d.flash.settle
  { d with gen := some ⟨x, now⟩ }

/-! ### Commands from the Sequencer (R90) -/

/-- The commands the Sequencer issues in RUN. -/
inductive LampCmd where
  | dark
  | amber
  | redStart
  | redContinue
  deriving DecidableEq, Repr

/-- Every enabled amber goes dark. -/
def LampDriver.ambersDark (d : LampDriver) (now : Time) : LampDriver :=
  d.forEnabled fun c l => if isAmber c then l.darken now d.flash.settle else l

/-- The effect of a command on the lamps and the generator (R90). The amber command proves each enabled amber
t_settle after it (R91). -/
def LampDriver.command (d : LampDriver) (cmd : LampCmd) (now : Time) : LampDriver :=
  match cmd with
  | .dark => { d.forEnabled (fun _ l => l.darken now d.flash.settle) with gen := none }
  | .amber =>
    { d.forEnabled (fun c l =>
        if isAmber c then l.light (some (later now d.flash.settle)) else l.darken now d.flash.settle) with gen := none }
  | .redStart => (d.ambersDark now).enterPart .lOn now
  | .redContinue =>
    let d := d.ambersDark now
    if d.gen.isSome then d else d.enterPart .lOn now

/-- The Lamp Driver applies a command in the step it receives it (R90). -/
def lampCommand (cmd : LampCmd) (s : State) : State := s.setLamps fun d => d.command cmd s.now

/-! ### Proofs (R92) and dark samples (R95) -/

/-- A reading above 4,000 mA is taken as 4,000 mA (R86). -/
def reading (mA : Nat) : Nat := min mA Config.maxCurrent

/-- A lit sample is good when it lies within I_min to I_max (R92). -/
def Lamp.goodSample (l : Lamp) (mA : Nat) : Bool := decide (l.iMin ≤ mA ∧ mA ≤ l.iMax)

/-- The counts and the proved state after a lit sample (R92). -/
def Lamp.proved (l : Lamp) (mA : Nat) : Lamp :=
  if l.goodSample mA then
    let good := min 255 (l.good + 1)
    { l with current := some mA, good := good, bad := 0, failed := l.failed && decide (good < 8) }
  else
    let bad := min 255 (l.bad + 1)
    { l with current := some mA, bad := bad, good := 0, failed := l.failed || decide (3 ≤ bad) }

/-- The detail of LAMP_FAIL: 1 below I_min, 2 above I_max (R92). -/
def Lamp.failDetail (l : Lamp) (mA : Nat) : Nat := if mA < l.iMin then 1 else 2

/-- The flag and the dark run after a dark sample (R95). -/
def Lamp.darkSampled (l : Lamp) (mA : Nat) : Lamp :=
  if decide (l.iOff < mA) = l.stuckOn then { l with darkRun := 0 }
  else if 2 ≤ l.darkRun + 1 then { l with darkRun := 0, stuckOn := !l.stuckOn }
  else { l with darkRun := l.darkRun + 1 }

/-- A raise or an end when a condition begins or ceases. -/
def onChange (was is : Bool) (k : FaultKind) (o detail : Nat) (s : State) : State :=
  if !was && is then raise k o detail s
  else if was && !is then endCondition k o s
  else s

/-- ROAD_SIDE_DARK of one side, raised or ended as the side becomes dark or ceases to be (R96). -/
def sideChange (old : LampDriver) (x : Side) (s : State) : State :=
  onChange (old.sideDark x) (s.lamps.sideDark x) .roadSideDark x.code (s.lamps.darkDetail x) s

/-- The present part of the flash cycle has run its length (R89). -/
def State.flashPartDue (s : State) : Bool :=
  s.part == .run &&
    match s.lamps.gen with
    | some g => decide (s.lamps.flash.length g.part ≤ elapsed s.now g.since)
    | none => false

/-- The first enabled channel from a number up (R99). -/
def LampDriver.nextEnabled (d : LampDriver) (from' : Nat) : Option (Fin 10) :=
  allLamps.find? fun c => decide (from' ≤ c.val) && d.lamps[c].enabled

/-- The channel under test has been lit its 1,000 ms (R99). -/
def State.testChannelDue (s : State) : Bool :=
  s.part == .run &&
    match s.lamps.test with
    | some t => decide (Config.testChannelMs ≤ elapsed s.now t.since)
    | none => false

/-- The channel's dark period ends in this instant by itself: the generator passes to a part that lights it, or the lamp
test passes to it. A dark sample due at that moment is not taken (R94). -/
def State.darkEnding (s : State) (c : Fin 10) : Bool :=
  (s.flashPartDue && s.lamps.gen.any fun g => !isAmber c && (s.lamps.flash.after g.part).lights c) ||
    (s.testChannelDue && s.lamps.test.any fun t => s.lamps.nextEnabled (t.channel.val + 1) == some c)

/-- A channel's dark sample is due (R94). -/
def State.darkSampleDue (s : State) (c : Fin 10) : Bool :=
  s.part == .run && s.lamps.lamps[c].enabled && !s.lamps.lamps[c].lit && reached s.now s.lamps.lamps[c].darkDue &&
    !s.darkEnding c

/-- A channel's lit proof is due (R91). -/
def State.litProofDue (s : State) (c : Fin 10) : Bool :=
  s.part == .run && s.lamps.lamps[c].enabled && s.lamps.lamps[c].lit && reached s.now s.lamps.lamps[c].litDue

/-- The next proof: an amber is proved again every 500 ms while it stays lit, a red once in each on-part (R91). -/
def Lamp.nextProof (l : Lamp) (c : Fin 10) : Option Time :=
  if isAmber c then l.litDue.map fun t => later t Config.amberProofMs else none

/-- A lit sample is evaluated: counts, proved state, LAMP_FAIL and the test of both road sides (R92, R96). -/
def litSample (c : Fin 10) (mA : Nat) (s : State) : State :=
  let old := s.lamps
  let l := old.lamps[c]
  let s := s.setLamp c fun l => { l.proved mA with litDue := l.nextProof c }
  let s := if l.goodSample mA then s else emit [.count cntLampProofFails] s
  let s := onChange l.failed (l.proved mA).failed .lampFail c.val (l.failDetail mA) s
  if isAmber c || l.failed == (l.proved mA).failed then s else sideChange old .b (sideChange old .a s)

/-- A dark sample is judged, and the next is due 100 ms after it (R94, R95). -/
def darkSampleTaken (c : Fin 10) (mA : Nat) (s : State) : State :=
  let l := s.lamps.lamps[c]
  let s := s.setLamp c fun l =>
    { l.darkSampled mA with darkDue := l.darkDue.map fun t => later t Config.darkSampleMs }
  onChange l.stuckOn (l.darkSampled mA).stuckOn .lampStuckOn c.val (mA / 20) s

/-- The generator passes to the next part (R89). -/
def nextFlashPart (s : State) : State :=
  match s.lamps.gen with
  | none => s
  | some g => s.setLamps fun d => d.enterPart (d.flash.after g.part) s.now

/-! ### The start-up flash (R97) -/

/-- The lamps the start-up flash lights: the L half, or the R half, of all eight reds, enabled or not. -/
def LampDriver.startUpHalf (d : LampDriver) (left : Bool) (now : Time) : LampDriver :=
  { d with
    lamps := remake d.lamps fun c l => { l with lit := if left then leftChannels.contains c else rightChannels.contains c }
    startUp := some ⟨left, now⟩ }

def State.startUpDue (s : State) : Bool :=
  s.part == .config &&
    match s.lamps.startUp with
    | some u => decide (Config.startUpHalfMs ≤ elapsed s.now u.since)
    | none => false

/-- The start-up flash switches halves (R97). -/
def nextStartUpHalf (s : State) : State :=
  match s.lamps.startUp with
  | none => s
  | some u => s.setLamps fun d => d.startUpHalf (!u.leftHalf) s.now

/-! ### The lamp test (R98 to R100) -/

/-- The result and current of one channel in LAMP_TEST_DONE (ch. 12.2). -/
def testBytes (r : Option TestResult) : List Byte :=
  match r with
  | none => byte 2 :: be16 0
  | some r => byte (if r.good then 0 else 1) :: be16 r.mA

/-- The LAMP_TEST_DONE notice; status 0 COMPLETE, 1 ABORTED (R100). -/
def testNotice (status : Nat) (t : LampTest) : Notice :=
  ⟨.lampTestDone, byte status :: (allLamps.map fun c => testBytes t.results[c]).flatten⟩

/-- The test ends with a notice (R100). -/
def endTest (status : Nat) (t : LampTest) (s : State) : State :=
  queueNotice (testNotice status t) (s.setLamps fun d => { d with test := none })

/-- The next enabled channel is lit, or the test is complete (R99, R100). -/
def testFrom (from' : Nat) (t : LampTest) (s : State) : State :=
  match s.lamps.nextEnabled from' with
  | none => endTest 0 t s
  | some c =>
    (s.setLamp c fun l => l.light none).setLamps fun d =>
      { d with test := some { t with channel := c, since := s.now, sampled := false } }

/-- A test starts at the first enabled channel; with no enabled channel it lasts no time (R99). -/
def startTest (s : State) : State := testFrom 0 ⟨0, s.now, false, Vector.replicate 10 none⟩ s

/-- A test is aborted when the Sequencer leaves OPEN (R100). -/
def abortTest (s : State) : State :=
  match s.lamps.test with
  | none => s
  | some t => endTest 1 t s

def State.testSampleDue (s : State) : Bool :=
  s.part == .run &&
    match s.lamps.test with
    | some t => !t.sampled && decide (s.lamps.flash.settle ≤ elapsed s.now t.since)
    | none => false

/-- The channel under test is sampled t_settle after it was lit (R99). -/
def testSample (mA : Nat) (s : State) : State :=
  match s.lamps.test with
  | none => s
  | some t =>
    let r : TestResult := ⟨s.lamps.lamps[t.channel].goodSample mA, mA⟩
    s.setLamps fun d => { d with test := some { t with sampled := true, results := t.results.set t.channel (some r) } }

/-- The channel under test goes dark and the next enabled channel is lit (R99, R100). -/
def testChannelEnd (s : State) : State :=
  match s.lamps.test with
  | none => s
  | some t =>
    testFrom (t.channel.val + 1) t (s.setLamp t.channel fun l => l.darken s.now s.lamps.flash.settle)

end Sys2Proof.Machine
end

