-- ==== Sys2Proof/Machine/Barriers.lean ====
section
/-! DEFINITION. The Barrier Controller's channels (ch. 6): outputs (R104), contacts (R105), release and raise (R106,
R109, R111), motions and their limits (R107, R108, R110), entry into FAULT (R114), the timed rules R113, R115, R116.

The operations on one channel are pure; their reports to the Fault Manager and the Sequencer stand in
`Machine/Sequencer.lean`, which owns the reaction. -/

namespace Sys2Proof.Machine

/-! ### States and outputs -/

/-- HOLD and RAISE tied to each state (R104). -/
def BarrierState.hold : BarrierState → Bool
  | .heldUp | .raising => true
  | _ => false

def BarrierState.drive : BarrierState → Bool
  | .raising => true
  | _ => false

/-- A barrier changes state; its outputs take the combination of the state entered in the same step (R104). -/
def Barrier.enter (b : Barrier) (st : BarrierState) : Barrier :=
  { b with state := some st, holdOut := st.hold, raiseOut := st.drive }

/-- No motion: phase, motion start and phase start absent. -/
def Barrier.still (b : Barrier) : Barrier := { b with phase := none, motionStart := none, phaseStart := none }

/-- A motion starts in phase LEAVE. -/
def Barrier.startLeave (b : Barrier) (now : Time) : Barrier :=
  { b with phase := some .leave, motionStart := some now, phaseStart := none }

/-- A motion starts in phase TRAVEL. -/
def Barrier.startTravel (b : Barrier) (now : Time) : Barrier :=
  { b with phase := some .travel, motionStart := some now, phaseStart := some now }

/-- The motion comes off its starting contact: TRAVEL from the acceptance time. -/
def Barrier.toTravel (b : Barrier) (now : Time) : Barrier :=
  if b.phase = some .leave then { b with phase := some .travel, phaseStart := some now } else b

/-! ### Commands -/

/-- LOWERING from the accepted contacts: LEAVE while UP is made, TRAVEL when it is open (R106, R118). -/
def Barrier.lowerFrom (b : Barrier) (now : Time) : Barrier :=
  if b.up.accepted then (b.enter .lowering).startLeave now else (b.enter .lowering).startTravel now

/-- A release command, taken by the barrier's state (R106, R111). A barrier released in its dropped wait with DOWN made
already is LOWERING in TRAVEL until its contacts change or a limit passes, and then DOWN (R107, log entry 23). -/
def Barrier.released (b : Barrier) (now : Time) : Barrier :=
  match b.state with
  | some .heldUp => { b.lowerFrom now with dropped := none }
  | some .raising =>
    if b.down.accepted && !b.up.accepted then (b.enter .down).still else b.lowerFrom now
  | _ => b

/-- A raise command, taken by the barrier's state (R109). The disturbed flag is cleared; its end is reported by
`raiseBarrier`. The lost-DOWN mark is made absent with it (log entry 23). -/
def Barrier.raised (b : Barrier) (now : Time) : Barrier :=
  match b.state with
  | some .down =>
    let b := { b with disturbed := false, lostDown := none }
    if b.down.accepted then (b.enter .raising).startLeave now
    else if b.up.accepted then (b.enter .heldUp).still
    else (b.enter .raising).startTravel now
  | _ => b

/-! ### Faults -/

/-- The settled mark: present while DOWN is made and UP open, from the time the pair came to stand so (R115). -/
def Barrier.settle (b : Barrier) (now : Time) : Barrier :=
  if b.down.accepted && !b.up.accepted then { b with settled := some (b.settled.getD now) } else { b with settled := none }

/-- Entry into FAULT: outputs off, motion and marks absent, the detail set (R114), the settled mark by R115. -/
def Barrier.toFault (b : Barrier) (now : Time) (detail : Nat) : Barrier :=
  { (({ b with detail := detail, settled := none }).enter .fault).still.settle now with
    dropped := none, lostDown := none, disturbed := false }

/-- Codes of the fault details (R114). -/
def detailLowerLeave : Nat := 1
def detailLowerTravel : Nat := 2
def detailLowerTotal : Nat := 3
def detailRaiseLeave : Nat := 4
def detailRaiseTravel : Nat := 5
def detailRaiseTotal : Nat := 6
def detailContacts : Nat := 7
def detailDropped : Nat := 8

/-! ### Contacts -/

/-- The accepted value becomes v: two consecutive samples have shown it (R105). -/
def Filter.accept (f : Filter) (v : Bool) : Filter := if f.accepted = v then f else Filter.full v

/-- A sample enters a filter (R105). -/
def Filter.sample (f : Filter) (v : Bool) : Filter := { f with prev := f.last, last := v }

/-- Two consecutive samples show the value opposite to the accepted one (R105). -/
def Filter.changed (f : Filter) : Bool := f.prev == f.last && f.last != f.accepted

/-- What judging a contact pair comes to. -/
inductive Judgement where
  | keep (b : Barrier)
  | contactsFault
  deriving DecidableEq, Repr

/-- The mark of a contact lost at rest: set when it is accepted open, absent when it is made (R113, R116). -/
def lostMark (mark : Option Time) (made : Bool) (now : Time) : Option Time :=
  if made then none else some (mark.getD now)

/-- The pair as it now stands, judged by the barrier's state and motion (R107, R110, R112, R113, R115, R116). Both
contacts made is a CONTACTS fault in every state but FAULT. -/
def Barrier.judge (b : Barrier) (now : Time) : Judgement :=
  match b.state with
  | none => .keep b
  | some .fault => .keep (b.settle now)
  | some st =>
    if b.up.accepted && b.down.accepted then .contactsFault
    else match st with
      | .heldUp => .keep { b with dropped := lostMark b.dropped b.up.accepted now }
      | .lowering =>
        if b.down.accepted then .keep (b.enter .down).still
        else if b.up.accepted then .keep b
        else .keep (b.toTravel now)
      | .raising =>
        if b.up.accepted then .keep (b.enter .heldUp).still
        else if b.down.accepted then .keep b
        else .keep (b.toTravel now)
      | .down =>
        .keep { b with lostDown := lostMark b.lostDown b.down.accepted now,
                       disturbed := b.disturbed && !b.down.accepted }
      | .fault => .keep (b.settle now)

/-! ### Limits -/

/-- The detail of the limit that has passed in a motion, the phase's own limit before the total (R108, R110). -/
def passedLimit (now : Time) (b : Barrier) (m : MotionLimits) (leave travel total : Nat) : Option Nat :=
  match b.phase with
  | none => none
  | some .leave =>
    if agedPast now b.motionStart m.leave then some leave
    else if agedPast now b.motionStart m.total then some total
    else none
  | some .travel =>
    if agedPast now b.phaseStart m.travel then some travel
    else if agedPast now b.motionStart m.total then some total
    else none

/-- The fault detail of a barrier whose motion has passed a limit (R108, R110). -/
def Barrier.limitPassed (b : Barrier) (now : Time) : Option Nat :=
  match b.state with
  | some .lowering => passedLimit now b b.lower detailLowerLeave detailLowerTravel detailLowerTotal
  | some .raising => passedLimit now b b.raise detailRaiseLeave detailRaiseTravel detailRaiseTotal
  | _ => none

/-- The fault detail of a limit that has passed and that the barrier is bound by still when its pair has been judged: the pair
is judged each time a limit passes (R107, R110; before the limit's fault, log entry 23). -/
def Barrier.limitStands (b : Barrier) (now : Time) : Option Nat :=
  match b.judge now with
  | .keep x => x.limitPassed now
  | .contactsFault => none

/-- UP has been open for 2,000 ms in HELD_UP (R113). -/
def Barrier.droppedDue (b : Barrier) (now : Time) : Bool :=
  b.state == some .heldUp && !b.up.accepted && agedBy now b.dropped Config.settleMs

/-- In FAULT, down and at rest for 2,000 ms (R115). -/
def Barrier.settledDue (b : Barrier) (now : Time) : Bool :=
  b.state == some .fault && agedBy now b.settled Config.settleMs

/-- DOWN has been open for 2,000 ms in DOWN and the flag is clear (R116). -/
def Barrier.lostDownDue (b : Barrier) (now : Time) : Bool :=
  b.state == some .down && !b.down.accepted && !b.disturbed && agedBy now b.lostDown Config.settleMs

/-! ### Commands on the whole state -/

/-- A release command reaches a barrier. -/
def releaseBarrier (b : Fin 4) (s : State) : State := s.setBarrier b fun x => x.released s.now

/-- A raise command reaches a barrier; leaving DOWN by a raise ends BARRIER_DISTURBED (R109, R116). -/
def raiseBarrier (b : Fin 4) (s : State) : State :=
  let old := s.barriers[b]
  let s := s.setBarrier b fun x => x.raised s.now
  if old.disturbed && !s.barriers[b].disturbed then endCondition .barrierDisturbed b.val s else s

/-- A command to every configured barrier that passes a test. The manual gives the commands of one transition no order: the
channels are taken from 0 to 3 (log entry 7). -/
def toBarriers (p : Barrier → Bool) (f : Fin 4 → State → State) (s : State) : State :=
  allBarriers.foldl (fun s b => if s.barriers[b].configured && p s.barriers[b] then f b s else s) s

end Sys2Proof.Machine
end

