-- ==== Sys2Proof/Machine/Sequencer.lean ====
section
/-! DEFINITION. The Crossing Sequencer (ch. 4): its transitions and the commands they issue (R65 to R77), the hold set
(R78, R79), the closure's length (R80, R81), its reports (R82), and the report of a barrier's entry into FAULT (R72).

Transitions that follow one another in one step are written bottom up: OPEN, RAISING, CLOSED, LOWER_EXIT,
LOWER_ENTRY. None of them leads back within one step, so no recursion is needed. -/

namespace Sys2Proof.Machine

/-! ### The SEQ_STATE record and a change of state (R82) -/

/-- The data of a SEQ_STATE record (ch. 12.5). -/
def seqData (old new : Option SeqState) (cause : SeqCause) (holdBits : Nat) (short : Bool) (length : Option Nat) :
    List Byte :=
  [codeOrFF (old.map SeqState.code), codeOrFF (new.map SeqState.code), byte cause.code,
   byte (holdBits + 128 * flag short)] ++ be32 (length.getD 4294967295)

/-- A change of state: the entry time, the SEQ_STATE record, a STATE notice, a STATUS due (R82). -/
def seqGo (new : SeqState) (cause : SeqCause) (short : Bool) (length : Option Nat) (s : State) : State :=
  emit [.log .seqState 0 (seqData s.seq.state (some new) cause s.seq.holdBits short length), .stateNotice, .statusDue]
    (s.setSeq fun q => { q with state := some new, entry := s.now })

/-- A change of state that neither opens the road nor leaves OPEN. -/
def seqMove (new : SeqState) (cause : SeqCause) (s : State) : State := seqGo new cause false none s

/-! ### OPEN (R66, R76) -/

/-- The closure's length in ms, saturating at 480,000; the long-bin mark saturates it whatever it is (R81, R82). -/
def Sequencer.closureLength (q : Sequencer) (now : Time) : Nat :=
  if q.longBin then Config.longBinMs else min Config.longBinMs (elapsed now q.closureStart)

/-- Entry into OPEN: the dark command, the counted closure placed in its bin, LONG_CLOSURE ended, the open mark begun
afresh (R66, R76, R80, R81). -/
def enterOpen (s : State) : State :=
  let q := s.seq
  let len := if q.counted then some (q.closureLength s.now) else none
  let s := s.setSeq fun q =>
    { q with counted := false, longFlag := false, openMark := decide (q.tMinOpen = 0) }
  let s := lampCommand .dark (seqGo .roadOpen .barriers false len s)
  let s := match len with
    | some ms => emit [.count (cntClosureBin ms)] s
    | none => s
  if q.longFlag then endCondition .longClosure 0 s else s

/-- Leaving OPEN: the closure starts and is counted, the record carries the short-open mark, and a lamp test is
aborted as the command is applied (R66, R72, R100). The record of a barrier fault's move to RED_WAIT is marked as that of the
move to AMBER (log entry 24). -/
def leaveOpen (new : SeqState) (cause : SeqCause) (cmd : LampCmd) (s : State) : State :=
  let short := !s.seq.openMark
  let s := s.setSeq fun q =>
    { q with closureStart := s.now, counted := true, longBin := false, longFlag := false }
  let s := seqGo new cause short none (emit [.count cntClosures] s)
  lampCommand cmd (abortTest s)

/-! ### RAISING (R76) -/

/-- In RAISING, with every configured barrier in HELD_UP, the Sequencer goes to OPEN (R76). -/
def testRaising (s : State) : State :=
  if s.seq.state = some .raising ∧ s.barriersAll Barrier.isHeldUp then enterOpen s else s

/-- Entry into RAISING: red continue, a raise command to every configured barrier (R76). -/
def enterRaising (s : State) : State :=
  let s := lampCommand .redContinue (seqMove .raising .guardPassed s)
  testRaising (toBarriers (fun _ => true) raiseBarrier s)

/-! ### CLOSED and the re-open guard (R73, R74) -/

/-- The largest of a limit among the configured barriers that pass a test, 0 with none. -/
def State.largestOf (s : State) (p : Barrier → Bool) (f : Barrier → Nat) : Nat :=
  allBarriers.foldl (fun m b => if s.barriers[b].configured && p s.barriers[b] then max m (f s.barriers[b]) else m) 0

/-- The guard time: t_min_open plus the largest raising t_total among the configured barriers (R74). -/
def State.guardMs (s : State) : Nat := s.seq.tMinOpen + s.largestOf (fun _ => true) fun b => b.raise.total

/-- In CLOSED with the demand absent and every configured barrier DOWN, the guard is tested: records it commits keep the
road closed, and with none the Sequencer goes to RAISING in the same step (R73, R74). -/
def testClosed (s : State) : State :=
  if s.seq.state = some .closed ∧ s.demand = false ∧ s.barriersAll Barrier.isDown then
    if guardFinds s.guardMs s then guardCommit s.guardMs s else enterRaising s
  else s

/-- A barrier whose outputs are not already released. -/
def Barrier.notReleased (b : Barrier) : Bool := b.state == some .heldUp || b.state == some .raising

/-- Entry into CLOSED: red continue, a release to every configured barrier not already released (R73). -/
def enterClosed (s : State) : State :=
  let s := lampCommand .redContinue (seqMove .closed .barriers s)
  testClosed (toBarriers Barrier.notReleased releaseBarrier s)

/-! ### LOWER_EXIT and LOWER_ENTRY (R69, R70) -/

def Barrier.isEntry (b : Barrier) : Bool := b.role == .entry
def Barrier.isExit (b : Barrier) : Bool := b.role == .exit

/-- In LOWER_EXIT, with every configured exit barrier in DOWN or FAULT, the Sequencer goes to CLOSED (R70). -/
def testLowerExit (s : State) : State :=
  if s.seq.state = some .lowerExit ∧ s.barriersAll (fun b => !b.isExit || b.finished) then enterClosed s else s

/-- Entry into LOWER_EXIT: red continue, a release to every configured exit barrier (R69). -/
def enterLowerExit (s : State) : State :=
  let s := lampCommand .redContinue (seqMove .lowerExit .barriers s)
  testLowerExit (toBarriers Barrier.isExit releaseBarrier s)

/-- In LOWER_ENTRY, with every configured entry barrier in DOWN or FAULT and the exit-delay mark reached, the Sequencer
leaves for LOWER_EXIT or CLOSED, and the mark is made absent (R69). -/
def testLowerEntry (s : State) : State :=
  if s.seq.state = some .lowerEntry ∧ s.barriersAll (fun b => !b.isEntry || b.finished) ∧ reached s.now s.seq.exitMark then
    let s := s.setSeq fun q => { q with exitMark := none }
    if s.hasExit then enterLowerExit s else enterClosed s
  else s

/-- The exit-delay mark is set to now plus t_exit_delay on entry into LOWER_ENTRY (R68, R77). -/
def setExitMark (s : State) : State := s.setSeq fun q => { q with exitMark := some (later s.now q.tExitDelay) }

/-- Entry into LOWER_ENTRY from RED_WAIT: red continue, a release to every configured entry barrier (R68). -/
def enterLowerEntry (s : State) : State :=
  let s := lampCommand .redContinue (seqMove .lowerEntry .timer s)
  testLowerEntry (setExitMark (toBarriers Barrier.isEntry releaseBarrier s))

/-- Re-closure from RAISING: red start; a RAISING barrier and an entry barrier in HELD_UP are released, an exit barrier in
HELD_UP stays held up, a barrier in FAULT receives no command (R77). -/
def reclose (s : State) : State :=
  let s := lampCommand .redStart (seqMove .lowerEntry .demand s)
  testLowerEntry (setExitMark (toBarriers (fun b => b.state == some .raising || b.isEntry) releaseBarrier s))

/-! ### Taking the demand and the barriers' changes -/

/-- The Sequencer takes the demand afresh (R64): it leaves OPEN (R66), abandons a raise (R77), or tests whether it may
leave CLOSED (R73). In the closing states a change of demand changes nothing (R71). -/
def takeDemand (s : State) : State :=
  match s.seq.state with
  | some .roadOpen => if s.demand then leaveOpen .amber .demand .amber s else s
  | some .raising => if s.demand then reclose s else s
  | some .closed => testClosed s
  | _ => s

/-- A barrier has changed state: the condition of the present state is tested (R69, R70, R73, R76). -/
def barrierChanged (s : State) : State :=
  match s.seq.state with
  | some .lowerEntry => testLowerEntry s
  | some .lowerExit => testLowerExit s
  | some .closed => testClosed s
  | some .raising => testRaising s
  | _ => s

/-- The report of a barrier's entry into FAULT: from OPEN or AMBER the Sequencer goes at once to RED_WAIT (R72). -/
def barrierFaultReport (s : State) : State :=
  match s.seq.state with
  | some .roadOpen => leaveOpen .redWait .barrierFault .redStart s
  | some .amber => lampCommand .redStart (seqMove .redWait .barrierFault s)
  | _ => s

/-- A barrier enters FAULT (R114): a BARRIER_DISTURBED ends, BARRIER_FAIL is raised, the test of R126 follows both, and
BARRIER_FAULTS is counted. The Sequencer acts on the report (R72), on the demand and on the change of state. In OPEN the report and the demand are
taken in either order (R72): the order is free (log entry 3). -/
def barrierFault (b : Fin 4) (detail : Nat) (s : State) : State :=
  let old := s.barriers[b]
  let s := s.setBarrier b fun x => x.toFault s.now detail
  let ends := if old.disturbed then some FaultKind.barrierDisturbed else none
  let s := emit [.count cntBarrierFaults] (endThenRaise ends .barrierFail b.val detail s)
  let s :=
    if s.seq.state = some .roadOpen then
      let first := s.order
      let s := s.tookFree
      barrierFaultReport (if first then takeDemand s else s)
    else barrierFaultReport s
  barrierChanged (takeDemand s)

/-! ### The hold set (R78, R79) -/

/-- A change of the hold set: a STATUS due, a STATE notice, a SEQ_STATE record with the state unchanged and cause HOLD, and a
change of demand (R64, R79). -/
def holdChanged (s : State) : State :=
  takeDemand
    (emit [.log .seqState 0 (seqData s.seq.state s.seq.state .hold s.seq.holdBits false none), .stateNotice, .statusDue] s)

/-- HOLD on or off for one member; a command that changes nothing produces nothing (R78, R79). -/
def setHold (signaller on : Bool) (s : State) : State :=
  if signaller then
    if s.seq.holdSignaller = on then s else holdChanged (s.setSeq fun q => { q with holdSignaller := on })
  else if s.seq.holdLocal = on then s
  else holdChanged (s.setSeq fun q => { q with holdLocal := on })

/-- The value of a HOLD: 1 on, 0 off, any other refused (R78, R79). -/
def hold (signaller : Bool) (v : Nat) (s : State) : Result × State :=
  match v with
  | 0 => (.ok, setHold signaller false s)
  | 1 => (.ok, setHold signaller true s)
  | _ => (.outOfRange, s)

/-! ### Timed events -/

def State.inSeq (s : State) (x : SeqState) : Bool := s.part == .run && s.seq.state == some x

/-- t_amber has passed since AMBER was entered (R67). -/
def State.tAmberDue (s : State) : Bool := s.inSeq .amber && decide (s.seq.tAmber ≤ elapsed s.now s.seq.entry)

/-- t_prelower has passed since RED_WAIT was entered (R68). -/
def State.tPrelowerDue (s : State) : Bool := s.inSeq .redWait && decide (s.seq.tPrelower ≤ elapsed s.now s.seq.entry)

/-- The exit-delay mark is reached in LOWER_ENTRY and the entry barriers' condition holds (R69). -/
def State.exitDelayDue (s : State) : Bool :=
  s.inSeq .lowerEntry && reached s.now s.seq.exitMark && s.barriersAll fun b => !b.isEntry || b.finished

/-- t_min_open has passed since OPEN was entered (R66). -/
def State.openMarkDue (s : State) : Bool :=
  s.inSeq .roadOpen && !s.seq.openMark && decide (s.seq.tMinOpen ≤ elapsed s.now s.seq.entry)

/-- The Sequencer is out of OPEN in RUN (R80). -/
def State.closing (s : State) : Bool := s.part == .run && s.seq.state.isSome && s.seq.state != some .roadOpen

/-- More than t_long has passed since the closure start, and the long flag is clear (R80). -/
def State.longClosureDue (s : State) : Bool :=
  s.closing && !s.seq.longFlag && decide (s.seq.tLong < elapsed s.now s.seq.closureStart)

/-- 480,000 ms have passed since the closure start (R81). -/
def State.longBinDue (s : State) : Bool :=
  s.closing && !s.seq.longBin && decide (Config.longBinMs ≤ elapsed s.now s.seq.closureStart)

end Sys2Proof.Machine
end

