-- ==== Sys2Proof/Machine/Restore.lean ====
section
/-! DEFINITION. The restore of a DISTURBED section (R31 to R34): its tests, the change of the section, and what follows from
it in the Predictor and the Sequencer (R53, R59, R64). -/

namespace Sys2Proof.Machine

/-- Restore modes (R31). -/
inductive RestoreMode where
  | direct
  | sweep
  deriving DecidableEq, Repr

/-- The mode a byte names (ch. 12.2, 12.3). -/
def restoreMode (n : Nat) : Option RestoreMode :=
  match n with
  | 0 => some .direct
  | 1 => some .sweep
  | _ => none

/-- A section's two bounding points are quiet (R32). -/
def State.pointsQuiet (s : State) (i : Fin 10) : Bool :=
  s.points[s.sections[i].aEnd].still && s.points[s.sections[i].bEnd].still

/-- The tests of a restore, in order (R31). -/
def State.restoreTest (s : State) (n m : Nat) : Result :=
  if h : n < 10 then
    let i : Fin 10 := ⟨n, h⟩
    match restoreMode m with
    | none => .outOfRange
    | some mode =>
      if !s.sections[i].inUse then .outOfRange
      else if s.sections[i].state ≠ some .disturbed then .notDisturbed
      else if mode = .direct ∧ !s.pointsQuiet i then .pointsActive
      else .ok
  else .outOfRange

/-- What an accepted restore makes of the section (R32, R33). -/
def Sect.restored (c : Sect) : RestoreMode → SectChange
  | .direct => ⟨c.become .clear 0 false, some .direct⟩
  | .sweep => ⟨c.become .prepared 0 false, some .sweep⟩

/-- The uncommitted records whose span holds a section that a SWEEP has made PREPARED commit, in slot order where there are
two (R53; log entry 7). -/
def sweepCommits (i : Fin 10) (s : State) : State :=
  allSlots.foldl (fun s k => if s.inSpan k i then testPrepared k s else s) s

/-- An accepted restore: the change, its SECTION record and the end of SECTION_DISTURBED in the same step (R29, R32,
R33); a SWEEP commits the uncommitted records whose span holds the section (R53), and the Sequencer takes the demand of those
commits (R64); records may then end (R59), and the Sequencer takes their ends at the end of the step (`react`). Where one
SWEEP brings a record both, the manual gives no order: it commits first (log entry 7). -/
def carryOutRestore (i : Fin 10) (mode : RestoreMode) (s : State) : State :=
  let e : SectEffect := ⟨i, s.sections[i], s.sections[i].restored mode⟩
  let s := endCondition .sectionDisturbed i.val (applyEffects [e] none s)
  let s := match mode with
    | .direct => s
    | .sweep => takeDemand (sweepCommits i s)
  endRecords [i] s

/-- A restore: its result, and the state after it. A refused restore changes nothing (R31). -/
def restore (n m : Nat) (s : State) : Result × State :=
  match s.restoreTest n m with
  | .ok =>
    if h : n < 10 then
      match restoreMode m with
      | some mode => (.ok, carryOutRestore ⟨n, h⟩ mode s)
      | none => (.outOfRange, s)
    else (.outOfRange, s)
  | r => (r, s)

end Sys2Proof.Machine
end

