-- ==== Sys2Proof/Machine/Points.lean ====
section
/-! DEFINITION. The Point Monitor (ch. 1): the head-sequence machine (R4 to R8, R10, R11), the interval (R12), stuck
heads (R14, R15), the quiet mark (R9), and what an axle or skew event does in the blocks that take it (R13, R24, R27,
R42 to R44, R56 to R59). -/

namespace Sys2Proof.Machine

/-! ### The head-sequence machine -/

/-- What a point hands on: an axle with its direction and interval (R13), or a skew event (R11). -/
inductive PointEvent where
  | axle (d : Dir) (n : Option Nat)
  | skew
  deriving DecidableEq, Repr

/-- One evaluation of the machine: the point after it, and the event it produces. -/
structure PointStep where
  point : Point
  event : Option PointEvent
  deriving DecidableEq, Repr

/-- The stamp, interval and rocked flag of a passage are discarded. -/
def Point.discard (x : Point) : Point := { x with stamp := none, interval := none, rocked := false }

/-- A passage begins from IDLE: the stamp is recorded, the interval none, the rocked flag clear, the leave time this
millisecond (R4, R5). -/
def Point.begin (x : Point) (st : HeadSeq) (t : Tick) : Point :=
  { x with seq := st, stamp := some t, interval := none, rocked := false, leave := t.ms }

/-- The interval taken as the second head comes on: none when the wheel rocked or the count exceeds 65,535, and at least 1
(R12). Two head changes of a point that are queued in one head tick count as one tick apart (log entry 1). -/
def Point.taken (x : Point) (t : Tick) : Option Nat :=
  if x.rocked then none
  else match x.stamp with
    | none => none
    | some t0 => if Config.maxInterval < ticksSince t t0 then none else some (max 1 (ticksSince t t0))

/-- The second head comes on (R6). -/
def Point.second (x : Point) (st : HeadSeq) (t : Tick) : Point := { x with seq := st, interval := x.taken t }

/-- A backward step (R7, R8). -/
def Point.rock (x : Point) (st : HeadSeq) : Point := { x with seq := st, rocked := true }

/-- The wheel rolls back off the first head: nothing is counted, the stamp is discarded (R6). -/
def Point.rollBack (x : Point) : Point := { x with seq := .idle, stamp := none }

/-- The last count time is set and the quiet mark cleared (R9). -/
def Point.counted (x : Point) (now : Time) : Point := { x with lastCount := now, quietMark := false }

/-- An axle is counted: its interval is withheld when the wheel rocked, and the passage is discarded (R8, R12, R13). -/
def Point.count (x : Point) (d : Dir) (t : Tick) : PointStep :=
  ⟨({ x with seq := .idle }.discard).counted t.ms, some (.axle d (if x.rocked then none else x.interval))⟩

/-- In SKEW, both heads accepted off end the pass (R11). -/
def Point.waitSkew (x : Point) (t : Tick) : PointStep :=
  if !x.accA && !x.accB then ⟨{ x with seq := .idle }.counted t.ms, some .skew⟩ else ⟨x, none⟩

/-- Both heads changed in one tick: SKEW, which may end in the same tick (R4, R10). -/
def Point.enterSkew (x : Point) (t : Tick) : PointStep :=
  let x := if x.seq = .idle then { x with leave := t.ms } else x
  ({ x with seq := .skew }.discard).waitSkew t

/-- A change of head A alone, to the state it now shows (R5 to R8). -/
def Point.changeA (x : Point) (t : Tick) : PointStep :=
  match x.seq, x.accA with
  | .idle, true => ⟨x.begin .ab1 t, none⟩
  | .ab1, false => ⟨x.rollBack, none⟩
  | .ab2, false => ⟨{ x with seq := .ab3 }, none⟩
  | .ab3, true => ⟨x.rock .ab2, none⟩
  | .ba1, true => ⟨x.second .ba2 t, none⟩
  | .ba2, false => ⟨x.rock .ba1, none⟩
  | .ba3, false => x.count .bToA t
  | _, _ => ⟨x, none⟩

/-- A change of head B alone, to the state it now shows (R5 to R8). -/
def Point.changeB (x : Point) (t : Tick) : PointStep :=
  match x.seq, x.accB with
  | .idle, true => ⟨x.begin .ba1 t, none⟩
  | .ba1, false => ⟨x.rollBack, none⟩
  | .ba2, false => ⟨{ x with seq := .ba3 }, none⟩
  | .ba3, true => ⟨x.rock .ba2, none⟩
  | .ab1, true => ⟨x.second .ab2 t, none⟩
  | .ab2, false => ⟨x.rock .ab1, none⟩
  | .ab3, false => x.count .aToB t
  | _, _ => ⟨x, none⟩

/-- The evaluation of the machine in one head tick, given which heads changed; the point already carries the states
accepted in this tick (R4). -/
def Point.evaluate (x : Point) (changedA changedB : Bool) (t : Tick) : PointStep :=
  match x.seq with
  | .skew => x.waitSkew t
  | _ =>
    match changedA, changedB with
    | false, false => ⟨x, none⟩
    | true, false => x.changeA t
    | false, true => x.changeB t
    | true, true => x.enterSkew t

/-! ### Stuck heads (R14, R15) -/

/-- The stuck timeout has expired: more than T_stuck since the leave time, out of IDLE, and not already acted on. -/
def Point.stuck (x : Point) (now : Time) (tStuck : Nat) : Bool :=
  x.inService && x.seq != .idle && decide (tStuck < elapsed now x.leave) && !(x.seq == .skew && x.headFault)

/-- The expiry: the machine is forced to SKEW, and the head-fault flag set with the quiet time absent (R14). -/
def Point.expire (x : Point) : Point :=
  let x := if x.seq = .skew then x else { x with seq := .skew }.discard
  if x.headFault then x else { x with headFault := true, quiet := none }

/-- Which heads are accepted on: 1 A alone, 2 B alone, 3 both, 0 neither (R14). -/
def Point.headDetail (x : Point) : Nat := flag x.accA + 2 * flag x.accB

/-- The quiet time of a point whose head-fault flag is set, in one head tick (R15). -/
def Point.quietUpdate (x : Point) (now : Time) : Point :=
  if x.headFault then
    if x.accA || x.accB then { x with quiet := none } else { x with quiet := some (x.quiet.getD now) }
  else x

/-- The quiet period has lasted 2,000 ms (R15). -/
def Point.quietEnded (x : Point) (now : Time) : Bool := x.inService && x.headFault && agedBy now x.quiet Config.settleMs

/-- The quiet mark is due: 10,000 ms since the last count time (R9). -/
def Point.quietMarkDue (x : Point) (now : Time) : Bool :=
  x.inService && !x.quietMark && decide (Config.quietMarkMs ≤ elapsed now x.lastCount)

/-- The head tick in progress (R3). -/
def State.tickNow (s : State) : Tick := ⟨s.now, s.phase⟩

/-! ### Axle and skew events in the other blocks -/

/-- An arrival (R56, R57). The reading of the Sequencer and the Sequencer's own taking of the demand that this event
brings fall in one step: when it would leave OPEN or RAISING, their order is free (log entry 3). -/
def arrival (k : Fin 4) (p : Fin 12) (s : State) : State :=
  let s := arriveRecord k p s
  if s.demand && (s.seq.state == some .roadOpen || s.seq.state == some .raising) then
    let first := s.order
    let s := s.tookFree
    lateClosureTest k (if first then takeDemand s else s)
  else lateClosureTest k s

/-- The Predictor takes an axle event (R42 to R44, R53, R56 to R58). -/
def takeAxle (p : Fin 12) (d : Dir) (n : Option Nat) (s : State) : State :=
  match s.points[p].track with
  | none => s
  | some t =>
    let k := slotOf t d
    if s.nearPoint k = some p then
      match s.slots[k].record with
      | none => arrival k p (createRecord k p s)
      | some r =>
        match r.phase with
        | .approaching => arrival k p s
        | .arrived => islandEntry k s
    else if s.upstream k p then
      match s.slots[k].record with
      | none => testPrepared k (predict k p n (createRecord k p s))
      | some r => if r.phase = .approaching ∧ s.nearerThanAll k p r then predict k p n s else s
    else s

/-- An axle event: counted (R9), applied whole to the sections (R24), taken by the Predictor with both halves applied
(R42), and the records whose spans it cleared end (R59). -/
def axleEvent (p : Fin 12) (d : Dir) (n : Option Nat) (s : State) : State :=
  let s := emit [.count (cntAxles p)] s
  let es := s.axleEffects p d
  endRecords (changedBy es) (takeAxle p d n (applyEffects es (some p) s))

/-- A skew event: counted in SEQUENCE_ERRORS (R11) and applied to the sections the point bounds (R27). -/
def skewEvent (p : Fin 12) (s : State) : State :=
  let s := emit [.count cntSequenceErrors] s
  let es := s.skewEffects p
  endRecords (changedBy es) (applyEffects es (some p) s)

/-- A point's event reaches the blocks that take it (R13). -/
def pointEvent (p : Fin 12) (e : Option PointEvent) (s : State) : State :=
  match e with
  | none => s
  | some (.axle d n) => axleEvent p d n s
  | some .skew => skewEvent p s

/-! ### One head tick of one point -/

/-- The rest of a point's tick after both heads' acceptance: the stuck timeout when it is tested and due (R14), the
machine's evaluation (R4), the quiet time (R15), and what these hand on. -/
def pointTick (p : Fin 12) (changedA changedB expiring : Bool) (s : State) : State :=
  let x := s.points[p]
  let y := if expiring then x.expire else x
  let z := y.evaluate changedA changedB s.tickNow
  let s := s.setPoint p fun _ => z.point.quietUpdate s.now
  let s := if y.headFault && !x.headFault then raise .headFault p.val x.headDetail s else s
  pointEvent p z.event s

/-- The new samples enter the windows and the states they show are accepted (R3). -/
def Point.accept (x : Point) (winA winB : Window) : Point :=
  { x with winA := winA, winB := winB, accA := winA.accepted, accB := winB.accepted }

/-- The heads of an in-service point in one head tick (R3, R4, R14, R15). -/
def headTick (p : Fin 12) (winA winB : Window) (s : State) : State :=
  let x := s.points[p]
  pointTick p (x.accA != winA.accepted) (x.accB != winB.accepted) (s.phase == 0 && x.stuck s.now s.tStuck)
    (s.setPoint p fun x => x.accept winA winB)

/-- The inputs of a point's heads. -/
def setHeads (p : Fin 12) (a b : Bool) (s : State) : State :=
  s.setPins fun i => { i with heads := i.heads.set p ⟨a, b⟩ }

/-- The point is sampled: in RUN and in service (R1, R16). -/
def State.sampled (s : State) (p : Fin 12) : Bool := s.part == .run && s.points[p].inService

/-- STUCK_TIMEOUT: tested in the head tick of phase 0 (R14). -/
def State.stuckDue (s : State) (p : Fin 12) : Bool :=
  s.part == .run && s.phase == 0 && s.points[p].stuck s.now s.tStuck

/-- QUIET_PERIOD_END: tested in the head tick of phase 0 (R15). -/
def State.quietEndDue (s : State) (p : Fin 12) : Bool :=
  s.part == .run && s.phase == 0 && s.points[p].quietEnded s.now

/-- QUIET_MARK (R9). -/
def State.quietMarkDue (s : State) (p : Fin 12) : Bool := s.part == .run && s.points[p].quietMarkDue s.now

/-- The end of a quiet period (R15). -/
def endQuiet (p : Fin 12) (s : State) : State :=
  endCondition .headFault p.val (s.setPoint p fun x => { x with headFault := false, quiet := none })

end Sys2Proof.Machine
end

