-- ==== Sys2Proof/Machine/Reports.lean ====
section
/-! DEFINITION. The Report Scheduler (ch. 9): signaller commands (R160 to R163), the three frames' contents (R164, R166),
building and freezing a frame (R169, R170), marking (R171, R172), the link's edges (R173), and its timers (R165 to
R167). -/

namespace Sys2Proof.Machine

/-! ### Commands from the signal box -/

/-- How a frame was addressed to the part (R146). -/
inductive Addressing where
  | own
  | group
  | broadcast
  deriving DecidableEq, Repr

def Addressing.code : Addressing → Nat
  | .own => 0
  | .group => 1
  | .broadcast => 2

/-- The pairs a payload carries, two bytes each (ch. 12.2, 12.3). -/
def pairsOf : List Byte → List AckPair
  | k :: o :: rest => (k.toNat, o.toNat) :: pairsOf rest
  | _ => []

/-- A payload opening with a count fits when its length agrees with the count (R160, R195). -/
def countFits (payload : List Byte) : Bool :=
  match payload with
  | [] => false
  | c :: rest => rest.length == 2 * c.toNat

/-- What an acknowledge payload names: ALL for a count of 0, otherwise its pairs (R129, R162). -/
def ackTarget (payload : List Byte) : AckTarget :=
  match payload with
  | [] => .all
  | c :: rest => if c = 0 then .all else .pairs (pairsOf rest)

/-- The number a byte of a payload holds; no byte reads as 0. -/
def byteAt (payload : List Byte) (i : Nat) : Nat := (payload.getD i 0).toNat

/-- A command's KIND and length are tested, then it is carried out: its result, and the state after it (R160 to
R162). -/
def sigExecute (kind : Byte) (payload : List Byte) (s : State) : Result × State :=
  if kind = kindPoll then
    if payload.length = 0 then (.ok, statusDue s) else (.badLength, s)
  else if kind = kindAck then
    if countFits payload then acknowledge .signaller (ackTarget payload) s else (.badLength, s)
  else if kind = kindRestore then
    if payload.length = 2 then restore (byteAt payload 0) (byteAt payload 1) s else (.badLength, s)
  else if kind = kindHold then
    if payload.length = 1 then hold true (byteAt payload 0) s else (.badLength, s)
  else if kind = kindRelease then
    if payload.length = 0 then release s else (.badLength, s)
  else (.unknownKind, s)

/-- The SIG_CMD record (R160, ch. 12.5): result byte FFh for a frame refused for its source. -/
def sigLog (src : BitVec 6) (kind : Byte) (addr : Addressing) (result : Option Result) (payload : List Byte)
    (s : State) : State :=
  emit [.log .sigCmd src.toNat
    ([kind, byte addr.code, codeOrFF (result.map Result.code), byte (flag result.isNone)] ++ payload.take 4)] s

/-- A confirmation fills the CONFIRM slot, replacing an older one (R163). -/
def fillConfirm (kind : Byte) (r : Result) (s : State) : State :=
  s.setReports fun x =>
    { x with confirm := some ⟨kind, r⟩, confirmRenewed := x.confirmRenewed || s.line.sendingKind kindConfirm }

/-- A frame handed to the Report Scheduler (R160, R163). -/
def takeCommand (src : BitVec 6) (kind : Byte) (addr : Addressing) (payload : List Byte) (s : State) : State :=
  if src = 0 then
    let x := sigExecute kind payload s
    let s := sigLog src kind addr (some x.1) payload x.2
    match addr with
    | .own => fillConfirm kind x.1 s
    | _ => s
  else sigLog src kind addr none payload s

/-! ### Contents -/

/-- The state code of a section entry in STATUS: 0 for an entry not in use (R164). -/
def Sect.statusCode (c : Sect) : Nat := if c.inUse then (c.state.map SectionState.code).getD 0 else 0

/-- The phase of a slot, 0 for empty (ch. 12.2, 12.3). -/
def Slot.phaseCode (k : Slot) : Nat := (k.record.map fun r => r.phase.code).getD 0

/-- The active records of each class, one byte each (R138, R164). -/
def State.activeCounts (s : State) : List Byte :=
  [byte (s.faults.countActive .severe), byte (s.faults.countActive .minor), byte (s.faults.countActive .notice)]

/-- The payload of a STATUS, 16 characters (R164, ch. 12.3). -/
def State.statusPayload (s : State) : List Byte :=
  [codeOrFF (s.seq.state.map SeqState.code),
   byte ((s.faults.mode.map Mode.code).getD 0 + 4 * flag s.faults.latch + 8 * s.seq.holdBits)] ++
  be16 (packBits (allSections.map fun i => s.sections[i].inUse)) ++
  be24 (packPairs (allSections.map fun i => s.sections[i].statusCode)) ++
  [byte (packPairs (allSlots.map fun k => s.slots[k].phaseCode)),
   byte (packBits (allSlots.map fun k => s.slots[k].demands))] ++
  s.activeCounts ++ be32 (s.now.toNat / 1000)

/-- The age of a record in whole seconds, 65,535 when its aged mark is set (R166). -/
def ageSeconds (now : Time) (aged : Bool) (r : FaultRecord) : Nat :=
  if aged then 65535 else min 65535 (elapsed now r.last / 1000)

/-- A fault entry, 8 characters (R166). -/
def FaultSlot.entry (x : FaultSlot) (now : Time) : List Byte :=
  match x.record with
  | none => []
  | some r =>
    [byte r.kind.code, byte r.object, byte r.cls.code, byte r.state.code, byte r.detail, byte r.count] ++
      be16 (ageSeconds now x.aged r)

/-- Places a slot behind every slot that is at least as early (R169). -/
def FaultManager.insertByAge (f : FaultManager) (now : Time) (i : Fin 32) : List (Fin 32) → List (Fin 32)
  | [] => [i]
  | j :: js => if f.age now j < f.age now i then i :: j :: js else j :: f.insertByAge now i js

/-- Slots, earliest last change time first, the lower slot first on a tie (R169). -/
def FaultManager.earliestFirst (f : FaultManager) (now : Time) (l : List (Fin 32)) : List (Fin 32) :=
  l.foldl (fun acc i => f.insertByAge now i acc) []

/-- A frame's content as the Report Scheduler gives it. -/
structure Content where
  kind : Byte
  payload : List Byte
  carried : List (Fin 32)
  deriving DecidableEq, Repr

/-- A FAULT_REPORT of the due records of some classes, up to three; none when none is due (R166, R169). -/
def State.faultReport (s : State) (p : FaultClass → Bool) : Option Content :=
  match (s.faults.earliestFirst s.now (s.faults.dueSlots p)).take 3 with
  | [] => none
  | l => some ⟨kindFaultReport, (l.map fun i => s.faults.table[i].entry s.now).flatten, l⟩

/-- A STATUS. -/
def State.statusContent (s : State) : Content := ⟨kindStatus, s.statusPayload, []⟩

/-- The content of a frame of a class, if the class has any (R169). -/
def State.content (s : State) : LineClass → Option Content
  | .alarm => s.faultReport isSevere
  | .state =>
    match s.reports.confirm with
    | some c => some ⟨kindConfirm, [c.kind, byte c.result.code], []⟩
    | none => if s.reports.stateMark then some s.statusContent else none
  | .routine =>
    match s.faultReport notSevere with
    | some c => some c
    | none => if s.reports.healthMark then some s.statusContent else none

/-! ### What a frame carries, and its end -/

/-- Notes what the frame carries at its HEAD start bit (R170). -/
def freeze (c : Content) (s : State) : State :=
  if c.kind = kindFaultReport then
    s.setFaults fun f =>
      { f with table := remake f.table fun i x =>
          if i ∈ c.carried then { x with carried := x.record.map FaultRecord.state } else x }
  else if c.kind = kindConfirm then s.setReports fun r => { r with confirmRenewed := false }
  else s.setReports fun r => { r with stateRenewed := false, healthRenewed := false }

/-- A slot's marks when the frame carrying its record completes (R171). -/
def FaultSlot.reported (x : FaultSlot) (now : Time) : FaultSlot :=
  match x.carried, x.record with
  | some st, some r =>
    { x with record := some { r with lastReported := some st, lastReport := some now }, forced := false, carried := none }
  | _, _ => x

/-- The health timer's expiry when it is started now (R165). -/
def State.healthExpiry (s : State) : Time := later s.now (s.line.tHealth * 1000)

/-- The marks of a completed frame (R171). -/
def writeMarks (f : TxFrame) (s : State) : State :=
  if f.kind = kindFaultReport then
    s.setFaults fun m => { m with table := remake m.table fun _ x => x.reported s.now }
  else if f.kind = kindConfirm then
    s.setReports fun r =>
      { r with confirm := if r.confirmRenewed then r.confirm else none, confirmRenewed := false }
  else
    s.setReports fun r =>
      { r with stateMark := r.stateMark && r.stateRenewed, stateRenewed := false,
               healthMark := r.healthMark && r.healthRenewed, healthRenewed := false,
               healthTimer := some s.healthExpiry }

/-- A frame not sent: carried marks and renewed flags are cleared, every due mark stays (R172). -/
def notSent (s : State) : State :=
  (s.setFaults fun m => { m with table := remake m.table fun _ x => { x with carried := none } }).setReports fun r =>
    { r with confirmRenewed := false, stateRenewed := false, healthRenewed := false }

/-! ### The link's edges (R173) -/

/-- Entry into ACTIVE: every occupied slot forced due, a STATUS due, the health timer started (R173). -/
def linkUp (s : State) : State :=
  let s := s.setFaults fun m => { m with table := remake m.table fun _ x => { x with forced := x.record.isSome } }
  (statusDue s).setReports fun r => { r with healthTimer := some s.healthExpiry }

/-- Leaving ACTIVE: the CONFIRM slot emptied, the health mark cleared and its timer stopped, the forced marks cleared
(R173). -/
def linkGone (s : State) : State :=
  (s.setFaults fun m => { m with table := remake m.table fun _ x => { x with forced := false } }).setReports fun r =>
    { r with confirm := none, healthMark := false, healthTimer := none }

/-! ### Timed events -/

/-- The health timer has reached its expiry (R165). -/
def State.healthDue (s : State) : Bool :=
  s.part == .run && s.line.link == .active && reached s.now s.reports.healthTimer

/-- The timer stops and the health mark is set, with its renewed flag while a STATUS is in flight (R165). -/
def healthExpired (s : State) : State :=
  s.setReports fun r =>
    { r with healthTimer := none, healthMark := true,
             healthRenewed := r.healthRenewed || s.line.sendingKind kindStatus }

/-- The repeat interval of a slot has passed (R167). DESIGN CHOICE: the last report time of a record that stood acknowledged for
2^31 ms and more is compared by the difference modulo 2^32 (log entry 27). -/
def State.repeatDue (s : State) (i : Fin 32) : Bool :=
  s.part == .run && s.line.link == .active &&
    match s.faults.table[i].record with
    | some r =>
      r.state != .activeAcked && !s.faults.table[i].forced && s.faults.table[i].carried.isNone &&
        agedBy s.now r.lastReport (s.line.tRepeat * 1000)
    | none => false

/-- The record of a slot is 65,535,000 ms old and its aged mark is clear (R166). -/
def State.agedDue (s : State) (i : Fin 32) : Bool :=
  s.part == .run &&
    match s.faults.table[i].record with
    | some r => !s.faults.table[i].aged && decide (Config.longAgeMs ≤ elapsed s.now r.last)
    | none => false

end Sys2Proof.Machine
end

