-- ==== Sys2Proof/Machine/Line.lean ====
section
/-! DEFINITION. The Line Controller (ch. 8): access (R150 to R152), the frame in flight (R153 to R156), receiving (R143
to R146), link supervision (R147 to R149), and the bit clock of an undisturbed line (R141). -/

namespace Sys2Proof.Machine

/-! ### Access waits (R150, R151) -/

/-- Whether W of a class is raised. -/
def LineController.raised (l : LineController) : LineClass → Bool
  | .alarm => l.raisedAlarm
  | .state => l.raisedState
  | .routine => l.raisedRoutine

/-- Sets W of a class raised or at base. -/
def LineController.setRaised (l : LineController) (c : LineClass) (v : Bool) : LineController :=
  match c with
  | .alarm => { l with raisedAlarm := v }
  | .state => { l with raisedState := v }
  | .routine => { l with raisedRoutine := v }

/-- Every access wait returns to base (R145, R149). -/
def LineController.waitsToBase (l : LineController) : LineController :=
  { l with raisedAlarm := false, raisedState := false, raisedRoutine := false }

/-- A raised W returns to base when the class has no content (R150). -/
def lowerWaits (s : State) : State :=
  s.setLine fun l =>
    { l with raisedAlarm := l.raisedAlarm && s.holdsContent .alarm,
             raisedState := l.raisedState && s.holdsContent .state,
             raisedRoutine := l.raisedRoutine && s.holdsContent .routine }

/-- All that R151 asks for a wait to begin, the content apart. -/
def LineController.mayWait (l : LineController) : Bool :=
  l.link == .active && l.rx == .idle && l.inFlight.isNone && l.wait.isNone

/-- A wait begins, its class fixed as the highest of which content is held; its W is tested at once (R151). -/
def beginWait (s : State) : State :=
  if s.line.mayWait then
    s.setLine fun l => { l with wait := s.highestContent, waitTest := l.waitTest || s.highestContent.isSome }
  else s

/-- What the Line Controller does whenever the Report Scheduler's content, the receiver or the link may have changed
(R150, R151, R168). -/
def lineSettle (s : State) : State := if s.part = .run then beginWait (lowerWaits s) else s

/-- The end of a command: the Sequencer takes the demand as it now stands (R64) and the Line Controller the content. -/
def react (s : State) : State := lineSettle (takeDemand s)

/-! ### The frame in flight (R153 to R156) -/

/-- The characters of a frame: HEAD, DEST, LEN, KIND, payload, CRC (8.3, ch. 12.3). -/
def lineChars (h : LineHead) (kind : Byte) (payload : List Byte) : List Byte :=
  let body := [byte (64 * h.cls.toNat + h.src.toNat), byte h.dest.toNat, byte payload.length, kind] ++ payload
  body ++ crcBytes body

/-- The characters of a frame of the part, to DEST 0 (R153). -/
def frameChars (cls : LineClass) (own : BitVec 6) (kind : Byte) (payload : List Byte) : List Byte :=
  lineChars ⟨BitVec.ofNat 2 cls.code, own, 0⟩ kind payload

/-- The frame of a class with a content, its start bit not begun. -/
def LineController.frame (l : LineController) (cls : LineClass) (c : Content) : TxFrame :=
  ⟨cls, c.kind, c.payload, frameChars cls (l.own.getD 0) c.kind c.payload, 0, false⟩

/-- A frame's bit, counted from HEAD's start bit: the start bit is 0, the stop bit 1, the data bits most significant
first (R140). -/
def bitOfChars (chars : List Byte) (n : Nat) : Bool :=
  if n % 10 = 0 then false
  else if n % 10 = 9 then true
  else (chars.getD (n / 10) 0).getLsbD (8 - n % 10)

/-- The bit the part is sending. -/
def TxFrame.bit (f : TxFrame) : Bool := bitOfChars f.chars f.sent

/-- Bits in the frame. -/
def TxFrame.bits (f : TxFrame) : Nat := 10 * f.chars.length

/-- The part drives the line with the frame: its start bit has begun and not every bit of it has been read back (R152,
R153, R155). -/
def TxFrame.driving (f : TxFrame) : Bool := f.begun && decide (f.sent < f.bits)

/-- A wait's W is reached (R152). -/
def State.waitQuiet (s : State) : Bool :=
  s.part == .run && s.line.link == .active && s.line.rx == .idle && s.line.inFlight.isNone &&
    match s.line.wait with
    | some c => decide (s.line.waitBits c ≤ s.line.quiet)
    | none => false

/-- The part asks for a frame of the wait's class, or begins a new wait when the class has no content (R152, R169). The frame
is not begun: its start bit comes with the next bit-time, and only then is its content fixed (`startBit`). -/
def startFrame (s : State) : State :=
  match s.line.wait with
  | none => s
  | some cls =>
    match s.content cls with
    | none => lineSettle (s.setLine fun l => { l with wait := none })
    | some c => s.setLine fun l => { l with wait := none, inFlight := some (l.frame cls c) }

/-- HEAD's start bit begins: the frame's whole content is fixed, as the Report Scheduler holds it at this moment, and what it
carries is recorded (R153, R164, R166, R170). A class left without content sends nothing, and a wait begins (R152; log
entry 26). -/
def startBit (cls : LineClass) (s : State) : State :=
  match s.content cls with
  | none => lineSettle (s.setLine fun l => { l with inFlight := none })
  | some c => freeze c (s.setLine fun l => { l with inFlight := some { l.frame cls c with begun := true } })

/-- A frame whose start bit has not begun is given up: nothing of it was recorded (R152, R170). -/
def LineController.dropUnbegun (l : LineController) : LineController := { l with inFlight := l.inFlight.filter TxFrame.begun }

/-- The frame's last stop bit has been read back (R155). -/
def State.frameSentDue (s : State) : Bool :=
  s.part == .run &&
    match s.line.inFlight with
    | some f => decide (f.bits ≤ f.sent)
    | none => false

/-- Completion: counted, marks written, W raised when the class still has content, quiet count 0, receiver IDLE
(R150, R155). -/
def frameSent (s : State) : State :=
  match s.line.inFlight with
  | none => s
  | some f =>
    let s := writeMarks f (emit [.count cntLineSent] s)
    let more := s.holdsContent f.cls
    lineSettle (s.setLine fun l => { l.setRaised f.cls more with inFlight := none, quiet := 0, rx := .idle })

/-- The bit sample in which the part reads another level than it sent: the next one falls one bit-time after it (R140,
R154, R156). -/
def LineController.sampledNow (l : LineController) : LineController := { l with bitAcc := 0 }

/-- The frame in flight ends without completion; the receiver takes a state and the quiet count a value (R154, R156,
R172). -/
def giveUp (rx : RxState) (headBits : List Bool) (quiet : Nat) (s : State) : State :=
  notSent (s.setLine fun l => { l with inFlight := none, rx := rx, assembly := [], headBits := headBits, quiet := quiet })

/-- Arbitration can be lost at the bit being sent: a recessive bit of HEAD (R154). -/
def State.canLose (s : State) : Bool :=
  s.part == .run &&
    match s.line.inFlight with
    | some f => f.begun && decide (f.sent < 10) && f.bit
    | none => false

/-- The HEAD bits the receiver takes over: those sent and read back, then the dominant bit that won (R154). -/
def TxFrame.headRead (f : TxFrame) : List Bool := ((List.range f.sent).drop 1).map (bitOfChars f.chars) ++ [false]

/-- Arbitration is lost, at the sample of the bit being sent (R154); at HEAD's stop bit the assembled HEAD has a framing
error (R143). -/
def loseArbitration (s : State) : State :=
  match s.line.inFlight with
  | none => s
  | some f =>
    let s := emit [.count cntArbLost] (s.setLine LineController.sampledNow)
    if f.sent = 9 then lineSettle (giveUp .skipping [] 0 (emit [.count cntLineBad] s))
    else lineSettle (giveUp .assembling f.headRead 0 s)

/-- A collision can occur at the bit being sent: any bit after HEAD, and a dominant bit of HEAD (R156). -/
def State.canCollide (s : State) : Bool :=
  s.part == .run &&
    match s.line.inFlight with
    | some f => f.driving && (decide (10 ≤ f.sent) || !f.bit)
    | none => false

/-- The quiet count after a collision at a bit: 0 where a recessive bit was read dominant, and at a start bit of the part;
one more where another dominant bit was read recessive (R141). -/
def collisionQuiet (f : TxFrame) (quiet : Nat) : Nat := if f.bit || f.sent % 10 == 0 then 0 else quiet + 1

/-- A collision, at the sample of the bit being sent (R156). -/
def collide (s : State) : State :=
  match s.line.inFlight with
  | none => s
  | some f =>
    lineSettle (giveUp .skipping [] (collisionQuiet f s.line.quiet)
      (emit [.count cntLineBad] (s.setLine LineController.sampledNow)))

/-- A frame in flight is abandoned as the link leaves ACTIVE: nothing is counted (R156). One whose start bit has not begun is
given up, the receiver left as it is (R152; log entry 26). -/
def abandon (s : State) : State :=
  match s.line.inFlight with
  | none => s
  | some f => if f.begun then giveUp .skipping [] s.line.quiet s else s.setLine LineController.dropUnbegun

/-! ### The link (R147 to R149) -/

/-- The data of a LINK record (ch. 12.5). -/
def linkData (old : Option LinkState) (new : LinkState) (cause : LinkCause) : List Byte :=
  [codeOrFF (old.map LinkState.code), byte new.code, byte cause.code]

/-- The Report Scheduler's part in a change of link state (R149, R173). -/
def linkEdges (old new : LinkState) (s : State) : State :=
  let s := if old = .active then linkGone (abandon s) else s
  if new = .active then linkUp s else s

/-- A change of link state: LINK record and notice, waits to base, a wait in progress ended, the edges of ACTIVE
(R149). -/
def linkGo (new : LinkState) (cause : LinkCause) (s : State) : State :=
  let old := s.line.link
  linkEdges old new
    (emit [.log .link 0 (linkData (some old) new cause), .notice ⟨.link, [byte new.code]⟩]
      (s.setLine fun l => { l.waitsToBase with link := new, wait := none }))

/-- A BEACON is valid when its source is 0, its DEST 63 and its LEN 0 (R146). -/
def beaconValid (h : LineHead) (payload : List Byte) : Bool := h.src == 0 && h.dest == 63 && payload.isEmpty

/-- A valid BEACON, taken by the link state (R147, R148). SYNC has no timeout: DESIGN CHOICE, a first-beacon time of 2^31 ms
and more is compared by the difference modulo 2^32 as any other (log entry 27). -/
def takeBeacon (s : State) : State :=
  match s.line.link with
  | .down => (linkGo .sync .beacon s).setLine fun l => { l with firstBeacon := some s.now }
  | .lost =>
    endCondition .linkLost 0 ((linkGo .sync .beacon s).setLine fun l => { l with firstBeacon := some s.now })
  | .sync =>
    if agedPast s.now s.line.firstBeacon (2 * s.line.beaconMs) then
      s.setLine fun l => { l with firstBeacon := some s.now }
    else (linkGo .active .beacon s).setLine fun l => { l with lastBeacon := some s.now }
  | .active => s.setLine fun l => { l with lastBeacon := some s.now }

/-- The beacon timeout (R148). -/
def State.beaconTimeoutDue (s : State) : Bool :=
  s.part == .run && s.line.link == .active && agedPast s.now s.line.lastBeacon (3 * s.line.beaconMs)

/-- The link is lost (R148). -/
def loseLink (s : State) : State := raise .linkLost 0 0 (linkGo .lost .timeout s)

/-! ### Receiving (R143 to R146) -/

/-- How a destination addresses the part; none when it does not (R145, R146). -/
def LineController.addressing (l : LineController) (dest : BitVec 6) : Option Addressing :=
  if l.own = some dest then some .own
  else if l.groups.toList.contains (some dest) then some .group
  else if dest = 63 then some .broadcast
  else none

/-- A frame addressed to the part, by its KIND and the link state (R146). -/
def addressedFrame (h : LineHead) (kind : Byte) (addr : Addressing) (payload : List Byte) (s : State) : State :=
  let s := emit [.count cntLineGood] s
  if kind = kindBeacon then (if beaconValid h payload then takeBeacon s else s)
  else if s.line.link = .active then takeCommand h.src kind addr payload s
  else s

/-- The tests of a complete frame whose CRC matches (R145). -/
def completeFrame (h : LineHead) (kind : Byte) (payload : List Byte) (s : State) : State :=
  if s.line.own = some h.src then s
  else
    let s := s.setLine LineController.waitsToBase
    match s.line.addressing h.dest with
    | none => s
    | some addr => addressedFrame h kind addr payload s

/-- No frame of the part has begun: none is in flight, or its start bit is still to come (R152). -/
def LineController.silent (l : LineController) : Bool := l.inFlight.all fun f => !f.begun

/-- The receiver can take a frame: in RUN, not in SKIPPING, with no frame of the part begun (R143, R152, R155). -/
def State.canReceive (s : State) : Bool := s.part == .run && s.line.rx != .skipping && s.line.silent

/-- The receiver is SKIPPING: it takes no character, but the line's samples count (R141, R143). -/
def State.skips (s : State) : Bool := s.part == .run && s.line.rx == .skipping && s.line.silent

/-- Characters have been on the line: a wait has ended as "line taken", the quiet count is 0 at the stop bit just sampled,
and the bit-times run from that sample (R140, R141, R152). -/
def LineController.lineTaken (l : LineController) (rx : RxState) (assembly : List Byte) : LineController :=
  { l with rx := rx, assembly := assembly, headBits := [], quiet := 0, bitAcc := 0, wait := none }

/-- Another station's characters are taken from the line. A frame of the part whose start bit has not begun does not begin
(R152). -/
def takeLine (rx : RxState) (assembly : List Byte) (s : State) : State :=
  s.setLine fun l => l.dropUnbegun.lineTaken rx assembly

/-- A character's eight data bits, most significant first. -/
def bitsOfByte (c : Byte) : List Bool := [7, 6, 5, 4, 3, 2, 1, 0].map fun i => c.getLsbD i

/-- A byte from its eight bits, most significant first. -/
def byteOfBits (l : List Bool) : Byte := byte (packBits l.reverse)

/-- A character as the receiver takes it: the bits of a HEAD taken over at an arbitration loss stand before the rest
(R154). -/
def LineController.joined (l : LineController) (c : Byte) : Byte :=
  match l.headBits with
  | [] => c
  | hb => byteOfBits (hb ++ (bitsOfByte c).drop hb.length)

/-- The quiet count after a character that is not assembled: its last dominant bit set it to 0, and the recessive data bits
after that one and the stop bit each raised it by one (R141). -/
def quietAfterChar (c : Byte) : Nat := (((bitsOfByte c).reverse.takeWhile id).length) + 1

/-- HEAD and DEST as two characters carry them. -/
def lineHead (hd dest : Byte) : LineHead := ⟨hd.extractLsb' 6 2, hd.extractLsb' 0 6, dest.extractLsb' 0 6⟩

/-- What becomes of an assembly when a character joins it (R143, R144, R145). -/
inductive CharOutcome where
  | more
  | skip
  | badCrc
  | frame (h : LineHead) (kind : Byte) (payload : List Byte)
  deriving DecidableEq, Repr

/-- A complete assembly: the CRC covers HEAD through the payload (R145, R206). -/
def checkFrame (asm : List Byte) : CharOutcome :=
  match asm with
  | hd :: dest :: len :: kind :: rest =>
    if crcBytes (asm.take (len.toNat + 4)) = asm.drop (len.toNat + 4) then
      .frame (lineHead hd dest) kind (rest.take len.toNat)
    else .badCrc
  | _ => .more

/-- The checks on an assembly as its latest character is taken (R144). -/
def judgeChars (asm : List Byte) : CharOutcome :=
  match asm with
  | [_, dest] => if 64 ≤ dest.toNat then .skip else .more
  | [_, _, len] => if 24 < len.toNat then .skip else .more
  | _ :: _ :: len :: _ => if asm.length = len.toNat + 6 then checkFrame asm else .more
  | _ => .more

/-- A frame is discarded as bad: counted, and the receiver goes to a state (R143 to R145). -/
def badFrame (rx : RxState) (quiet : Nat) (s : State) : State :=
  emit [.count cntLineBad] (s.setLine fun l => { l with rx := rx, assembly := [], headBits := [], quiet := quiet })

/-- One character is taken whole at a recessive stop bit (R143); in SKIPPING it is not taken, and its bits set the quiet
count (R141). -/
def takeChar (s : State) (c : Byte) : State :=
  if s.canReceive then
    let asm := s.line.assembly ++ [s.line.joined c]
    match judgeChars asm with
    | .more => takeLine .assembling asm s
    | .skip => badFrame .skipping 0 (takeLine .skipping [] s)
    | .badCrc => badFrame .idle 0 (takeLine .idle [] s)
    | .frame h kind payload => react (completeFrame h kind payload (takeLine .idle [] s))
  else if s.skips then s.setLine fun l => { l with quiet := quietAfterChar c }
  else s

/-- Characters are taken one after another. -/
def takeChars (cs : List Byte) (s : State) : State := cs.foldl takeChar s

/-- A frame received whole with a matching CRC (R143 to R146). From IDLE it is taken as a whole; in ASSEMBLING its characters
join the assembly, and in SKIPPING none is taken. -/
def receiveFrame (h : LineHead) (kind : Byte) (payload : List Byte) (s : State) : State :=
  if 24 < payload.length then s
  else if s.canReceive && s.line.rx == .idle then
    react (completeFrame h kind payload (takeLine .idle [] s))
  else if s.canReceive || s.skips then react (takeChars (lineChars h kind payload) s)
  else s

/-- A character with its stop bit dominant: the frame is discarded (R143); in SKIPPING the quiet count is set to 0 (R141). -/
def framingError (s : State) : State :=
  if s.canReceive then badFrame .skipping 0 (takeLine .skipping [] s)
  else if s.skips then s.setLine fun l => { l with quiet := 0 }
  else s

/-- The quiet count exceeds 20 in ASSEMBLING: the frame is aborted (R143). -/
def gapAbort (s : State) : State :=
  if s.canReceive && s.line.rx == .assembling then badFrame .idle (max s.line.quiet (Config.lineGapBits + 1)) s else s

/-- The gap of an assembly has passed on a line that is quiet (R143). -/
def State.gapAbortDue (s : State) : Bool :=
  s.canReceive && s.line.rx == .assembling && decide (Config.lineGapBits < s.line.quiet)

/-- SKIPPING ends when the quiet count exceeds 20 (R143). -/
def State.skipEndDue (s : State) : Bool :=
  s.part == .run && s.line.rx == .skipping && decide (Config.lineGapBits < s.line.quiet)

/-! ### The bit clock (R140, R141) -/

/-- A sample that reads recessive on a line that no station drives; HEAD taken over at an arbitration loss completes from it
(R141, R154). -/
def LineController.quietSample (l : LineController) : LineController :=
  match l.headBits with
  | [] => { l with quiet := l.quiet + 1 }
  | hb =>
    if hb.length < 8 then { l with headBits := hb ++ [true], quiet := l.quiet + 1 }
    else { l with headBits := [], assembly := [byteOfBits hb], quiet := 0 }

/-- One mid-bit sample of a line that no other station drives: the part reads back the bit it is sending, or the line reads
recessive (R140, R141, R153). -/
def LineController.bitTime (l : LineController) : LineController :=
  match l.inFlight with
  | some f =>
    if f.driving then
      { l with
        inFlight := some { f with sent := f.sent + 1 }
        quiet := if f.bit && f.sent % 10 != 9 then l.quiet + 1 else 0 }
    else if f.begun then l
    else l.quietSample
  | none => l.quietSample

/-- Bit-times that a head tick of 50 µs completes, in millionths of a bit. -/
def bitsPerTick (rate : Nat) : Nat := 50 * rate

/-- A bit-time begins within the head tick, half-way between two samples (R140). -/
def LineController.bitBegins (l : LineController) (rate : Nat) : Bool :=
  decide (l.bitAcc < 500000) && decide (500000 ≤ l.bitAcc + bitsPerTick rate)

/-- The line's bit clock over one head tick: a sample falls each whole bit-time. A wait's W is tested again at a sample
(R152). -/
def LineController.tick (l : LineController) (rate : Nat) : LineController :=
  let acc := l.bitAcc + bitsPerTick rate
  if 1000000 ≤ acc then { { l with bitAcc := acc - 1000000 }.bitTime with waitTest := true }
  else { l with bitAcc := acc, waitTest := false }

/-- One head tick of the line. As a bit-time begins, a frame asked for before begins with its start bit (R152, R153). -/
def lineTick (rate : Nat) (s : State) : State :=
  let t := s.setLine fun l => l.tick rate
  match s.line.inFlight with
  | some f => if s.line.bitBegins rate && !f.begun then startBit f.cls t else t
  | none => t

end Sys2Proof.Machine
end

