-- ==== Sys2Proof/Machine/Start.lean ====
section
/-! DEFINITION. Cold reset (R204), the start of service at commit and warm restart (R203, R205), and each block's part
in it (R17, R36, R61, R85, R102, R118, R136, R139, R159, R175, R183). -/

namespace Sys2Proof.Machine

/-! ### Cold reset (R204) -/

/-- A frame being sent at a cold reset is cut off after the byte in progress (R204): the bytes before it, and it. -/
def Sending.cut (x : Sending) : Sending := ⟨x.bytes.take (x.progress / 10000000 + 1), false, x.progress⟩

/-- A cold reset: every block in its cold-reset state, the clock at 0, the straps read from their pins. The inputs keep
their levels, and the transmitter ends the byte in progress. -/
def coldStart (s : State) : State :=
  { State.reset with
    lrate := s.pins.lrate, hrate := s.pins.hrate, pins := s.pins, free := s.free, pending := s.pending,
    host := { State.reset.host with tx := s.host.tx.map Sending.cut } }

/-! ### Each block's start -/

/-- The Host Port's queue and pending set are emptied before any block starts (R203, R205). -/
def startHost (s : State) : State :=
  s.setHost fun h => { h with hnq := [], pendingKinds := [], warmPending := false }

/-- The Report Scheduler takes its cleared state before the other blocks start (R175). -/
def startReports (s : State) : State := s.setReports fun _ => ReportScheduler.cold

/-- The Line Controller starts afresh with its configuration (R159). -/
def LineController.started (l : LineController) : LineController :=
  { l.waitsToBase with
    link := .down, firstBeacon := none, lastBeacon := none, rx := .skipping, assembly := [], headBits := [], quiet := 0,
    wait := none, waitTest := false, inFlight := none }

/-- The LINK record of the start; no LINK notice is queued (R159). -/
def startLine (old : Option LinkState) (s : State) : State :=
  emit [.log .link 0 (linkData old .down .start)] (s.setLine LineController.started)

/-- The table emptied without record or notice, the latch set, the mode FAILED with its START record (R139). -/
def startFaults (s : State) : State :=
  let old := s.faults.mode
  emit [.log .mode 0 [codeOrFF (old.map Mode.code), byte Mode.failed.code, 1, byte ModeCause.start.code], .statusDue]
    (s.setFaults fun _ => { table := Vector.replicate 32 FaultSlot.empty, latch := true, mode := some .failed })

/-- A point in service starts from its heads as they are found (R17). -/
def Point.started (x : Point) (now : Time) (a b : Bool) : Point :=
  if x.track.isSome then
    { x.discard with
      inService := true, winA := Window.fill a, winB := Window.fill b, accA := a, accB := b,
      seq := if a || b then .skew else .idle, leave := if a || b then now else x.leave, headFault := false,
      quiet := none, lastCount := now, quietMark := false }
  else { x with inService := false }

def startPoints (s : State) : State :=
  { s with points := remake s.points fun p x => x.started s.now s.pins.heads[p].fst s.pins.heads[p].snd }

/-- The sections in use start DISTURBED, each with a SECTION record and a raise, in number order (R36). -/
def startSections (s : State) : State :=
  applyEffects
    ((allSections.filter fun i => s.sections[i].inUse).map fun i =>
      ⟨i, s.sections[i], ⟨s.sections[i].disturb, some .start⟩⟩) none s

/-- The approach table is emptied, nothing is recorded (R61). -/
def startSlots (s : State) : State := { s with slots := remake s.slots fun _ k => { k with record := none } }

/-- A lamp channel's runtime state afresh (R102). Every enabled channel counts as lit until the red start command that
follows, so that every channel it leaves dark begins a dark period. -/
def Lamp.started (l : Lamp) : Lamp :=
  { l with lit := l.enabled, failed := false, bad := 0, good := 0, stuckOn := false, darkRun := 0, current := none,
           litDue := none, darkDue := none }

/-- The lamps afresh, and the red start command (R85, R102). -/
def startLamps (s : State) : State :=
  lampCommand .redStart
    (s.setLamps fun d =>
      { d with lamps := remake d.lamps fun _ l => l.started, gen := none, startUp := none, test := none })

/-- The Sequencer enters CLOSED with its START record; no STATE notice of its own (R85). -/
def startSequencer (s : State) : State :=
  let old := s.seq.state
  emit [.log .seqState 0 (seqData old (some .closed) .start 0 false none), .statusDue]
    (s.setSeq fun q =>
      { q with state := some .closed, entry := s.now, exitMark := none, closureStart := s.now, counted := false,
               longBin := false, longFlag := false, holdSignaller := false, holdLocal := false })

/-- A configured barrier starts afresh from its contacts (R118). -/
def Barrier.started (b : Barrier) (now : Time) (up down : Bool) : Barrier :=
  let b := { b with up := Filter.full up, down := Filter.full down, dropped := none, lostDown := none, settled := none,
                    disturbed := false, detail := 0 }
  if up && down then b.toFault now detailContacts
  else if down then (b.enter .down).still
  else b.lowerFrom now

/-- The raise and the count of a barrier found with both contacts made (R114, R118). -/
def startBarrierFault (b : Fin 4) (s : State) : State :=
  if s.barriers[b].state = some .fault then
    emit [.count cntBarrierFaults] (raise .barrierFail b.val detailContacts s)
  else s

def startBarriers (s : State) : State :=
  allBarriers.foldl (fun s b => startBarrierFault b s)
    { s with barriers := remake s.barriers fun b x =>
        if x.configured then x.started s.now s.pins.contacts[b].fst s.pins.contacts[b].snd else x }

/-- The supply inputs' filters are filled, and an input found low raises its fault (R136). -/
def startSupply (s : State) : State :=
  let s := s.setSupply fun _ => ⟨Filter.full s.pins.mains, Filter.full s.pins.batt⟩
  let s := if s.pins.mains then s else raise .supplyMains 0 0 s
  if s.pins.batt then s else raise .supplyBattery 0 0 s

/-! ### The start of service -/

/-- The start of service, taken whole in one step (R203). `oldLink` is the link state the LINK record names: none at
commit. The order of the blocks is the model's where the manual gives none (log entry 7). -/
def startService (oldLink : Option LinkState) (s : State) : State :=
  emit [.stateNotice]
    (startSupply (startBarriers (startSections (startSlots (startPoints (startSequencer (startLamps (startFaults
      (startLine oldLink (startReports (startHost s)))))))))))

/-- COMMIT takes the part from CONFIG to RUN with the configured layout (R176, R202, R203). -/
def commitStart (s : State) : State :=
  startService none ({ s with part := .run }.setMemory fun m => { m with layout := m.configured })

/-- The level flag's test once the START records have been written (R183). -/
def levelTest (s : State) : State :=
  if s.memory.armed && decide (3 * s.memory.layout.log ≤ s.memory.log.length) then
    queueNotice (levelNotice s.memory) (s.setMemory fun m => { m with armed := false })
  else s

/-- A warm restart takes effect: everything configured, recorded and counted is kept (R205), the level flag is armed
again and tested after the START records (R183). -/
def warmStart (s : State) : State :=
  levelTest (startService (some s.line.link) (s.setMemory fun m => { m with armed := true }))

end Sys2Proof.Machine
end

