-- ==== Sys2Proof/Machine/Commit.lean ====
section
/-! DEFINITION. The ten checks of COMMIT (R202), each giving the lowest index at fault. A point whose track is set is
the point that commit would place in service (R1). -/

namespace Sys2Proof.Machine

/-- An index a check can report, and whether it is at fault. -/
abbrev Finding := Nat × Bool

/-- The first index at fault; each check lists its findings lowest index first. -/
def firstFault (l : List Finding) : Option Nat := (l.find? fun x => x.2).map fun x => x.1

def bothTracks : List Track := [.one, .two]

/-- The points of a track. -/
def State.pointsOf (s : State) (t : Track) : List (Fin 12) := allPoints.filter fun p => s.points[p].track == some t

/-- A track with points is a configured track. -/
def State.hasPoints (s : State) (t : Track) : Bool := !(s.pointsOf t).isEmpty

def State.posOf (s : State) (p : Fin 12) : Int := s.points[p].position

/-- Two points of a list share a position. -/
def State.samePlace (s : State) (l : List (Fin 12)) : Bool :=
  l.any fun p => l.any fun q => p != q && s.posOf p == s.posOf q

/-- Check 1: some point has a track; each track with a point has 2 to 6, no two at one position. -/
def check1 (s : State) : Option Nat :=
  firstFault
    ((0, bothTracks.all fun t => !s.hasPoints t) ::
      bothTracks.map fun t =>
        (t.code, s.hasPoints t &&
          (decide ((s.pointsOf t).length < 2 ∨ 6 < (s.pointsOf t).length) || s.samePlace (s.pointsOf t))))

/-- The island sections of a track. -/
def State.islandsOf (s : State) (t : Track) : List (Fin 10) :=
  allSections.filter fun i => s.sections[i].track == some t && s.sections[i].role == .island

/-- A section's A-end point lies at a negative position and its B-end point at a positive one (R21). -/
def State.straddles (s : State) (i : Fin 10) : Bool :=
  decide (s.posOf s.sections[i].aEnd < 0 ∧ 0 < s.posOf s.sections[i].bEnd)

/-- A section is at fault under check 2: an island of a track with points that is not its track's only one, or does not
straddle the road (log entry 14). -/
def State.islandAtFault (s : State) (i : Fin 10) : Bool :=
  match s.sections[i].track with
  | none => false
  | some t =>
    s.hasPoints t && s.sections[i].role == .island && (decide (1 < (s.islandsOf t).length) || !s.straddles i)

/-- Check 2: each track with points has exactly one ISLAND, which straddles the road (R21). -/
def check2 (s : State) : Option Nat :=
  firstFault
    ((allSections.map fun i => (i.val, s.islandAtFault i)) ++
      bothTracks.map fun t => (128 + t.code, s.hasPoints t && (s.islandsOf t).isEmpty))

/-- A point of a track lies strictly between two others. -/
def State.between (s : State) (t : Track) (p q : Fin 12) : Bool :=
  (s.pointsOf t).any fun r => decide (s.posOf p < s.posOf r ∧ s.posOf r < s.posOf q)

/-- Two points are consecutive on a track, the first at the lower position (R21). -/
def State.consecutive (s : State) (t : Track) (p q : Fin 12) : Bool :=
  s.points[p].track == some t && s.points[q].track == some t && decide (s.posOf p < s.posOf q) && !s.between t p q

/-- A section of a track joins a pair of its points, the first at its A end. -/
def State.joins (s : State) (t : Track) (i : Fin 10) (p q : Fin 12) : Bool :=
  s.sections[i].track == some t && s.sections[i].aEnd == p && s.sections[i].bEnd == q

/-- Another section in use has the same two end points, whatever its track and whichever end is which (R21). -/
def State.pairTaken (s : State) (i : Fin 10) : Bool :=
  allSections.any fun j =>
    j != i && s.sections[j].inUse &&
      ((s.sections[j].aEnd == s.sections[i].aEnd && s.sections[j].bEnd == s.sections[i].bEnd) ||
        (s.sections[j].aEnd == s.sections[i].bEnd && s.sections[j].bEnd == s.sections[i].aEnd))

/-- A section is at fault under check 3 (R21, log entry 14). -/
def State.sectionAtFault (s : State) (i : Fin 10) : Bool :=
  match s.sections[i].track with
  | none => false
  | some t =>
    !s.consecutive t s.sections[i].aEnd s.sections[i].bEnd || s.pairTaken i

/-- A consecutive pair of a track that no section joins. -/
def State.unjoined (s : State) (t : Track) : Bool :=
  allPoints.any fun p => allPoints.any fun q => s.consecutive t p q && !(allSections.any fun i => s.joins t i p q)

/-- Check 3: the sections in use and the consecutive pairs of points fit one another (R21). -/
def check3 (s : State) : Option Nat :=
  firstFault
    ((allSections.map fun i => (i.val, s.sectionAtFault i)) ++
      bothTracks.map fun t => (128 + t.code, s.unjoined t))

/-- Check 4: v_floor ≤ v_line for each slot of each track with points (R40). -/
def check4 (s : State) : Option Nat :=
  firstFault (allSlots.map fun k => (k.val, s.hasPoints (slotTrack k) && decide (s.slots[k].vLine < s.slots[k].vFloor)))

/-- Check 5: RWT leaves time for the ambers, the reds and the slowest entry barrier (R41). -/
def check5 (s : State) : Option Nat :=
  firstFault
    [(0, decide (s.rwt < s.seq.tAmber + s.seq.tPrelower + s.largestOf Barrier.isEntry fun b => b.lower.total))]

/-- Check 6: the parts make the period; t_settle is less than min(L, R) - 50 (R88). -/
def check6 (s : State) : Option Nat :=
  let f := s.lamps.flash
  firstFault [(0, f.lOn + f.g1 + f.rOn + f.g2 != f.period), (1, decide (min f.lOn f.rOn ≤ f.settle + 50))]

/-- Some channel of a list is enabled. -/
def State.anyEnabled (s : State) (cs : List (Fin 10)) : Bool := cs.any fun c => s.lamps.lamps[c].enabled

/-- A road side needs reds: it has an enabled red channel or a configured barrier (R87). -/
def State.needsReds (s : State) (x : Side) : Bool :=
  s.anyEnabled (leftOf x ++ rightOf x) || allBarriers.any fun b => s.barriers[b].configured && s.barriers[b].side == x

/-- Check 7: such a side has at least one enabled L channel and one enabled R channel (R87). -/
def check7 (s : State) : Option Nat :=
  firstFault
    ([Side.a, Side.b].map fun x =>
      (x.code, s.needsReds x && !(s.anyEnabled (leftOf x) && s.anyEnabled (rightOf x))))

/-- The relation of one motion's three limits (R103). -/
def MotionLimits.fits (m : MotionLimits) : Bool := decide (max m.leave m.travel ≤ m.total ∧ m.total ≤ m.leave + m.travel)

/-- Check 8: each configured barrier's motions, and t_exit_delay against the exit barriers (R63, R103). -/
def check8 (s : State) : Option Nat :=
  firstFault
    ((allBarriers.map fun b =>
        (b.val, s.barriers[b].configured && !(s.barriers[b].lower.fits && s.barriers[b].raise.fits))) ++
      [(4, (s.seq.tExitDelay == 0) == s.hasExit)])

/-- Check 9: the own address is set, 1-47 (R142). -/
def check9 (s : State) : Option Nat :=
  firstFault
    [(0, match s.line.own with
      | some a => decide (a.toNat < 1 ∨ 47 < a.toNat)
      | none => true)]

/-- Check 10: the memory layout (R176). -/
def check10 (s : State) : Option Nat :=
  let m := s.memory.configured
  firstFault
    [(0, decide (m.log < 8)), (1, decide (m.passage < 4)), (2, decide (m.hnq < 4)),
     (3, decide (128 < m.log + m.passage + m.hnq))]

/-- The checks in the order of R202. -/
def commitChecks : List (Nat × (State → Option Nat)) :=
  [(1, check1), (2, check2), (3, check3), (4, check4), (5, check5), (6, check6), (7, check7), (8, check8), (9, check9),
   (10, check10)]

/-- The first check that fails, with its index. -/
def firstFailure (s : State) : List (Nat × (State → Option Nat)) → Option (Nat × Nat)
  | [] => none
  | (n, f) :: rest =>
    match f s with
    | some i => some (n, i)
    | none => firstFailure s rest

/-- COMMIT's test of the configuration as it stands (R202). -/
def commitFailure (s : State) : Option (Nat × Nat) := firstFailure s commitChecks

end Sys2Proof.Machine
end

