-- ==== Sys2Proof/Machine/Operands.lean ====
section
/-! DEFINITION. Host requests as they arrive (ch. 11.4, 12.2): their KINDs, the length each payload must have (R195
step 4), the part states each is allowed in (step 5), and the range tests and effects of the configuration requests
(R1, R2, R20, R40, R41, R63, R87, R88, R103, R142, R176, R207). -/

namespace Sys2Proof.Machine

/-! ### KINDs -/

/-- The requests of section 11.4. -/
inductive Request where
  | identify
  | readTime
  | configPoint
  | configSection
  | configTrack
  | configTiming
  | configFlash
  | configLamp
  | configBarrier
  | configLink
  | configMemory
  | commit
  | restart
  | readState
  | readSections
  | readRecords
  | readFaults
  | readCounters
  | readLog
  | readPassage
  | localHold
  | lampTest
  | restore
  | faultAck
  | release
  deriving DecidableEq, Repr

/-- KIND codes (ch. 12.2). -/
def Request.code : Request → Byte
  | .identify => 0x01
  | .readTime => 0x02
  | .configPoint => 0x10
  | .configSection => 0x11
  | .configTrack => 0x12
  | .configTiming => 0x13
  | .configFlash => 0x14
  | .configLamp => 0x15
  | .configBarrier => 0x16
  | .configLink => 0x17
  | .configMemory => 0x18
  | .commit => 0x1E
  | .restart => 0x1F
  | .readState => 0x20
  | .readSections => 0x21
  | .readRecords => 0x22
  | .readFaults => 0x23
  | .readCounters => 0x24
  | .readLog => 0x25
  | .readPassage => 0x26
  | .localHold => 0x30
  | .lampTest => 0x31
  | .restore => 0x32
  | .faultAck => 0x33
  | .release => 0x34

def allRequests : List Request :=
  [.identify, .readTime, .configPoint, .configSection, .configTrack, .configTiming, .configFlash, .configLamp,
   .configBarrier, .configLink, .configMemory, .commit, .restart, .readState, .readSections, .readRecords, .readFaults,
   .readCounters, .readLog, .readPassage, .localHold, .lampTest, .restore, .faultAck, .release]

/-- The request a KIND names, if any (R195 step 3). -/
def Request.ofCode (kind : Byte) : Option Request := allRequests.find? fun r => r.code == kind

/-- The payload's length fits the KIND (R195 step 4, ch. 12.2). -/
def Request.lengthOk (r : Request) (payload : List Byte) : Bool :=
  match r with
  | .identify | .readTime | .commit | .readState | .readSections | .readRecords | .lampTest | .release =>
    payload.length == 0
  | .restart | .readFaults | .readLog | .readPassage | .localHold => payload.length == 1
  | .restore => payload.length == 2
  | .configMemory | .readCounters => payload.length == 3
  | .configSection => payload.length == 5
  | .configPoint | .configLamp => payload.length == 8
  | .configLink => payload.length == 11
  | .configTrack | .configFlash => payload.length == 12
  | .configBarrier => payload.length == 16
  | .configTiming => payload.length == 18
  | .faultAck => countFits payload

/-- The part states a request is allowed in (11.4). RESTART is allowed by its mode, which is tested first. -/
def Request.allowedIn (r : Request) (p : Part) : Bool :=
  match r with
  | .identify | .readTime | .restart => true
  | .configPoint | .configSection | .configTrack | .configTiming | .configFlash | .configLamp | .configBarrier
  | .configLink | .configMemory | .commit => p == .config
  | .readState | .readSections | .readRecords | .readFaults | .readCounters | .readLog | .readPassage | .localHold
  | .lampTest | .restore | .faultAck | .release => p == .run

/-! ### Fields (R207) -/

/-- A number within a range, inclusive at both ends. -/
def within (lo hi n : Nat) : Bool := decide (lo ≤ n ∧ n ≤ hi)

/-- An index into a table of n entries. -/
def fieldIndex (n : Nat) (b : Byte) : Option (Fin n) := if h : b.toNat < n then some ⟨b.toNat, h⟩ else none

def fieldFlag (b : Byte) : Option Bool :=
  match b.toNat with
  | 0 => some false
  | 1 => some true
  | _ => none

def fieldTrack (b : Byte) : Option Track :=
  match b.toNat with
  | 1 => some .one
  | 2 => some .two
  | _ => none

/-- A track or not used. -/
def fieldTrackOrNone (b : Byte) : Option (Option Track) := if b = 0 then some none else (fieldTrack b).map some

def fieldDir (b : Byte) : Option Dir := (fieldFlag b).map fun v => if v then .bToA else .aToB
def fieldSide (b : Byte) : Option Side := (fieldFlag b).map fun v => if v then .b else .a
def fieldSectionRole (b : Byte) : Option SectionRole := (fieldFlag b).map fun v => if v then .island else .approach
def fieldBarrierRole (b : Byte) : Option BarrierRole := (fieldFlag b).map fun v => if v then .exit else .entry

/-- A group entry: 0 unused, or a group address 48-62 (R142). -/
def fieldGroup (b : Byte) : Option (Option (BitVec 6)) :=
  if b = 0 then some none
  else if within 48 62 b.toNat then some (some (BitVec.ofNat 6 b.toNat))
  else none

/-! ### Configuration requests: none is OUT_OF_RANGE, and nothing changes -/

/-- CONFIG_POINT (R1). -/
def setPointConfig (payload : List Byte) (s : State) : Option State :=
  match payload with
  | [p, t, x3, x2, x1, x0, s1, s0] =>
    let pos := signed32 (rd32 x3 x2 x1 x0)
    let sp := rd16 s1 s0
    match fieldIndex 12 p, fieldTrackOrNone t with
    | some p, some t =>
      if decide (-5000000 ≤ pos ∧ pos ≤ 5000000) && within 200 2500 sp then
        some (s.setPoint p fun x => { x with track := t, position := pos, spacing := sp })
      else none
    | _, _ => none
  | _ => none

/-- CONFIG_SECTION (R20). -/
def setSectionConfig (payload : List Byte) (s : State) : Option State :=
  match payload with
  | [i, t, a, b, r] =>
    match fieldIndex 10 i, fieldTrackOrNone t, fieldIndex 12 a, fieldIndex 12 b, fieldSectionRole r with
    | some i, some t, some a, some b, some r =>
      some (s.setSect i fun x => { x with track := t, aEnd := a, bEnd := b, role := r })
    | _, _, _, _, _ => none
  | _ => none

/-- CONFIG_TRACK (R40). -/
def setTrackConfig (payload : List Byte) (s : State) : Option State :=
  match payload with
  | [t, d, l3, l2, l1, l0, f3, f2, f1, f0, a1, a0] =>
    let line := rd32 l3 l2 l1 l0
    let floor := rd32 f3 f2 f1 f0
    let acc := rd16 a1 a0
    match fieldTrack t, fieldDir d with
    | some t, some d =>
      if within 2000 70000 line && within 500 70000 floor && within 0 1500 acc then
        some (s.setSlot (slotOf t d) fun x => { x with vLine := line, vFloor := floor, accel := acc })
      else none
    | _, _ => none
  | _ => none

/-- CONFIG_TIMING (R2, R41, R63). -/
def setTimingConfig (payload : List Byte) (s : State) : Option State :=
  match payload with
  | [k1, k0, w3, w2, w1, w0, a1, a0, p1, p0, e1, e0, o1, o0, l3, l2, l1, l0] =>
    let stuck := rd16 k1 k0
    let rwt := rd32 w3 w2 w1 w0
    let amber := rd16 a1 a0
    let prelower := rd16 p1 p0
    let exitDelay := rd16 e1 e0
    let minOpen := rd16 o1 o0
    let long := rd32 l3 l2 l1 l0
    if within 2000 30000 stuck && within 15000 90000 rwt && within 2000 6000 amber && within 2000 10000 prelower &&
        (exitDelay == 0 || within 2000 15000 exitDelay) && within 0 30000 minOpen && within 60000 900000 long then
      some ({ s with tStuck := stuck, rwt := rwt }.setSeq fun q =>
        { q with tAmber := amber, tPrelower := prelower, tExitDelay := exitDelay, tMinOpen := minOpen, tLong := long })
    else none
  | _ => none

/-- CONFIG_FLASH (R88). -/
def setFlashConfig (payload : List Byte) (s : State) : Option State :=
  match payload with
  | [p1, p0, l1, l0, g1, g0, r1, r0, h1, h0, t1, t0] =>
    let f : FlashConfig :=
      { period := rd16 p1 p0, lOn := rd16 l1 l0, g1 := rd16 g1 g0, rOn := rd16 r1 r0, g2 := rd16 h1 h0, settle := rd16 t1 t0 }
    if within 800 1500 f.period && within 250 1500 f.lOn && within 0 100 f.g1 && within 250 1500 f.rOn &&
        within 0 100 f.g2 && within 20 150 f.settle then
      some (s.setLamps fun d => { d with flash := f })
    else none
  | _ => none

/-- CONFIG_LAMP (R87). -/
def setLampConfig (payload : List Byte) (s : State) : Option State :=
  match payload with
  | [c, e, a1, a0, b1, b0, o1, o0] =>
    let iMin := rd16 a1 a0
    let iMax := rd16 b1 b0
    let iOff := rd16 o1 o0
    match fieldIndex 10 c, fieldFlag e with
    | some c, some e =>
      if within 50 3000 iMin && within 50 3000 iMax && within 10 200 iOff && decide (iMin < iMax) then
        some (s.setLamp c fun l => { l with enabled := e, iMin := iMin, iMax := iMax, iOff := iOff })
      else none
    | _, _ => none
  | _ => none

/-- The three limits of a motion, each within its range (6.1). -/
def fieldLimits (a1 a0 b1 b0 c1 c0 : Byte) : Option MotionLimits :=
  let m : MotionLimits := ⟨rd16 a1 a0, rd16 b1 b0, rd16 c1 c0⟩
  if within 200 3000 m.leave && within 2000 15000 m.travel && within 3000 18000 m.total then some m else none

/-- CONFIG_BARRIER (R103). -/
def setBarrierConfig (payload : List Byte) (s : State) : Option State :=
  match payload with
  | [c, g, r, x, a1, a0, b1, b0, c1, c0, d1, d0, e1, e0, f1, f0] =>
    match fieldIndex 4 c, fieldFlag g, fieldBarrierRole r, fieldSide x, fieldLimits a1 a0 b1 b0 c1 c0,
        fieldLimits d1 d0 e1 e0 f1 f0 with
    | some c, some g, some r, some x, some lo, some hi =>
      some (s.setBarrier c fun b => { b with configured := g, role := r, side := x, lower := lo, raise := hi })
    | _, _, _, _, _, _ => none
  | _ => none

/-- CONFIG_LINK (R142). -/
def setLinkConfig (payload : List Byte) (s : State) : Option State :=
  match payload with
  | [o, g0, g1, g2, g3, b1, b0, h1, h0, r1, r0] =>
    let beacon := rd16 b1 b0
    let health := rd16 h1 h0
    let rep := rd16 r1 r0
    match fieldGroup g0, fieldGroup g1, fieldGroup g2, fieldGroup g3 with
    | some g0, some g1, some g2, some g3 =>
      if within 1 47 o.toNat && within 1000 10000 beacon && within 10 300 health && within 10 600 rep then
        some (s.setLine fun l =>
          { l with own := some (BitVec.ofNat 6 o.toNat), groups := #v[g0, g1, g2, g3], beaconMs := beacon,
                   tHealth := health, tRepeat := rep })
      else none
    | _, _, _, _ => none
  | _ => none

/-- CONFIG_MEMORY (R176). -/
def setMemoryConfig (payload : List Byte) (s : State) : Option State :=
  match payload with
  | [l, p, h] =>
    if within 0 128 l.toNat && within 0 128 p.toNat && within 0 128 h.toNat then
      some (s.setMemory fun m => { m with configured := ⟨l.toNat, p.toNat, h.toNat⟩ })
    else none
  | _ => none

end Sys2Proof.Machine
end

