-- ==== Sys2Proof/Machine/Replies.lean ====
section
/-! DEFINITION. What the reads return (ch. 12.2): IDENTIFY, READ_TIME (R197), READ_STATE (R18, R83, R101, R119, R157,
R174), READ_SECTIONS (R37), READ_RECORDS (R62), READ_FAULTS (R138), READ_COUNTERS (R189), READ_LOG (R181), READ_PASSAGE
(R185). Each gives the bytes after the result byte. A bit that the tables neither name nor mark zero is 0 (log entry 25). -/

namespace Sys2Proof.Machine

/-- IDENTIFY (R197). -/
def State.identifyReply (s : State) : List Byte :=
  be16 Config.partCode ++
    [byte Config.deviceRevision, byte (s.lrate.toNat + 4 * s.hrate.toNat), byte s.part.code]

/-- READ_TIME (R197). -/
def State.timeReply (s : State) : List Byte := timeBytes s.now ++ [byte s.part.code]

/-! ### READ_STATE -/

/-- Bytes 1 to 15: the Sequencer, the mode and the latch (R83). -/
def State.sequencerBytes (s : State) : List Byte :=
  [codeOrFF (s.seq.state.map SeqState.code), codeOrFF (s.faults.mode.map Mode.code),
   byte (packBits [s.faults.latch, s.seq.holdSignaller, s.seq.holdLocal, s.seq.longFlag, s.seq.exitMark.isSome])] ++
  timeBytes s.seq.entry ++ timeBytes s.seq.closureStart ++ timeOrZero s.seq.exitMark

/-- The two bytes of a point channel (R18). -/
def Point.bytes (x : Point) : List Byte :=
  [byte (packBits [false, false, false, false, x.headFault, x.accB, x.accA, x.inService]), byte x.seq.code]

/-- The five bytes of a lamp channel (R101). -/
def Lamp.bytes (l : Lamp) : List Byte :=
  [byte (packBits [l.enabled, l.lit, l.failed, l.stuckOn]), byte l.bad, byte l.good] ++ be16 (l.current.getD 65535)

/-- Bytes 40 to 92: the flash generator, the lamp test, the dark sides and the lamp channels (R101). -/
def LampDriver.bytes (d : LampDriver) : List Byte :=
  [byte (match d.gen with
    | some g => 128 + g.part.code
    | none => 0),
   byte (match d.test with
    | some t => 128 + t.channel.val
    | none => 0),
   byte (packBits [d.sideDark .a, d.sideDark .b])] ++
  (allLamps.map fun c => d.lamps[c].bytes).flatten

/-- Milliseconds since a time, 0 when it is absent. -/
def sinceOrZero (now : Time) (t : Option Time) : Nat := (t.map fun t => elapsed now t).getD 0

/-- The twelve bytes of a barrier channel; one not configured has its state and phase absent and zero elsewhere
(R119). -/
def Barrier.bytes (b : Barrier) (now : Time) : List Byte :=
  if b.configured then
    [byte (packBits [true, b.role == .exit, b.side == .b, b.holdOut, b.raiseOut, b.up.accepted, b.down.accepted,
       b.disturbed]),
     codeOrFF (b.state.map BarrierState.code), codeOrFF (b.phase.map MotionPhase.code), byte b.detail] ++
    be32 (sinceOrZero now b.motionStart) ++ be32 (sinceOrZero now b.phaseStart)
  else [0, 0xFF, 0xFF, 0] ++ List.replicate 8 0

/-- The time of READ_STATE bytes 142 to 145 (R157), which show the milliseconds since it modulo 2^32 (log entry 27). -/
def LineController.supervised (l : LineController) : Option Time :=
  match l.link with
  | .sync => l.firstBeacon
  | .active => l.lastBeacon
  | _ => none

/-- The KIND of the frame in flight, FFh when there is none. -/
def LineController.flightKind (l : LineController) : Byte :=
  match l.inFlight with
  | some f => f.kind
  | none => 0xFF

/-- Bytes 141 to 157: the Line Controller (R157). -/
def LineController.bytes (l : LineController) (now : Time) : List Byte :=
  [byte l.link.code] ++ be32 (sinceOrZero now l.supervised) ++
  [byte l.rx.code,
   byte (match l.wait with
    | some c => 128 + c.code
    | none => 0),
   byte (match l.inFlight with
    | some f => 128 + f.cls.code
    | none => 0),
   l.flightKind,
   byte (packBits [l.raisedAlarm, l.raisedState, l.raisedRoutine]),
   byte ((l.own.map BitVec.toNat).getD 0)] ++
  (l.groups.toList.map fun g => byte ((g.map BitVec.toNat).getD 0)) ++ be16 l.beaconMs

/-- Milliseconds remaining to a moment, FFFFFFFFh when it is absent. -/
def remaining (now : Time) (t : Option Time) : Nat :=
  match t with
  | some t => if atOrBefore t now then 0 else elapsed t now
  | none => 4294967295

/-- The number of fault entries the frame in flight carries (R174). -/
def LineController.entries (l : LineController) : Nat :=
  match l.inFlight with
  | some f => if f.kind = kindFaultReport then f.payload.length / 8 else 0
  | none => 0

/-- Bytes 158 to 169: the Report Scheduler (R174). -/
def State.reportBytes (s : State) : List Byte :=
  (match s.reports.confirm with
    | some c => [c.kind, byte c.result.code]
    | none => [0xFF, 0xFF]) ++
  [byte (packBits [s.reports.stateMark, s.reports.healthMark])] ++ be32 (remaining s.now s.reports.healthTimer) ++
  ([FaultClass.severe, .minor, .notice].map fun c => byte (s.faults.dueSlots fun k => k == c).length) ++
  [s.line.flightKind, byte s.line.entries]

/-- READ_STATE, bytes 1 to 169. -/
def State.stateReply (s : State) : List Byte :=
  s.sequencerBytes ++ (allPoints.map fun p => s.points[p].bytes).flatten ++ s.lamps.bytes ++
    (allBarriers.map fun b => s.barriers[b].bytes s.now).flatten ++ s.line.bytes s.now ++ s.reportBytes

/-! ### READ_SECTIONS -/

/-- The eight bytes of a section entry (R37). -/
def Sect.bytes (c : Sect) : List Byte :=
  if c.inUse then
    [byte (trackCode c.track), byte c.aEnd.val, byte c.bEnd.val, byte c.role.code,
     codeOrFF (c.state.map SectionState.code)] ++ be16 c.count ++ [byte (flag c.sweep)]
  else [0, 0, 0, 0, 0xFF, 0, 0, 0]

def State.sectionsReply (s : State) : List Byte := (allSections.map fun i => s.sections[i].bytes).flatten

/-! ### READ_RECORDS -/

/-- The block of a record, 25 + 8k bytes (R62). -/
def TrainRecord.bytes (r : TrainRecord) : List Byte :=
  [byte (r.phase.code + 16 * (r.commitCause.map CommitCause.code).getD 7),
   byte (packBits [r.committed, r.shortWarning, r.commitTime.isSome, r.arrivalA.isSome, r.warningS.isSome,
     r.arrived.isSome, r.longMark])] ++
  timeBytes r.created ++ timeOrZero r.commitTime ++ timeOrZero r.arrivalA ++ timeOrZero r.warningS ++
  timeOrZero r.arrived ++ be16 r.axlesIn ++ [byte r.predictions.length] ++
  (r.predictions.map Prediction.bytes).flatten

/-- A slot's block: an empty slot is its byte 0 alone (R62). -/
def Slot.bytes (k : Slot) : List Byte :=
  match k.record with
  | some r => r.bytes
  | none => [0]

def State.recordsReply (s : State) : List Byte := (allSlots.map fun k => s.slots[k].bytes).flatten

/-! ### READ_FAULTS -/

/-- The twenty-one bytes of a record (R138). -/
def FaultRecord.bytes (r : FaultRecord) (slot : Nat) : List Byte :=
  [byte slot, byte r.kind.code, byte r.object, byte r.cls.code, byte r.state.code, byte r.detail, byte r.count] ++
  timeBytes r.first ++ timeBytes r.last ++
  [codeOrFF (r.lastReported.map FaultState.code), byte (flag r.lastReport.isSome)] ++ timeOrZero r.lastReport

/-- The occupied slots from a slot upward, with their records. -/
def FaultManager.occupiedFrom (f : FaultManager) (first : Nat) : List (Nat × FaultRecord) :=
  (allFaultSlots.filter fun i => decide (first ≤ i.val)).filterMap fun i => f.table[i].record.map fun r => (i.val, r)

/-- The slot after the last one returned, FFh when no occupied slot follows (R138). -/
def nextSlot (all returned : List (Nat × FaultRecord)) : Byte :=
  match returned.getLast? with
  | some x => if returned.length < all.length then byte (x.1 + 1) else 0xFF
  | none => 0xFF

/-- READ_FAULTS (R138). -/
def State.faultsReply (s : State) (first : Nat) : List Byte :=
  let all := s.faults.occupiedFrom first
  let ret := all.take 10
  [codeOrFF (s.faults.mode.map Mode.code), byte (flag s.faults.latch)] ++ s.activeCounts ++ [byte ret.length] ++
    (ret.map fun x => x.2.bytes x.1).flatten ++ [nextSlot all ret]

/-! ### READ_COUNTERS -/

/-- A counter's value and flags byte (R189). -/
def Counter.bytes (c : Counter) : List Byte := be32 c.value ++ [byte (packBits [c.half, c.full])]

/-- The indices a request names. -/
def inNamed (first count : Nat) (i : Fin 32) : Bool := decide (first ≤ i.val ∧ i.val < first + count)

/-- The counters named, as they stand (R189). -/
def State.countersReply (s : State) (first count : Nat) : List Byte :=
  ((allFaultSlots.filter (inNamed first count)).map fun i => s.counters[i].bytes).flatten

/-- The counters named are set to 0 with their flags clear (R189). -/
def clearCounters (first count : Nat) (s : State) : State :=
  { s with counters := remake s.counters fun i c => if inNamed first count i then ⟨0, false, false⟩ else c }

/-! ### READ_LOG and READ_PASSAGE -/

/-- READ_LOG's reply (R181). -/
def State.logReply (s : State) (n : Nat) : List Byte :=
  let m := s.memory
  [byte (m.log.take n).length] ++ be16 (m.log.drop n).length ++ be16 m.nextSeq.toNat ++
    ((m.log.take n).map LogRecord.bytes).flatten

/-- The records returned are removed; a removal that leaves fewer than 2 × L arms the level flag again (R181, R182). -/
def RecordMemory.dropLog (m : RecordMemory) (n : Nat) : RecordMemory :=
  { m with log := m.log.drop n, armed := m.armed || decide ((m.log.drop n).length < 2 * m.layout.log) }

/-- READ_PASSAGE's reply: each record preceded by its length in 8-byte steps (R185). -/
def State.passageReply (s : State) (n : Nat) : List Byte :=
  let m := s.memory
  [byte (m.passages.take n).length] ++ be16 (m.passages.drop n).length ++ be16 m.nextPassage.toNat ++
    ((m.passages.take n).map fun p => byte p.steps :: p.bytes).flatten

/-- The passage records returned are removed (R185). -/
def RecordMemory.dropPassages (m : RecordMemory) (n : Nat) : RecordMemory := { m with passages := m.passages.drop n }

end Sys2Proof.Machine
end

