-- ==== Sys2Proof/Machine/HostPort.lean ====
section
/-! DEFINITION. The Host Port (ch. 11): requests and their tests (R195, R198), the byte-level receiver (R192, R193), the
overrun (R194), the transmitter and its arbiter (R191, R196), the release of the pending set (R200), the restarts
(R204, R205). -/

namespace Sys2Proof.Machine

/-! ### Serving a request (R195 step 6) -/

/-- What a request comes to: the reply's payload (none for RESTART COLD, which receives no reply), whether the reply
is the OK of a RESTART WARM, and the state after it. -/
structure Served where
  payload : Option (List Byte)
  warm : Bool
  state : State
  deriving DecidableEq, Repr

/-- A reply: its result byte and what follows. -/
def answer (r : Result) (extra : List Byte) (s : State) : Served := ⟨some (byte r.code :: extra), false, s⟩

/-- A configuration request: OK, or OUT_OF_RANGE with nothing changed. -/
def configured (new : Option State) (s : State) : Served :=
  match new with
  | some s' => answer .ok [] s'
  | none => answer .outOfRange [] s

/-- The HOST_CMD record (R198, ch. 12.5). -/
def hostLog (q : Request) (r : Result) (items : List Byte) (s : State) : State :=
  emit [.log .hostCmd 0 ([q.code, byte r.code] ++ items)] s

/-- A run-time action: its effect, its HOST_CMD record, its reply. -/
def acted (q : Request) (items : List Byte) (x : Result × State) : Served :=
  answer x.1 [] (hostLog q x.1 items (react x.2))

/-- LAMP_TEST (R98). -/
def lampTestRequest (s : State) : Result × State :=
  if s.lamps.test.isSome then (.busy, s)
  else if s.seq.state = some .roadOpen ∧ allSlots.all (fun k => s.slots[k].record.isNone) then (.ok, startTest s)
  else (.wrongState, s)

/-- A host RESTORE: DIRECT is refused by the Host Port and does not reach the Section Counter (11.4, R31). -/
def hostRestoreRequest (n m : Nat) (s : State) : Result × State :=
  if restoreMode m = some .direct then (.outOfRange, s) else restore n m s

/-- FAULT_ACK and RELEASE are taken only while the link is not ACTIVE (R135). -/
def whileLinkDown (f : State → Result × State) (s : State) : Result × State :=
  if s.line.link = .active then (.wrongState, s) else f s

/-- A pair in a HOST_CMD record: kind in bits 7-4, object in bits 3-0 (ch. 12.5); a pair that does not fit is a free
byte (log entry 6). -/
def packPair (free : Nat) (x : AckPair) : Byte :=
  if x.1 < 16 ∧ x.2 < 16 then byte (16 * x.1 + x.2) else Config.freeByte free

/-- The pairs of a FAULT_ACK that its HOST_CMD record gives: up to the first three (R198). -/
def loggedPairs (payload : List Byte) : List AckPair := (pairsOf (payload.drop 1)).take 3

/-- The items of a FAULT_ACK's record: the count, then the pairs. -/
def ackItems (free : Nat) (payload : List Byte) : List Byte :=
  byte (byteAt payload 0) :: ((loggedPairs payload).zipIdx.map fun x => packPair (free + x.2) x.1)

/-- The free values the record of a FAULT_ACK has taken. -/
def ackTaken (payload : List Byte) (s : State) : State :=
  if (loggedPairs payload).all fun x => decide (x.1 < 16 ∧ x.2 < 16) then s else { s with free := s.free + 3 }

/-- RESTART COLD takes effect at once and receives no reply (R204). -/
def restartColdNow (s : State) : Served := ⟨none, false, coldStart s⟩

/-- RESTART WARM, accepted: its record, OK, and a warm restart pending (R198, R205). -/
def restartWarmAccept (s : State) : Served :=
  ⟨some [byte Result.ok.code], true,
    (hostLog .restart .ok [byte 1] s).setHost fun h => { h with warmPending := true }⟩

/-- RESTART: the mode is tested before the state (11.4). A record is written when the request is taken in RUN, none for
COLD (R198, log entry 17). -/
def restartRequest (mode : Nat) (s : State) : Served :=
  match mode with
  | 0 => restartColdNow s
  | 1 => if s.part = .run then restartWarmAccept s else answer .wrongState [] s
  | _ => answer .outOfRange [] (hostLog .restart .outOfRange [byte mode] s)

/-- COMMIT (R202, R203). -/
def commitRequest (s : State) : Served :=
  match commitFailure s with
  | some x => answer .invalidConfig [byte x.1, byte x.2] s
  | none => answer .ok [] (commitStart s)

/-- READ_FAULTS (R138). -/
def readFaultsRequest (first : Nat) (s : State) : Served :=
  if first ≤ 31 then answer .ok (s.faultsReply first) s else answer .outOfRange [] s

/-- READ_COUNTERS, with or without clear (R189). -/
def readCountersRequest (first count clear : Nat) (s : State) : Served :=
  if first ≤ 31 ∧ 1 ≤ count ∧ count ≤ 32 ∧ first + count ≤ 32 ∧ clear ≤ 1 then
    answer .ok (s.countersReply first count) (if clear = 1 then clearCounters first count s else s)
  else answer .outOfRange [] s

/-- READ_LOG (R181). -/
def readLogRequest (n : Nat) (s : State) : Served :=
  if 1 ≤ n ∧ n ≤ 12 then answer .ok (s.logReply n) (s.setMemory fun m => m.dropLog n) else answer .outOfRange [] s

/-- READ_PASSAGE (R185). -/
def readPassageRequest (n : Nat) (s : State) : Served :=
  if 1 ≤ n ∧ n ≤ 3 then answer .ok (s.passageReply n) (s.setMemory fun m => m.dropPassages n)
  else answer .outOfRange [] s

/-- A request that has passed steps 1 to 5. -/
def serve (q : Request) (payload : List Byte) (s : State) : Served :=
  match q with
  | .identify => answer .ok s.identifyReply s
  | .readTime => answer .ok s.timeReply s
  | .configPoint => configured (setPointConfig payload s) s
  | .configSection => configured (setSectionConfig payload s) s
  | .configTrack => configured (setTrackConfig payload s) s
  | .configTiming => configured (setTimingConfig payload s) s
  | .configFlash => configured (setFlashConfig payload s) s
  | .configLamp => configured (setLampConfig payload s) s
  | .configBarrier => configured (setBarrierConfig payload s) s
  | .configLink => configured (setLinkConfig payload s) s
  | .configMemory => configured (setMemoryConfig payload s) s
  | .commit => commitRequest s
  | .restart => restartRequest (byteAt payload 0) s
  | .readState => answer .ok s.stateReply s
  | .readSections => answer .ok s.sectionsReply s
  | .readRecords => answer .ok s.recordsReply s
  | .readFaults => readFaultsRequest (byteAt payload 0) s
  | .readCounters => readCountersRequest (byteAt payload 0) (byteAt payload 1) (byteAt payload 2) s
  | .readLog => readLogRequest (byteAt payload 0) s
  | .readPassage => readPassageRequest (byteAt payload 0) s
  | .localHold => acted .localHold [byte (byteAt payload 0)] (hold false (byteAt payload 0) s)
  | .lampTest => acted .lampTest [] (lampTestRequest s)
  | .restore =>
    acted .restore [byte (byteAt payload 0), byte (byteAt payload 1)]
      (hostRestoreRequest (byteAt payload 0) (byteAt payload 1) s)
  | .faultAck =>
    acted .faultAck (ackItems s.free payload)
      (whileLinkDown (acknowledge .host (ackTarget payload)) (ackTaken payload s))
  | .release => acted .release [] (whileLinkDown release s)

/-! ### Taking a request (R195) -/

/-- The tests of steps 3 to 5, and step 6. -/
def testRequest (kind : Byte) (payload : List Byte) (s : State) : Served :=
  match Request.ofCode kind with
  | none => answer .unknownKind [] s
  | some q =>
    if !q.lengthOk payload then answer .badLength [] s
    else if !q.allowedIn s.part then answer .wrongState [] s
    else serve q payload s

/-- The reply is placed in the reply buffer: KIND plus 80h, the TAG, the result first (R195). -/
def placeReply (kind tag : Byte) (x : Served) : State :=
  match x.payload with
  | none => x.state
  | some p => x.state.setHost fun h => { h with reply := some ⟨kind + 0x80, tag, p, x.warm⟩ }

/-- A reply waits that has not begun transmission (R195 step 1). -/
def HostPort.replyWaits (h : HostPort) : Bool := h.reply.isSome || !h.collided.isEmpty

/-- The collided list holds its 8 entries (R194). -/
def HostPort.listFull (h : HostPort) : Bool := decide (Config.collidedMax ≤ h.collided.length)

/-- An entry joins the collided list (R195). -/
def joinCollided (kind tag : Byte) (r : Result) (s : State) : State :=
  s.setHost fun h => { h with collided := h.collided ++ [⟨kind, tag, r⟩] }

/-- A host frame is discarded: HOST_FRAMES_BAD (R192, R194). -/
def hostBad (s : State) : State := emit [.count cntHostBad] s

/-- A frame whose CRC matches: the overrun (R194), then the tests of R195 in order. -/
def takeRequest (kind tag : Byte) (payload : List Byte) (s : State) : State :=
  if s.host.replyWaits then
    if s.host.listFull then hostBad s else joinCollided kind tag .collided s
  else if s.host.warmPending then joinCollided kind tag .busy s
  else placeReply kind tag (testRequest kind payload s)

/-- A frame that arrives whole; a payload of more than 248 bytes makes no frame (R191). The receiver is in HUNT once
it is taken (log entry 19). -/
def takeFrame (kind tag : Byte) (payload : List Byte) (s : State) : State :=
  if payload.length ≤ 248 then
    takeRequest kind tag payload (s.setHost fun h => { h with assembly := [], rxLast := s.now })
  else s

/-! ### The byte-level receiver (R192, R193) -/

/-- A host frame: START, LEN, KIND, TAG, payload, CRC over LEN through the payload (R191, R206). -/
def hostFrame (kind tag : Byte) (payload : List Byte) : List Byte :=
  let body := [byte (payload.length + 2), kind, tag] ++ payload
  [0x5A] ++ body ++ crcBytes body

/-- What the receiver finds in a run of bytes: a frame discarded, or a good frame. -/
inductive HostEvent where
  | bad
  | frame (kind tag : Byte) (payload : List Byte)
  deriving DecidableEq, Repr

/-- A complete frame's check: the bytes after START, of which the last two are the CRC (R192). -/
def checkHost (frame : List Byte) : HostEvent :=
  match frame.drop 1 with
  | len :: kind :: tag :: rest =>
    let body := len :: kind :: tag :: rest.take (len.toNat - 2)
    if crcBytes body = rest.drop (len.toNat - 2) then .frame kind tag (rest.take (len.toNat - 2)) else .bad
  | _ => .bad

/-- The receiver over a run of bytes, from HUNT: the events in order, and the assembly left. After a check failure or a
LEN out of range the bytes after the discarded START are scanned again (R193). Each unit of fuel spends one byte. -/
def scanHost : Nat → List Byte → List HostEvent × List Byte
  | 0, _ => ([], [])
  | _ + 1, [] => ([], [])
  | n + 1, b :: rest =>
    if b ≠ 0x5A then scanHost n rest
    else match rest with
      | [] => ([], [b])
      | len :: _ =>
        if len.toNat < 2 ∨ 250 < len.toNat then
          let x := scanHost n rest
          (.bad :: x.1, x.2)
        else if rest.length < len.toNat + 3 then ([], b :: rest)
        else match checkHost ((b :: rest).take (len.toNat + 4)) with
          | .bad =>
            let x := scanHost n rest
            (.bad :: x.1, x.2)
          | .frame k t p =>
            let x := scanHost n (rest.drop (len.toNat + 3))
            (.frame k t p :: x.1, x.2)

/-- An event of the receiver takes effect. -/
def hostEvent (s : State) : HostEvent → State
  | .bad => hostBad s
  | .frame k t p => takeRequest k t p s

/-- Bytes arrive with good stop bits: they join the assembly and are scanned (R192, R193). The latest byte's time is that of
the clock after them, which a RESTART COLD among them has set to 0. The bytes after such a frame are scanned on, those that
a discarded frame left for its rescan too (log entry 19). -/
def receiveBytes (bytes : List Byte) (s : State) : State :=
  let all := s.host.assembly ++ bytes
  let x := scanHost all.length all
  let t := x.1.foldl hostEvent s
  t.setHost fun h => { h with assembly := x.2, rxLast := t.now }

/-- The assembly is dropped and the frame counted as bad, when one is being assembled (R192). -/
def dropAssembly (s : State) : State :=
  if s.host.assembly = [] then s else hostBad (s.setHost fun h => { h with assembly := [] })

/-- The gap test of R192 on the bytes the model has seen arrive. -/
def State.hostGapDue (s : State) : Bool :=
  !s.host.assembly.isEmpty && decide (Config.hostGapMs < elapsed s.now s.host.rxLast)

/-! ### The transmitter (R191, R196, R200) -/

/-- Something waits for the transmitter. -/
def HostPort.waiting (h : HostPort) : Bool := h.replyWaits || !h.hnq.isEmpty

/-- The three things that start a frame hold together (R191). -/
def State.txStartDue (s : State) : Bool := s.host.tx.isNone && s.pins.hostReady && s.host.waiting

/-- RESYNC's byte: bit n - 60h for each pending kind n (ch. 12.2). -/
def resyncByte (ks : List NoticeKind) : Byte :=
  byte (packBits ([.state, .fault, .link, .counter, .logLevel, .passage, .lampTestDone, .resync].map fun k =>
    decide (k ∈ ks)))

/-- After a departure, the pending set is released when the free bytes have reached half the partition (R200). -/
def resyncTest (s : State) : State :=
  if s.host.pendingKinds ≠ [] ∧ 32 * s.memory.layout.hnq ≤ s.hnqFree then
    s.setHost fun h =>
      { h with hnq := h.hnq ++ [⟨.resync, [resyncByte h.pendingKinds]⟩], pendingKinds := [] }
  else s

/-- The transmitter begins a frame. -/
def sendFrame (kind tag : Byte) (payload : List Byte) (warm : Bool) (s : State) : State :=
  s.setHost fun h => { h with tx := some ⟨hostFrame kind tag payload, warm, 0⟩ }

/-- The arbiter of R196: the reply buffer, then the head of the collided list, then the oldest notice. The item leaves
its source at the START byte. -/
def startTx (s : State) : State :=
  match s.host.reply with
  | some r => sendFrame r.kind r.tag r.payload r.warm (s.setHost fun h => { h with reply := none })
  | none =>
    match s.host.collided with
    | e :: es =>
      sendFrame (e.kind + 0x80) e.tag [byte e.result.code] false (s.setHost fun h => { h with collided := es })
    | [] =>
      match s.host.hnq with
      | n :: ns =>
        resyncTest (sendFrame (byte n.kind.code) 0 n.payload false (s.setHost fun h => { h with hnq := ns }))
      | [] => s

/-- Millionths of a bit in a frame: ten bits a byte (R191, log entry 11). -/
def Sending.total (x : Sending) : Nat := 10000000 * x.bytes.length

/-- The frame being sent has gone to its last stop bit. -/
def State.txDoneDue (s : State) : Bool :=
  match s.host.tx with
  | some x => decide (x.total ≤ x.progress)
  | none => false

/-- The transmitter is free; the completion of a RESTART WARM's reply, which is accepted in RUN alone, makes the restart
take effect (R205). -/
def endTx (s : State) : State :=
  match s.host.tx with
  | none => s
  | some x =>
    let s := s.setHost fun h => { h with tx := none }
    if x.warm ∧ s.part = .run then warmStart s else s

/-- The transmitter over one head tick. -/
def HostPort.tick (h : HostPort) (rate : Nat) : HostPort :=
  { h with tx := h.tx.map fun x => { x with progress := x.progress + bitsPerTick rate } }

end Sys2Proof.Machine
end

