-- ==== Sys2Proof/Machine/HostCommands.lean ====
section
/-! DEFINITION. The commands of the resets and of the host port: one meaning for each row from COLD_RESET to
HOST_TX_DONE (ch. 11). A host request is taken by R195 whatever its KIND; its row fixes the KIND. -/

namespace Sys2Proof.Machine

/-- What every meaning answers with. -/
abbrev Out := Host.Outcome State Fault Refusal

/-- COLD_RESET: power-up or the RESET input; the straps are read from their pins (R204). -/
def execColdReset (lrate hrate : BitVec 2) (s : State) : Out :=
  .next (coldStart (s.setPins fun i => { i with lrate := lrate, hrate := hrate }))

/-- HOST_READY: the input changes (R191). -/
def execHostReady (ready : Bool) (s : State) : Out := .next (s.setPins fun i => { i with hostReady := ready })

/-- HOST_FRAME_DISCARDED: bytes arrive and are scanned; with a framing error at the end, the assembly is dropped with
the faulty byte (R192, R193). -/
def execHostFrameDiscarded (bytes : List Byte) (framingError : Bool) (s : State) : Out :=
  .next (if framingError then dropAssembly (receiveBytes bytes s) else receiveBytes bytes s)

/-- HOST_GAP: bytes arrive, then more than 20 ms pass while a frame is being assembled (R192). -/
def execHostGap (bytes : List Byte) (s : State) : Out := .next (dropAssembly (receiveBytes bytes s))

/-- HOST_OVERRUN: a good frame while a reply waits and the collided list holds 8 entries (R194). -/
def execHostOverrun (kind tag : Byte) (payload : List Byte) (s : State) : Out :=
  .next (if s.host.replyWaits && s.host.listFull then takeFrame kind tag payload s else s)

/-- HOST_UNKNOWN_KIND (R195). -/
def execHostUnknownKind (kind tag : Byte) (payload : List Byte) (s : State) : Out := .next (takeFrame kind tag payload s)

/-- IDENTIFY (R197). -/
def execIdentify (tag : Byte) (payload : List Byte) (s : State) : Out := .next (takeFrame 0x01 tag payload s)

/-- READ_TIME (R197). -/
def execReadTime (tag : Byte) (payload : List Byte) (s : State) : Out := .next (takeFrame 0x02 tag payload s)

/-- CONFIG_POINT (R1). -/
def execConfigPoint (tag : Byte) (payload : List Byte) (s : State) : Out := .next (takeFrame 0x10 tag payload s)

/-- CONFIG_SECTION (R20). -/
def execConfigSection (tag : Byte) (payload : List Byte) (s : State) : Out := .next (takeFrame 0x11 tag payload s)

/-- CONFIG_TRACK (R40). -/
def execConfigTrack (tag : Byte) (payload : List Byte) (s : State) : Out := .next (takeFrame 0x12 tag payload s)

/-- CONFIG_TIMING (R2, R41, R63). -/
def execConfigTiming (tag : Byte) (payload : List Byte) (s : State) : Out := .next (takeFrame 0x13 tag payload s)

/-- CONFIG_FLASH (R88). -/
def execConfigFlash (tag : Byte) (payload : List Byte) (s : State) : Out := .next (takeFrame 0x14 tag payload s)

/-- CONFIG_LAMP (R87). -/
def execConfigLamp (tag : Byte) (payload : List Byte) (s : State) : Out := .next (takeFrame 0x15 tag payload s)

/-- CONFIG_BARRIER (R103). -/
def execConfigBarrier (tag : Byte) (payload : List Byte) (s : State) : Out := .next (takeFrame 0x16 tag payload s)

/-- CONFIG_LINK (R142). -/
def execConfigLink (tag : Byte) (payload : List Byte) (s : State) : Out := .next (takeFrame 0x17 tag payload s)

/-- CONFIG_MEMORY (R176). -/
def execConfigMemory (tag : Byte) (payload : List Byte) (s : State) : Out := .next (takeFrame 0x18 tag payload s)

/-- COMMIT (R202, R203). -/
def execCommit (tag : Byte) (payload : List Byte) (s : State) : Out := .next (takeFrame 0x1E tag payload s)

/-- RESTART with mode COLD (R204); its payload byte gives the mode. -/
def execRestartCold (tag : Byte) (payload : List Byte) (s : State) : Out := .next (takeFrame 0x1F tag payload s)

/-- RESTART with mode WARM (R205); its payload byte gives the mode. -/
def execRestartWarm (tag : Byte) (payload : List Byte) (s : State) : Out := .next (takeFrame 0x1F tag payload s)

/-- READ_STATE (R18, R83, R101, R119, R157, R174). -/
def execReadState (tag : Byte) (payload : List Byte) (s : State) : Out := .next (takeFrame 0x20 tag payload s)

/-- READ_SECTIONS (R37). -/
def execReadSections (tag : Byte) (payload : List Byte) (s : State) : Out := .next (takeFrame 0x21 tag payload s)

/-- READ_RECORDS (R62). -/
def execReadRecords (tag : Byte) (payload : List Byte) (s : State) : Out := .next (takeFrame 0x22 tag payload s)

/-- READ_FAULTS (R138). -/
def execReadFaults (tag : Byte) (payload : List Byte) (s : State) : Out := .next (takeFrame 0x23 tag payload s)

/-- READ_COUNTERS (R189). -/
def execReadCounters (tag : Byte) (payload : List Byte) (s : State) : Out := .next (takeFrame 0x24 tag payload s)

/-- READ_LOG (R181). -/
def execReadLog (tag : Byte) (payload : List Byte) (s : State) : Out := .next (takeFrame 0x25 tag payload s)

/-- READ_PASSAGE (R185). -/
def execReadPassage (tag : Byte) (payload : List Byte) (s : State) : Out := .next (takeFrame 0x26 tag payload s)

/-- LOCAL_HOLD (R79). -/
def execLocalHold (tag : Byte) (payload : List Byte) (s : State) : Out := .next (takeFrame 0x30 tag payload s)

/-- LAMP_TEST (R98). -/
def execLampTest (tag : Byte) (payload : List Byte) (s : State) : Out := .next (takeFrame 0x31 tag payload s)

/-- The host's RESTORE (R31). -/
def execHostRestore (tag : Byte) (payload : List Byte) (s : State) : Out := .next (takeFrame 0x32 tag payload s)

/-- FAULT_ACK (R129, R135). -/
def execFaultAck (tag : Byte) (payload : List Byte) (s : State) : Out := .next (takeFrame 0x33 tag payload s)

/-- The host's RELEASE (R134, R135). -/
def execHostRelease (tag : Byte) (payload : List Byte) (s : State) : Out := .next (takeFrame 0x34 tag payload s)

/-- HOST_TX_START (R191, R196). -/
def execHostTxStart (s : State) : Out := .next (if s.txStartDue then startTx s else s)

/-- HOST_TX_DONE (R191, R205). -/
def execHostTxDone (s : State) : Out := .next (if s.txDoneDue then endTx s else s)

end Sys2Proof.Machine
end

