-- ==== Sys2Proof/Machine/PointCommands.lean ====
section
/-! DEFINITION. The commands of the detection points (ch. 1) and of the Approach Predictor's timers (ch. 3). -/

namespace Sys2Proof.Machine

/-- HEAD_CHANGE: the windows of a point's heads after a head tick's samples (R3, R4). In CONFIG, and for a point out of
service, only the inputs change (R1, R16). -/
def execHeadChange (p : Fin 12) (winA winB : Window) (s : State) : Out :=
  let s := setHeads p winA.s4 winB.s4 s
  .next (if s.sampled p then react (headTick p winA winB s) else s)

/-- STUCK_TIMEOUT (R14). -/
def execStuckTimeout (p : Fin 12) (s : State) : Out :=
  .next (if s.stuckDue p then react (pointTick p false false true s) else s)

/-- QUIET_PERIOD_END (R15). -/
def execQuietPeriodEnd (p : Fin 12) (s : State) : Out := .next (if s.quietEndDue p then react (endQuiet p s) else s)

/-- QUIET_MARK (R9). -/
def execQuietMark (p : Fin 12) (s : State) : Out :=
  .next (if s.quietMarkDue p then s.setPoint p fun x => { x with quietMark := true } else s)

/-- The start timer's setting, S (R52). -/
def State.timerS (s : State) (k : Fin 4) : Time := ((s.slots[k].record.bind TrainRecord.startTimer).getD s.now)

/-- START_TIMER_EXPIRY (R52): the commit time is S. -/
def execStartTimerExpiry (k : Fin 4) (s : State) : Out :=
  .next (if s.startTimerDue k then react (commitRecord k .timer (s.timerS k) false s) else s)

/-- LONG_WARNING_MARK (R60). -/
def execLongWarningMark (k : Fin 4) (s : State) : Out :=
  .next (if s.longWarningDue k then
    s.setSlot k fun x => { x with record := x.record.map fun r => { r with longMark := true } } else s)

end Sys2Proof.Machine
end

