-- ==== Sys2Proof/Machine/CrossingCommands.lean ====
section
/-! DEFINITION. The commands of the Crossing Sequencer's timers (ch. 4) and of the supply inputs (R136). -/

namespace Sys2Proof.Machine

/-- OPEN_MARK (R66). -/
def execOpenMark (s : State) : Out :=
  .next (if s.openMarkDue then s.setSeq fun q => { q with openMark := true } else s)

/-- T_AMBER_EXPIRY: to RED_WAIT with red start (R67). -/
def execTAmberExpiry (s : State) : Out :=
  .next (if s.tAmberDue then react (lampCommand .redStart (seqMove .redWait .timer s)) else s)

/-- T_PRELOWER_EXPIRY: to LOWER_ENTRY, releasing the entry barriers (R68). -/
def execTPrelowerExpiry (s : State) : Out := .next (if s.tPrelowerDue then react (enterLowerEntry s) else s)

/-- EXIT_DELAY_MARK (R69). -/
def execExitDelayMark (s : State) : Out := .next (if s.exitDelayDue then react (testLowerEntry s) else s)

/-- LONG_CLOSURE_TIMER (R80). -/
def execLongClosureTimer (s : State) : Out :=
  .next (if s.longClosureDue then react (raise .longClosure 0 0 (s.setSeq fun q => { q with longFlag := true })) else s)

/-- LONG_BIN_MARK (R81). -/
def execLongBinMark (s : State) : Out :=
  .next (if s.longBinDue then s.setSeq fun q => { q with longBin := true } else s)

/-- The level of a supply input. -/
def setSupplyPin (input : SupplyInput) (ok : Bool) (s : State) : State :=
  s.setPins fun i =>
    match input with
    | .mains => { i with mains := ok }
    | .batt => { i with batt := ok }

/-- The filter of a supply input. -/
def Supply.filter (x : Supply) : SupplyInput → Filter
  | .mains => x.mains
  | .batt => x.batt

def Supply.setFilter (x : Supply) (input : SupplyInput) (f : Filter) : Supply :=
  match input with
  | .mains => { x with mains := f }
  | .batt => { x with batt := f }

/-- The fault of a supply input (R136). -/
def supplyFault : SupplyInput → FaultKind
  | .mains => .supplyMains
  | .batt => .supplyBattery

/-- A supply input's value is accepted: low raises its fault, high reports the end (R136). -/
def acceptSupply (input : SupplyInput) (ok : Bool) (s : State) : State :=
  let f := s.supply.filter input
  let s := s.setSupply fun x => x.setFilter input (f.accept ok)
  if f.accepted = ok then s
  else if ok then endCondition (supplyFault input) 0 s
  else raise (supplyFault input) 0 0 s

/-- SUPPLY_INPUT_CHANGE (R136); in CONFIG the inputs are not sampled. -/
def execSupplyInputChange (input : SupplyInput) (ok : Bool) (s : State) : Out :=
  let s := setSupplyPin input ok s
  .next (if s.part = .run then react (acceptSupply input ok s) else s)

end Sys2Proof.Machine
end

