-- ==== Sys2Proof/Machine/LampCommands.lean ====
section
/-! DEFINITION. The commands of the road lights (ch. 5). -/

namespace Sys2Proof.Machine

/-- The current presented for a channel (R86). -/
def setCurrent (c : Fin 10) (mA : Nat) (s : State) : State :=
  s.setPins fun i => { i with current := i.current.set c mA }

/-- FLASH_PART_END (R89). -/
def execFlashPartEnd (s : State) : Out := .next (if s.flashPartDue then nextFlashPart s else s)

/-- LIT_PROOF (R91, R92). -/
def execLitProof (c : Fin 10) (mA : Nat) (s : State) : Out :=
  let s := setCurrent c mA s
  .next (if s.litProofDue c then react (litSample c (reading mA) s) else s)

/-- DARK_SAMPLE (R94, R95). -/
def execDarkSample (c : Fin 10) (mA : Nat) (s : State) : Out :=
  let s := setCurrent c mA s
  .next (if s.darkSampleDue c then react (darkSampleTaken c (reading mA) s) else s)

/-- START_UP_FLASH_HALF (R97). -/
def execStartUpFlashHalf (s : State) : Out := .next (if s.startUpDue then nextStartUpHalf s else s)

/-- LAMP_TEST_SAMPLE (R99). -/
def execLampTestSample (mA : Nat) (s : State) : Out :=
  .next (if s.testSampleDue then testSample (reading mA) s else s)

/-- LAMP_TEST_CHANNEL_END (R99, R100). -/
def execLampTestChannelEnd (s : State) : Out := .next (if s.testChannelDue then testChannelEnd s else s)

end Sys2Proof.Machine
end

