-- ==== Sys2Proof/Machine/BarrierCommands.lean ====
section
/-! DEFINITION. The commands of the barriers (ch. 6). -/

namespace Sys2Proof.Machine

/-- The channel's contacts are sampled: configured, in RUN (R103, R105, R117). -/
def State.contactsSampled (s : State) (b : Fin 4) : Bool := s.part == .run && s.barriers[b].configured

/-- The contact inputs of a barrier after a change. At a channel that is sampled an input whose value is the one accepted
already is not what changed, and keeps its level (log entry 22); at any other both take the levels given. -/
def setContacts (b : Fin 4) (up down : Bool) (s : State) : State :=
  let x := s.barriers[b]
  s.setPins fun i =>
    let c := i.contacts[b]
    let new : InputPair :=
      { fst := if s.contactsSampled b ∧ up = x.up.accepted then c.fst else up,
        snd := if s.contactsSampled b ∧ down = x.down.accepted then c.snd else down }
    { i with contacts := i.contacts.set b new }

/-- The barrier after judging keeps out of FAULT: a BARRIER_DISTURBED whose flag is cleared ends (R116), and a change of
state reaches the Sequencer. -/
def keepBarrier (b : Fin 4) (x : Barrier) (s : State) : State :=
  let old := s.barriers[b]
  let s := s.setBarrier b fun _ => x
  let s := if old.disturbed && !x.disturbed then endCondition .barrierDisturbed b.val s else s
  if old.state = x.state then s else barrierChanged s

/-- The pair as accepted is judged (R105, R107, R110, R112, R113, R115, R116). -/
def judgeBarrier (b : Fin 4) (s : State) : State :=
  match s.barriers[b].judge s.now with
  | .keep x => keepBarrier b x s
  | .contactsFault => barrierFault b detailContacts s

/-- Both contacts of a barrier accepted in one step (R105). -/
def acceptContacts (b : Fin 4) (up down : Bool) (s : State) : State :=
  judgeBarrier b (s.setBarrier b fun x => { x with up := x.up.accept up, down := x.down.accept down })

/-- BARRIER_CONTACT_CHANGE (R105, R107, R110, R112); in CONFIG, and for a channel not configured, only the inputs
change (R103, R117). One that repeats both accepted values is judged as a change is (log entry 23). -/
def execBarrierContactChange (b : Fin 4) (up down : Bool) (s : State) : Out :=
  let s := setContacts b up down s
  .next (if s.contactsSampled b then react (acceptContacts b up down s) else s)

/-- The limit of a barrier's motion that has passed in RUN (R108, R110). -/
def State.limitDue (s : State) (b : Fin 4) : Option Nat :=
  if s.part = .run then s.barriers[b].limitPassed s.now else none

/-- A limit of a barrier's motion passes: its pair is judged (R107, R110), and a barrier that a passed limit binds still goes to
FAULT (R108). -/
def takeLimit (b : Fin 4) (s : State) : State :=
  match s.barriers[b].limitStands s.now with
  | some d => barrierFault b d s
  | none => judgeBarrier b s

/-- BARRIER_LIMIT (R107, R108, R110). -/
def execBarrierLimit (b : Fin 4) (s : State) : Out :=
  .next (if (s.limitDue b).isSome then react (takeLimit b s) else s)

/-- BARRIER_DROPPED (R113). -/
def execBarrierDropped (b : Fin 4) (s : State) : Out :=
  .next (if s.part == .run && s.barriers[b].droppedDue s.now then react (barrierFault b detailDropped s) else s)

/-- A settled barrier goes to DOWN and the end of BARRIER_FAIL is reported (R115). -/
def settleBarrier (b : Fin 4) (s : State) : State :=
  barrierChanged
    (endCondition .barrierFail b.val (s.setBarrier b fun x => { x.enter .down with settled := none }))

/-- BARRIER_SETTLED (R115). -/
def execBarrierSettled (b : Fin 4) (s : State) : Out :=
  .next (if s.part == .run && s.barriers[b].settledDue s.now then react (settleBarrier b s) else s)

/-- BARRIER_LOST_DOWN (R116). -/
def execBarrierLostDown (b : Fin 4) (s : State) : Out :=
  .next (if s.part == .run && s.barriers[b].lostDownDue s.now then
    react (raise .barrierDisturbed b.val 0 (s.setBarrier b fun x => { x with disturbed := true })) else s)

end Sys2Proof.Machine
end

