-- ==== Sys2Proof/Machine/LineCommands.lean ====
section
/-! DEFINITION. The commands of the signaller line (ch. 8) and of the Report Scheduler (ch. 9). A frame received whole is
taken by R143 to R146 and R160 whatever its KIND; its row fixes the KIND. -/

namespace Sys2Proof.Machine

/-- BEACON (R146 to R148). -/
def execBeacon (h : LineHead) (payload : List Byte) (s : State) : Out := .next (receiveFrame h kindBeacon payload s)

/-- BEACON_TIMEOUT (R148). -/
def execBeaconTimeout (s : State) : Out := .next (if s.beaconTimeoutDue then react (loseLink s) else s)

/-- POLL (R161). -/
def execPoll (h : LineHead) (payload : List Byte) (s : State) : Out := .next (receiveFrame h kindPoll payload s)

/-- The signaller's ACK (R162). -/
def execSigAck (h : LineHead) (payload : List Byte) (s : State) : Out := .next (receiveFrame h kindAck payload s)

/-- The signaller's RESTORE (R162). -/
def execSigRestore (h : LineHead) (payload : List Byte) (s : State) : Out := .next (receiveFrame h kindRestore payload s)

/-- The signaller's HOLD (R78, R162). -/
def execSigHold (h : LineHead) (payload : List Byte) (s : State) : Out := .next (receiveFrame h kindHold payload s)

/-- The signaller's RELEASE (R162). -/
def execSigRelease (h : LineHead) (payload : List Byte) (s : State) : Out := .next (receiveFrame h kindRelease payload s)

/-- A frame of a KIND that is no command (R160). -/
def execSigCmdUnknownKind (h : LineHead) (kind : Byte) (payload : List Byte) (s : State) : Out :=
  .next (receiveFrame h kind payload s)

/-- A frame from a source other than the signal box (R160). -/
def execSigCmdRefusedSource (h : LineHead) (kind : Byte) (payload : List Byte) (s : State) : Out :=
  .next (receiveFrame h kind payload s)

/-- LINE_FRAME_BAD: characters are taken, then perhaps one with its stop bit dominant (R143 to R145). -/
def execLineFrameBad (chars : List Byte) (framingErr : Bool) (s : State) : Out :=
  .next (react (if framingErr then framingError (takeChars chars s) else takeChars chars s))

/-- LINE_GAP_ABORT: characters are taken, then the quiet count exceeds 20 (R143). -/
def execLineGapAbort (chars : List Byte) (s : State) : Out := .next (react (gapAbort (takeChars chars s)))

/-- SKIP_END (R143). -/
def execSkipEnd (s : State) : Out :=
  .next (if s.skipEndDue then lineSettle (s.setLine fun l => { l with rx := .idle }) else s)

/-- FOREIGN_FRAME (R145). -/
def execForeignFrame (h : LineHead) (kind : Byte) (payload : List Byte) (s : State) : Out :=
  .next (receiveFrame h kind payload s)

/-- OWN_ADDRESS_FRAME (R145). -/
def execOwnAddressFrame (h : LineHead) (kind : Byte) (payload : List Byte) (s : State) : Out :=
  .next (receiveFrame h kind payload s)

/-- ACCESS_WAIT_QUIET (R152, R153, R169, R170). -/
def execAccessWaitQuiet (s : State) : Out := .next (if s.waitQuiet then startFrame s else s)

/-- LINE_FRAME_SENT (R155). -/
def execLineFrameSent (s : State) : Out := .next (if s.frameSentDue then frameSent s else s)

/-- ARBITRATION_LOST (R154). -/
def execArbitrationLost (s : State) : Out := .next (if s.canLose then loseArbitration s else s)

/-- COLLISION (R156). -/
def execCollision (s : State) : Out := .next (if s.canCollide then collide s else s)

/-- HEALTH_TIMER_EXPIRY (R165). -/
def execHealthTimerExpiry (s : State) : Out := .next (if s.healthDue then lineSettle (healthExpired s) else s)

/-- REPEAT_INTERVAL (R167). -/
def execRepeatInterval (i : Fin 32) (s : State) : Out :=
  .next (if s.repeatDue i then
    lineSettle (s.setFaults fun f => { f with table := upd f.table i fun x => { x with forced := true } }) else s)

/-- AGED_MARK (R166). -/
def execAgedMark (i : Fin 32) (s : State) : Out :=
  .next (if s.agedDue i then
    s.setFaults fun f => { f with table := upd f.table i fun x => { x with aged := true } } else s)

/-- ADDRESSED_FRAME_LINK_NOT_ACTIVE (R146). -/
def execAddressedFrameLinkNotActive (h : LineHead) (kind : Byte) (payload : List Byte) (s : State) : Out :=
  .next (receiveFrame h kind payload s)

end Sys2Proof.Machine
end

