-- ==== Sys2Proof/Machine/Tick.lean ====
section
/-! DEFINITION. The passage of time while no command waits (log entry 1): one head tick of 50 µs, and the list of the
timed events that are due in an instant. No clock moves while an event is due. -/

namespace Sys2Proof.Machine

/-! ### One head tick -/

/-- The crossing clock, the phase within its millisecond and the 10 ms schedule go on by one head tick (R3, R105). -/
def clockTick (s : State) : State :=
  if s.phase + 1 < Config.ticksPerMs then { s with phase := s.phase + 1 }
  else { s with phase := 0, now := s.now + 1, sample10 := (s.sample10 + 1) % Config.contactSampleMs }

/-- Each head of each in-service point is sampled (R3). -/
def sampleHeads (s : State) : State :=
  { s with points := remake s.points fun p x =>
      if x.inService then
        { x with winA := x.winA.push s.pins.heads[p].fst, winB := x.winB.push s.pins.heads[p].snd }
      else x }

/-- The contacts of the configured barriers and the supply inputs are sampled (R105, R136). -/
def sampleContacts (s : State) : State :=
  { s with
    barriers := remake s.barriers fun b x =>
      if x.configured then
        { x with up := x.up.sample s.pins.contacts[b].fst, down := x.down.sample s.pins.contacts[b].snd }
      else x
    supply := ⟨s.supply.mains.sample s.pins.mains, s.supply.batt.sample s.pins.batt⟩ }

/-- What the head tick brings in RUN: samples, and the line's bit clock. -/
def runTick (s : State) : State :=
  let s := sampleHeads s
  let s := if s.phase = 0 ∧ s.sample10 = 0 then sampleContacts s else s
  lineTick (Config.lineRate s.lrate) s

/-- One head tick in which nothing is due. -/
def tick (s : State) : State :=
  let s := (clockTick s).setHost fun h => h.tick (Config.hostRate s.hrate)
  if s.part = .run then runTick s else s

/-! ### What is due -/

/-- A command, if it is due. -/
def ifDue (due : Bool) (c : Instr) : List Instr := if due then [c] else []

/-- HEAD_CHANGE: the samples show another state than the one accepted (R3). -/
def State.headChangeDue (s : State) (p : Fin 12) : Bool :=
  s.sampled p && (s.points[p].winA.accepted != s.points[p].accA || s.points[p].winB.accepted != s.points[p].accB)

/-- What is due at a point. The heads' acceptance comes first; the timeout and the quiet period are tested after it
(R14, R15). -/
def State.pointDue (s : State) (p : Fin 12) : List Instr :=
  (if s.headChangeDue p then [.headChange p s.points[p].winA s.points[p].winB]
   else ifDue (s.stuckDue p) (.stuckTimeout p) ++ ifDue (s.quietEndDue p) (.quietPeriodEnd p)) ++
  ifDue (s.quietMarkDue p) (.quietMark p)

/-- What is due at a slot of the approach table. -/
def State.slotDue (s : State) (k : Fin 4) : List Instr :=
  ifDue (s.startTimerDue k) (.startTimerExpiry k) ++ ifDue (s.longWarningDue k) (.longWarningMark k)

/-- What is due at the Sequencer. -/
def State.sequencerDue (s : State) : List Instr :=
  ifDue s.openMarkDue .openMark ++ ifDue s.tAmberDue .tAmberExpiry ++ ifDue s.tPrelowerDue .tPrelowerExpiry ++
    ifDue s.exitDelayDue .exitDelayMark ++ ifDue s.longClosureDue .longClosureTimer ++ ifDue s.longBinDue .longBinMark

/-- What is due at a lamp channel, with the current presented for it. -/
def State.lampDue (s : State) (c : Fin 10) : List Instr :=
  ifDue (s.litProofDue c) (.litProof c s.pins.current[c]) ++ ifDue (s.darkSampleDue c) (.darkSample c s.pins.current[c])

/-- The current presented for the channel under test. -/
def State.testCurrent (s : State) : Nat :=
  match s.lamps.test with
  | some t => s.pins.current[t.channel]
  | none => 0

/-- What is due at the Lamp Driver besides its channels' samples. -/
def State.lampsDue (s : State) : List Instr :=
  ifDue s.flashPartDue .flashPartEnd ++ ifDue s.startUpDue .startUpFlashHalf ++
    ifDue s.testSampleDue (.lampTestSample s.testCurrent) ++ ifDue s.testChannelDue .lampTestChannelEnd

/-- The value a filter's samples show. -/
def Filter.shown (f : Filter) : Bool := if f.changed then f.last else f.accepted

/-- What is due at a barrier. -/
def State.barrierDue (s : State) (b : Fin 4) : List Instr :=
  let x := s.barriers[b]
  ifDue (s.part == .run && x.configured && (x.up.changed || x.down.changed))
      (.barrierContactChange b x.up.shown x.down.shown) ++
    ifDue (s.limitDue b).isSome (.barrierLimit b) ++
    ifDue (s.part == .run && x.droppedDue s.now) (.barrierDropped b) ++
    ifDue (s.part == .run && x.settledDue s.now) (.barrierSettled b) ++
    ifDue (s.part == .run && x.lostDownDue s.now) (.barrierLostDown b)

/-- What is due at the supply inputs. -/
def State.supplyDue (s : State) : List Instr :=
  ifDue (s.part == .run && s.supply.mains.changed) (.supplyInputChange .mains s.supply.mains.last) ++
    ifDue (s.part == .run && s.supply.batt.changed) (.supplyInputChange .batt s.supply.batt.last)

/-- What is due at the Line Controller and the Report Scheduler. A wait is tested at each sample and as it begins (R151,
R152). -/
def State.lineDue (s : State) : List Instr :=
  ifDue s.beaconTimeoutDue .beaconTimeout ++ ifDue s.gapAbortDue (.lineGapAbort []) ++ ifDue s.skipEndDue .skipEnd ++
    ifDue (s.line.waitTest && s.waitQuiet) .accessWaitQuiet ++ ifDue s.frameSentDue .lineFrameSent ++ ifDue s.healthDue .healthTimerExpiry

/-- What is due at a slot of the fault table. -/
def State.reportDue (s : State) (i : Fin 32) : List Instr :=
  ifDue (s.repeatDue i) (.repeatInterval i) ++ ifDue (s.agedDue i) (.agedMark i)

/-- What is due at the Host Port. -/
def State.hostDue (s : State) : List Instr :=
  ifDue s.hostGapDue (.hostGap []) ++ ifDue s.txStartDue .hostTxStart ++ ifDue s.txDoneDue .hostTxDone

/-- Every timed event due in this instant. -/
def dueCommands (s : State) : List Instr :=
  allPoints.flatMap s.pointDue ++ allSlots.flatMap s.slotDue ++ s.sequencerDue ++ allLamps.flatMap s.lampDue ++
    s.lampsDue ++ allBarriers.flatMap s.barrierDue ++ s.supplyDue ++ s.lineDue ++ allFaultSlots.flatMap s.reportDue ++
    s.hostDue

/-- Which of several due events is taken: a free pick (log entry 4). -/
def pick (n : Nat) (c : Instr) (cs : List Instr) : Instr := (c :: cs).getD (Config.freePick n % (cs.length + 1)) c

end Sys2Proof.Machine
end

