-- ==== Sys2Proof/Machine/Dispatch.lean ====
section
/-! DEFINITION. The meaning of every command: one arm per constructor of `Instr`, each a direct call of its own
definition. -/

namespace Sys2Proof.Machine

def exec (i : Instr) (s : State) : Host.Outcome State Fault Refusal :=
  match i with
  | .coldReset lrate hrate => Sys2Proof.Machine.execColdReset lrate hrate s
  | .hostReady ready => Sys2Proof.Machine.execHostReady ready s
  | .hostFrameDiscarded bytes framingError => Sys2Proof.Machine.execHostFrameDiscarded bytes framingError s
  | .hostGap bytes => Sys2Proof.Machine.execHostGap bytes s
  | .hostOverrun kind tag payload => Sys2Proof.Machine.execHostOverrun kind tag payload s
  | .hostUnknownKind kind tag payload => Sys2Proof.Machine.execHostUnknownKind kind tag payload s
  | .identify tag payload => Sys2Proof.Machine.execIdentify tag payload s
  | .readTime tag payload => Sys2Proof.Machine.execReadTime tag payload s
  | .configPoint tag payload => Sys2Proof.Machine.execConfigPoint tag payload s
  | .configSection tag payload => Sys2Proof.Machine.execConfigSection tag payload s
  | .configTrack tag payload => Sys2Proof.Machine.execConfigTrack tag payload s
  | .configTiming tag payload => Sys2Proof.Machine.execConfigTiming tag payload s
  | .configFlash tag payload => Sys2Proof.Machine.execConfigFlash tag payload s
  | .configLamp tag payload => Sys2Proof.Machine.execConfigLamp tag payload s
  | .configBarrier tag payload => Sys2Proof.Machine.execConfigBarrier tag payload s
  | .configLink tag payload => Sys2Proof.Machine.execConfigLink tag payload s
  | .configMemory tag payload => Sys2Proof.Machine.execConfigMemory tag payload s
  | .commit tag payload => Sys2Proof.Machine.execCommit tag payload s
  | .restartCold tag payload => Sys2Proof.Machine.execRestartCold tag payload s
  | .restartWarm tag payload => Sys2Proof.Machine.execRestartWarm tag payload s
  | .readState tag payload => Sys2Proof.Machine.execReadState tag payload s
  | .readSections tag payload => Sys2Proof.Machine.execReadSections tag payload s
  | .readRecords tag payload => Sys2Proof.Machine.execReadRecords tag payload s
  | .readFaults tag payload => Sys2Proof.Machine.execReadFaults tag payload s
  | .readCounters tag payload => Sys2Proof.Machine.execReadCounters tag payload s
  | .readLog tag payload => Sys2Proof.Machine.execReadLog tag payload s
  | .readPassage tag payload => Sys2Proof.Machine.execReadPassage tag payload s
  | .localHold tag payload => Sys2Proof.Machine.execLocalHold tag payload s
  | .lampTest tag payload => Sys2Proof.Machine.execLampTest tag payload s
  | .hostRestore tag payload => Sys2Proof.Machine.execHostRestore tag payload s
  | .faultAck tag payload => Sys2Proof.Machine.execFaultAck tag payload s
  | .hostRelease tag payload => Sys2Proof.Machine.execHostRelease tag payload s
  | .hostTxStart => Sys2Proof.Machine.execHostTxStart s
  | .hostTxDone => Sys2Proof.Machine.execHostTxDone s
  | .headChange p winA winB => Sys2Proof.Machine.execHeadChange p winA winB s
  | .stuckTimeout p => Sys2Proof.Machine.execStuckTimeout p s
  | .quietPeriodEnd p => Sys2Proof.Machine.execQuietPeriodEnd p s
  | .quietMark p => Sys2Proof.Machine.execQuietMark p s
  | .startTimerExpiry slot => Sys2Proof.Machine.execStartTimerExpiry slot s
  | .longWarningMark slot => Sys2Proof.Machine.execLongWarningMark slot s
  | .openMark => Sys2Proof.Machine.execOpenMark s
  | .tAmberExpiry => Sys2Proof.Machine.execTAmberExpiry s
  | .tPrelowerExpiry => Sys2Proof.Machine.execTPrelowerExpiry s
  | .exitDelayMark => Sys2Proof.Machine.execExitDelayMark s
  | .longClosureTimer => Sys2Proof.Machine.execLongClosureTimer s
  | .longBinMark => Sys2Proof.Machine.execLongBinMark s
  | .flashPartEnd => Sys2Proof.Machine.execFlashPartEnd s
  | .litProof c mA => Sys2Proof.Machine.execLitProof c mA s
  | .darkSample c mA => Sys2Proof.Machine.execDarkSample c mA s
  | .startUpFlashHalf => Sys2Proof.Machine.execStartUpFlashHalf s
  | .lampTestSample mA => Sys2Proof.Machine.execLampTestSample mA s
  | .lampTestChannelEnd => Sys2Proof.Machine.execLampTestChannelEnd s
  | .barrierContactChange b up down => Sys2Proof.Machine.execBarrierContactChange b up down s
  | .barrierLimit b => Sys2Proof.Machine.execBarrierLimit b s
  | .barrierDropped b => Sys2Proof.Machine.execBarrierDropped b s
  | .barrierSettled b => Sys2Proof.Machine.execBarrierSettled b s
  | .barrierLostDown b => Sys2Proof.Machine.execBarrierLostDown b s
  | .supplyInputChange input ok => Sys2Proof.Machine.execSupplyInputChange input ok s
  | .beacon h payload => Sys2Proof.Machine.execBeacon h payload s
  | .beaconTimeout => Sys2Proof.Machine.execBeaconTimeout s
  | .poll h payload => Sys2Proof.Machine.execPoll h payload s
  | .sigAck h payload => Sys2Proof.Machine.execSigAck h payload s
  | .sigRestore h payload => Sys2Proof.Machine.execSigRestore h payload s
  | .sigHold h payload => Sys2Proof.Machine.execSigHold h payload s
  | .sigRelease h payload => Sys2Proof.Machine.execSigRelease h payload s
  | .sigCmdUnknownKind h kind payload => Sys2Proof.Machine.execSigCmdUnknownKind h kind payload s
  | .sigCmdRefusedSource h kind payload => Sys2Proof.Machine.execSigCmdRefusedSource h kind payload s
  | .lineFrameBad chars framingError => Sys2Proof.Machine.execLineFrameBad chars framingError s
  | .lineGapAbort chars => Sys2Proof.Machine.execLineGapAbort chars s
  | .skipEnd => Sys2Proof.Machine.execSkipEnd s
  | .foreignFrame h kind payload => Sys2Proof.Machine.execForeignFrame h kind payload s
  | .ownAddressFrame h kind payload => Sys2Proof.Machine.execOwnAddressFrame h kind payload s
  | .accessWaitQuiet => Sys2Proof.Machine.execAccessWaitQuiet s
  | .lineFrameSent => Sys2Proof.Machine.execLineFrameSent s
  | .arbitrationLost => Sys2Proof.Machine.execArbitrationLost s
  | .collision => Sys2Proof.Machine.execCollision s
  | .healthTimerExpiry => Sys2Proof.Machine.execHealthTimerExpiry s
  | .repeatInterval slot => Sys2Proof.Machine.execRepeatInterval slot s
  | .agedMark slot => Sys2Proof.Machine.execAgedMark slot s
  | .addressedFrameLinkNotActive h kind payload => Sys2Proof.Machine.execAddressedFrameLinkNotActive h kind payload s

end Sys2Proof.Machine
end

