-- ==== Sys2Proof/Machine/Step.lean ====
section
/-! DEFINITION. One step (log entry 1): the command at the front of the queue; with an empty queue, one timed event that
is due; with none due, one head tick. -/

namespace Sys2Proof.Machine

/-- The state with the command a word spells in front of its queue; unchanged where the word spells none. -/
def State.withFetchWord (s : State) (nbits w : Nat) : State :=
  match Sys2Proof.decodeTableWord nbits w with
  | some c => { s with pending := c :: s.pending }
  | none => s

/-- A step of the part while no command waits. -/
def idleStep (s : State) : Host.Outcome State Fault Refusal :=
  match dueCommands s with
  | [] => .next (tick s)
  | [c] => exec c s
  | c :: cs => exec (pick s.free c cs) s.tookFree

/-- One step. -/
def step (s : State) : Host.Outcome State Fault Refusal :=
  match s.pending with
  | c :: rest => exec c { s with pending := rest }
  | [] => idleStep s

end Sys2Proof.Machine
end

