-- ==== Sys2Proof/WellFormed.lean ====
section
/-! DEFINITION. Well-formed commands: the command's operands are what its row of the opcode table names. A frame of
the host port carries at most 248 payload bytes (R191) and one of the signaller line at most 24 (R144); a row that
stands for frames of one kind carries no frame of another row. The meanings are total on ill-formed commands too. -/

namespace Sys2Proof

open Machine

/-- A host frame's payload fits a frame: LEN is at most 250 (R191). -/
def hostPayloadOk (payload : List Byte) : Bool := decide (payload.length ≤ 248)

/-- A line frame's payload fits a frame (R144). -/
def linePayloadOk (payload : List Byte) : Bool := decide (payload.length ≤ 24)

/-- A command's frame from the signal box (R160). -/
def fromSignalBox (h : LineHead) (payload : List Byte) : Bool := h.src == 0 && linePayloadOk payload

/-- The KINDs of the signal box's frames (ch. 12.3). -/
def boxKinds : List Byte := [kindBeacon, kindPoll, kindAck, kindRestore, kindHold, kindRelease]

/-- A command is well formed. -/
def Instr.wellFormed : Instr → Bool
  | .hostFrameDiscarded bytes framingError => !bytes.isEmpty || framingError
  | .hostUnknownKind kind _ payload => (Request.ofCode kind).isNone && hostPayloadOk payload
  | .restartCold _ payload => payload != [1] && hostPayloadOk payload
  | .restartWarm _ payload => payload != [0] && hostPayloadOk payload
  | .hostOverrun _ _ payload | .identify _ payload | .readTime _ payload | .configPoint _ payload
  | .configSection _ payload | .configTrack _ payload | .configTiming _ payload | .configFlash _ payload
  | .configLamp _ payload | .configBarrier _ payload | .configLink _ payload | .configMemory _ payload
  | .commit _ payload | .readState _ payload | .readSections _ payload | .readRecords _ payload
  | .readFaults _ payload | .readCounters _ payload | .readLog _ payload | .readPassage _ payload
  | .localHold _ payload | .lampTest _ payload | .hostRestore _ payload | .faultAck _ payload
  | .hostRelease _ payload => hostPayloadOk payload
  | .beacon _ payload => linePayloadOk payload
  | .poll h payload | .sigAck h payload | .sigRestore h payload | .sigHold h payload | .sigRelease h payload =>
    fromSignalBox h payload
  | .sigCmdUnknownKind h kind payload => fromSignalBox h payload && !boxKinds.contains kind
  | .sigCmdRefusedSource h kind payload => h.src != 0 && kind != kindBeacon && linePayloadOk payload
  | .lineFrameBad chars framingError => !chars.isEmpty || framingError
  | .foreignFrame _ _ payload | .ownAddressFrame _ _ payload => linePayloadOk payload
  | .addressedFrameLinkNotActive _ kind payload => kind != kindBeacon && linePayloadOk payload
  | .coldReset _ _ | .hostReady _ | .hostGap _ | .hostTxStart | .hostTxDone | .headChange _ _ _ | .stuckTimeout _
  | .quietPeriodEnd _ | .quietMark _ | .startTimerExpiry _ | .longWarningMark _ | .openMark | .tAmberExpiry
  | .tPrelowerExpiry | .exitDelayMark | .longClosureTimer | .longBinMark | .flashPartEnd | .litProof _ _
  | .darkSample _ _ | .startUpFlashHalf | .lampTestSample _ | .lampTestChannelEnd | .barrierContactChange _ _ _
  | .barrierLimit _ | .barrierDropped _ | .barrierSettled _ | .barrierLostDown _ | .supplyInputChange _ _
  | .beaconTimeout | .lineGapAbort _ | .skipEnd | .accessWaitQuiet | .lineFrameSent | .arbitrationLost | .collision
  | .healthTimerExpiry | .repeatInterval _ | .agedMark _ => true

end Sys2Proof
end

