-- ==== Sys2Proof/Safety.lean ====
section
/-! DEFINITION. The vocabulary of the statements: which parts of the state a command leaves alone, when a host request
is taken, and the rules of the manual that hold of the whole part in every state. -/

namespace Sys2Proof.Machine

/-! ### The configuration -/

/-- Everything the configuration requests set (R1, R20, R40, R41, R63, R87, R88, R103, R142, R176). -/
structure Configuration where
  points : Vector (Option Track × Int × Nat) 12
  sections : Vector (Option Track × Fin 12 × Fin 12 × SectionRole) 10
  slots : Vector (Nat × Nat × Nat) 4
  times : List Nat
  lamps : Vector (Bool × Nat × Nat × Nat) 10
  flash : FlashConfig
  barriers : Vector (Bool × BarrierRole × Side × MotionLimits × MotionLimits) 4
  own : Option (BitVec 6)
  groups : Vector (Option (BitVec 6)) 4
  lineTimes : List Nat
  layout : Layout
  deriving DecidableEq, Repr

def State.configuration (s : State) : Configuration :=
  { points := remake s.points fun _ x => (x.track, x.position, x.spacing)
    sections := remake s.sections fun _ c => (c.track, c.aEnd, c.bEnd, c.role)
    slots := remake s.slots fun _ k => (k.vLine, k.vFloor, k.accel)
    times := [s.tStuck, s.rwt, s.seq.tAmber, s.seq.tPrelower, s.seq.tExitDelay, s.seq.tMinOpen, s.seq.tLong]
    lamps := remake s.lamps.lamps fun _ l => (l.enabled, l.iMin, l.iMax, l.iOff)
    flash := s.lamps.flash
    barriers := remake s.barriers fun _ b => (b.configured, b.role, b.side, b.lower, b.raise)
    own := s.line.own
    groups := s.line.groups
    lineTimes := [s.line.beaconMs, s.line.tHealth, s.line.tRepeat]
    layout := s.memory.configured }

/-! ### Frames -/

/-- The parts of the state that a frame names. `config` and the blocks that hold configuration overlap: a frame that
does not list `config` says that no configured value has changed. `times` are T_stuck and RWT, `counts` the configured
granule counts, which stand in no other block. -/
inductive Block where
  | part
  | clock
  | straps
  | pins
  | config
  | times
  | counts
  | points
  | sections
  | slots
  | seq
  | holds
  | lamps
  | barriers
  | faults
  | supply
  | link
  | line
  | reports
  | log
  | passages
  | layout
  | counters
  | port
  | notices
  | free
  | pending
  deriving DecidableEq, Repr

/-- The Sequencer's state and marks, without the hold set. -/
def Sequencer.motion (q : Sequencer) : Sequencer := { q with holdSignaller := false, holdLocal := false }

/-- The Line Controller's link supervision. -/
def LineController.supervision (l : LineController) : LinkState × Option Time × Option Time :=
  (l.link, l.firstBeacon, l.lastBeacon)

/-- The Line Controller without its link supervision: receiver, waits, frame in flight. -/
def LineController.traffic (l : LineController) : LineController :=
  { l with link := .down, firstBeacon := none, lastBeacon := none }

/-- The Host Port without the notice queue and the pending set. -/
def HostPort.ports (h : HostPort) : HostPort := { h with hnq := [], pendingKinds := [] }

/-- Two states agree on a block. -/
def Same (b : Block) (s t : State) : Prop :=
  match b with
  | .part => t.part = s.part
  | .clock => t.now = s.now ∧ t.phase = s.phase ∧ t.sample10 = s.sample10
  | .straps => t.lrate = s.lrate ∧ t.hrate = s.hrate
  | .pins => t.pins = s.pins
  | .config => t.configuration = s.configuration
  | .times => t.tStuck = s.tStuck ∧ t.rwt = s.rwt
  | .counts => t.memory.configured = s.memory.configured
  | .points => t.points = s.points
  | .sections => t.sections = s.sections
  | .slots => t.slots = s.slots
  | .seq => t.seq.motion = s.seq.motion
  | .holds => t.seq.holdSignaller = s.seq.holdSignaller ∧ t.seq.holdLocal = s.seq.holdLocal
  | .lamps => t.lamps = s.lamps
  | .barriers => t.barriers = s.barriers
  | .faults => t.faults = s.faults
  | .supply => t.supply = s.supply
  | .link => t.line.supervision = s.line.supervision
  | .line => t.line.traffic = s.line.traffic
  | .reports => t.reports = s.reports
  | .log => t.memory.log = s.memory.log ∧ t.memory.nextSeq = s.memory.nextSeq ∧ t.memory.armed = s.memory.armed
  | .passages => t.memory.passages = s.memory.passages ∧ t.memory.nextPassage = s.memory.nextPassage
  | .layout => t.memory.layout = s.memory.layout
  | .counters => t.counters = s.counters
  | .port => t.host.ports = s.host.ports
  | .notices => t.host.hnq = s.host.hnq ∧ t.host.pendingKinds = s.host.pendingKinds
  | .free => t.free = s.free
  | .pending => t.pending = s.pending

/-- The state changes in the listed blocks at most. -/
def Only (bs : List Block) (s t : State) : Prop := ∀ b, b ∉ bs → Same b s t

/-- What log records, notices, counts and the state-status mark may change. -/
def recordBlocks : List Block := [.log, .notices, .counters, .reports]

/-- What a raise, an end or an acknowledge may change, with what it hands on; `free` by log entry 5. -/
def faultBlocks : List Block := [.faults, .free] ++ recordBlocks

/-- What the Sequencer's taking of the demand and the Line Controller's taking of the content may change: the
transition with its lamp and barrier commands, the records the re-open guard commits (R74), the conditions that end with
it (R80, R116), and the access wait (R150, R151). -/
def reactBlocks : List Block := [.seq, .lamps, .barriers, .slots, .faults, .line] ++ recordBlocks

/-! ### Host requests -/

/-- No reply waits and no warm restart is pending, so that a request reaches the tests of R195 steps 3 to 6. -/
abbrev HostFree (s : State) : Prop := s.host.reply = none ∧ s.host.collided = [] ∧ s.host.warmPending = false

/-- A reply stands in the reply buffer and nothing else of the transmitter's queues has changed. -/
def Replied (kind tag : Byte) (payload : List Byte) (s t : State) : Prop :=
  t.host.reply = some ⟨kind + 0x80, tag, payload, false⟩ ∧ t.host.collided = s.host.collided ∧ t.host.tx = s.host.tx ∧
    t.host.warmPending = s.host.warmPending

/-- The KIND, TAG and payload of a command that is a host frame with a good CRC. -/
def frameOf : Instr → Option (Byte × Byte × List Byte)
  | .hostUnknownKind kind tag payload => some (kind, tag, payload)
  | .identify tag payload => some (0x01, tag, payload)
  | .readTime tag payload => some (0x02, tag, payload)
  | .configPoint tag payload => some (0x10, tag, payload)
  | .configSection tag payload => some (0x11, tag, payload)
  | .configTrack tag payload => some (0x12, tag, payload)
  | .configTiming tag payload => some (0x13, tag, payload)
  | .configFlash tag payload => some (0x14, tag, payload)
  | .configLamp tag payload => some (0x15, tag, payload)
  | .configBarrier tag payload => some (0x16, tag, payload)
  | .configLink tag payload => some (0x17, tag, payload)
  | .configMemory tag payload => some (0x18, tag, payload)
  | .commit tag payload => some (0x1E, tag, payload)
  | .restartCold tag payload => some (0x1F, tag, payload)
  | .restartWarm tag payload => some (0x1F, tag, payload)
  | .readState tag payload => some (0x20, tag, payload)
  | .readSections tag payload => some (0x21, tag, payload)
  | .readRecords tag payload => some (0x22, tag, payload)
  | .readFaults tag payload => some (0x23, tag, payload)
  | .readCounters tag payload => some (0x24, tag, payload)
  | .readLog tag payload => some (0x25, tag, payload)
  | .readPassage tag payload => some (0x26, tag, payload)
  | .localHold tag payload => some (0x30, tag, payload)
  | .lampTest tag payload => some (0x31, tag, payload)
  | .hostRestore tag payload => some (0x32, tag, payload)
  | .faultAck tag payload => some (0x33, tag, payload)
  | .hostRelease tag payload => some (0x34, tag, payload)
  | .coldReset _ _ | .hostReady _ | .hostFrameDiscarded _ _ | .hostGap _ | .hostOverrun _ _ _ | .hostTxStart
  | .hostTxDone | .headChange _ _ _ | .stuckTimeout _ | .quietPeriodEnd _ | .quietMark _ | .startTimerExpiry _
  | .longWarningMark _ | .openMark | .tAmberExpiry | .tPrelowerExpiry | .exitDelayMark | .longClosureTimer
  | .longBinMark | .flashPartEnd | .litProof _ _ | .darkSample _ _ | .startUpFlashHalf | .lampTestSample _
  | .lampTestChannelEnd | .barrierContactChange _ _ _ | .barrierLimit _ | .barrierDropped _ | .barrierSettled _
  | .barrierLostDown _ | .supplyInputChange _ _ | .beacon _ _ | .beaconTimeout | .poll _ _ | .sigAck _ _
  | .sigRestore _ _ | .sigHold _ _ | .sigRelease _ _ | .sigCmdUnknownKind _ _ _ | .sigCmdRefusedSource _ _ _
  | .lineFrameBad _ _ | .lineGapAbort _ | .skipEnd | .foreignFrame _ _ _ | .ownAddressFrame _ _ _
  | .accessWaitQuiet | .lineFrameSent | .arbitrationLost | .collision | .healthTimerExpiry | .repeatInterval _
  | .agedMark _ | .addressedFrameLinkNotActive _ _ _ => none

/-! ### The tables of section 11.4 and of chapter 12.2 -/

/-- The payload length of each request KIND but FAULT_ACK, whose length follows its count (ch. 12.2). -/
def requestLengths : List (Byte × Nat) :=
  [(0x01, 0), (0x02, 0), (0x10, 8), (0x11, 5), (0x12, 12), (0x13, 18), (0x14, 12), (0x15, 8), (0x16, 16), (0x17, 11),
   (0x18, 3), (0x1E, 0), (0x1F, 1), (0x20, 0), (0x21, 0), (0x22, 0), (0x23, 1), (0x24, 3), (0x25, 1), (0x26, 1),
   (0x30, 1), (0x31, 0), (0x32, 2), (0x34, 0)]

/-- The KINDs of section 11.4. -/
def requestKinds : List Byte := 0x33 :: requestLengths.map Prod.fst

/-- The KINDs allowed in CONFIG alone. -/
def configKinds : List Byte := [0x10, 0x11, 0x12, 0x13, 0x14, 0x15, 0x16, 0x17, 0x18, 0x1E]

/-- The KINDs allowed in RUN alone. -/
def runKinds : List Byte := [0x20, 0x21, 0x22, 0x23, 0x24, 0x25, 0x26, 0x30, 0x31, 0x32, 0x33, 0x34]

/-- The payload's length fits the KIND: a FAULT_ACK's agrees with its count (R195). -/
def FitsKind (kind : Byte) (payload : List Byte) : Prop :=
  (kind, payload.length) ∈ requestLengths ∨
    (kind = 0x33 ∧ ∃ c rest, payload = c :: rest ∧ rest.length = 2 * c.toNat)

/-- The request is not allowed in the part's state (R195 step 5). -/
abbrev StateForbids (kind : Byte) (p : Part) : Prop :=
  (p = .run ∧ kind ∈ configKinds) ∨ (p = .config ∧ kind ∈ runKinds)

/-- A command is answered with a result alone and changes nothing else: a refused request (R195). -/
def Refuses (c : Instr) (kind tag : Byte) (r : Result) (s : State) : Prop :=
  ∃ t, exec c s = .next t ∧ Replied kind tag [byte r.code] s t ∧ Only [.port] s t

/-- A command is carried out and answered OK, changing the listed blocks and the port (R195). -/
def Accepts (c : Instr) (kind tag : Byte) (extra : List Byte) (bs : List Block) (s t : State) : Prop :=
  exec c s = .next t ∧ Replied kind tag (0 :: extra) s t ∧ Only (.port :: bs) s t

/-- A run-time action is answered with a result after the Sequencer and the Line Controller have taken its effect `u`: its
HOST_CMD record follows the effect (R198), the reply is placed last (log entry 7). -/
def ActedReply (c : Instr) (q : Request) (tag : Byte) (r : Result) (s u : State) : Prop :=
  ∃ items, exec c s = .next (placeReply q.code tag ⟨some [byte r.code], false, hostLog q r items (react u)⟩)

/-- Bytes of a host frame that is not yet complete: a START, or a START, a LEN in range and fewer bytes than LEN and the
check code ask for (R191, R192). -/
def PartialFrame (l : List Byte) : Prop :=
  l = [0x5A] ∨ ∃ len rest, l = 0x5A :: len :: rest ∧ 2 ≤ len.toNat ∧ len.toNat ≤ 250 ∧ rest.length < len.toNat + 2

/-- One record has been written (R178, R179). -/
def Wrote (k : LogKind) (object : Nat) (data : List Byte) (s t : State) : Prop :=
  t.memory = s.memory.append s.now k object data

/-! ### Codes of ch. 12.1 as numbers name them -/

def trackOfCode (n : Nat) : Option Track := if n = 1 then some .one else if n = 2 then some .two else none

def groupOfCode (n : Nat) : Option (BitVec 6) := if n = 0 then none else some (BitVec.ofNat 6 n)

/-- A group entry is unused or 48 to 62 (R142). -/
abbrev GroupOk (n : Nat) : Prop := n = 0 ∨ (48 ≤ n ∧ n ≤ 62)

/-! ### The passage of a wheel (R5 to R8) -/

/-- A transition of the head-sequence machine on a change of one head: the state, whether head A or head B changed, the
state it now shows, and the next state. -/
structure HeadMove where
  seq : HeadSeq
  headA : Bool
  on : Bool
  next : HeadSeq
  deriving DecidableEq, Repr

/-- The table of section 1.3, the two counting transitions apart. -/
def headMoves : List HeadMove :=
  [⟨.idle, true, true, .ab1⟩, ⟨.idle, false, true, .ba1⟩, ⟨.ab1, true, false, .idle⟩, ⟨.ab1, false, true, .ab2⟩,
   ⟨.ab2, true, false, .ab3⟩, ⟨.ab2, false, false, .ab1⟩, ⟨.ab3, true, true, .ab2⟩, ⟨.ba1, true, true, .ba2⟩,
   ⟨.ba1, false, false, .idle⟩, ⟨.ba2, true, false, .ba1⟩, ⟨.ba2, false, false, .ba3⟩, ⟨.ba3, false, true, .ba2⟩]

/-- Head A alone, or head B alone, comes to show a state that it did not show. -/
def ChangesAlone (x : Point) (winA winB : Window) (headA on : Bool) : Prop :=
  if headA then winA.accepted = on ∧ x.accA = !on ∧ winB.accepted = x.accB
  else winB.accepted = on ∧ x.accB = !on ∧ winA.accepted = x.accA

/-- The quiet time after a head tick (R15). -/
def quietAfter (x : Point) (a b : Bool) (now : Time) : Option Time :=
  if x.headFault then (if a || b then none else some (x.quiet.getD now)) else x.quiet

/-! ### Host frames within a command -/

/-- A host frame with a good CRC that a command brings: the command is the frame, or the receiver finds it in the run of
bytes that the command is (R192, R193). -/
def Brings (c : Instr) (s : State) (kind tag : Byte) (payload : List Byte) : Prop :=
  frameOf c = some (kind, tag, payload) ∨
    ∃ bytes, ((∃ e, c = .hostFrameDiscarded bytes e) ∨ c = .hostGap bytes) ∧
      HostEvent.frame kind tag payload ∈ (scanHost (s.host.assembly ++ bytes).length (s.host.assembly ++ bytes)).1

/-- A request is a READ_COUNTERS with clear that names a counter (R189). -/
def Clears (i : Fin 32) (kind : Byte) (payload : List Byte) : Prop :=
  kind = 0x24 ∧ ∃ first count : Byte, payload = [first, count, 1] ∧ first.toNat ≤ i.val ∧ i.val < first.toNat + count.toNat

/-! ### The line -/

/-- The receiver stands ready for a frame: in RUN, IDLE, no frame of the part in flight. -/
abbrev LineReady (s : State) : Prop := s.part = .run ∧ s.line.rx = .idle ∧ s.line.inFlight = none

/-- A frame from the signal box that addresses the part (R146, R160). -/
abbrev FromBox (s : State) (h : LineHead) (addr : Addressing) : Prop :=
  h.src = 0 ∧ s.line.own ≠ some 0 ∧ s.line.addressing h.dest = some addr

/-- The CONFIRM slot after a command of the signal box: filled when the frame came to the own address alone (R163). -/
def confirmOf (s : State) (addr : Addressing) (kind : Byte) (r : Result) : Option Confirm :=
  if addr = .own then some ⟨kind, r⟩ else s.reports.confirm

/-- HEAD and DEST, KIND and payload of a command that is a line frame with a good CRC. -/
def lineFrameOf : Instr → Option (LineHead × Byte × List Byte)
  | .beacon h payload => some (h, 0x01, payload)
  | .poll h payload => some (h, 0x02, payload)
  | .sigAck h payload => some (h, 0x03, payload)
  | .sigRestore h payload => some (h, 0x04, payload)
  | .sigHold h payload => some (h, 0x05, payload)
  | .sigRelease h payload => some (h, 0x06, payload)
  | .sigCmdUnknownKind h kind payload => some (h, kind, payload)
  | .sigCmdRefusedSource h kind payload => some (h, kind, payload)
  | .foreignFrame h kind payload => some (h, kind, payload)
  | .ownAddressFrame h kind payload => some (h, kind, payload)
  | .addressedFrameLinkNotActive h kind payload => some (h, kind, payload)
  | _ => none

/-- No frame of the part has begun: none is in flight, or its start bit is still to come (R152). -/
def NoFrameBegun (l : LineController) : Prop := ∀ f, l.inFlight = some f → f.begun = false

/-- A head tick that brings `n` millionths of a bit-time begins the start bit of a frame asked for before: a bit-time begins
half-way between two samples (R140, R152). -/
def StartBitBegins (n : Nat) (l : LineController) (f : TxFrame) : Prop :=
  l.inFlight = some f ∧ f.begun = false ∧ l.bitAcc < 500000 ∧ 500000 ≤ l.bitAcc + n

/-- The start bit of a frame begins in a head tick that brings `n` millionths of a bit-time. Its whole content is fixed as the
state then stands, at the time then reached, and what it carries is recorded: the carried marks with the states carried, the
renewed flags of what it answers cleared (R153, R170). A class left without content sends nothing, and the Line Controller
goes on as after any other end of a frame (R151, R152; log entry 26). -/
def StartsWithItsContent (n : Nat) (f : TxFrame) (s t : State) : Prop :=
  let v := { s with now := t.now, line := { s.line with bitAcc := s.line.bitAcc + n, waitTest := false, inFlight := none } }
  (v.content f.cls = none → t.line = (lineSettle v).line ∧ t.faults = s.faults ∧ t.reports = s.reports) ∧
  (∀ c, v.content f.cls = some c →
    t.line = { v.line with
      inFlight := some ⟨f.cls, c.kind, c.payload, frameChars f.cls (s.line.own.getD 0) c.kind c.payload, 0, true⟩ } ∧
    (∀ i : Fin 32, t.faults.table[i] =
      if c.kind = 0x42 ∧ i ∈ c.carried then
        { s.faults.table[i] with carried := s.faults.table[i].record.map FaultRecord.state }
      else s.faults.table[i]) ∧
    { t.faults with table := s.faults.table } = s.faults ∧
    (c.kind = 0x42 → t.reports = s.reports) ∧
    (c.kind = 0x43 → t.reports = { s.reports with confirmRenewed := false }) ∧
    (c.kind = 0x41 → t.reports = { s.reports with stateRenewed := false, healthRenewed := false }))

/-- The line over one head tick that brings `n` millionths of a bit-time and no start bit of a frame asked for, driven by no
other station (R140, R141). Each whole bit-time the line is sampled: a bit of the part is read back, or the line reads
recessive; a HEAD taken over goes on from the line (R154). -/
def LineTicks (n : Nat) (l m : LineController) : Prop :=
  (l.bitAcc + n < 1000000 → m = { l with bitAcc := l.bitAcc + n, waitTest := false }) ∧
  (1000000 ≤ l.bitAcc + n →
    let k := { l with bitAcc := l.bitAcc + n - 1000000, waitTest := true }
    (∀ f, l.inFlight = some f → f.begun = true → f.sent < 10 * f.chars.length →
      m = { k with
        inFlight := some { f with sent := f.sent + 1 }
        quiet := if f.bit = true ∧ f.sent % 10 ≠ 9 then l.quiet + 1 else 0 }) ∧
    (NoFrameBegun l → l.headBits = [] → m = { k with quiet := l.quiet + 1 }) ∧
    (NoFrameBegun l → l.headBits ≠ [] → l.headBits.length < 8 →
      m = { k with headBits := l.headBits ++ [true], quiet := l.quiet + 1 }) ∧
    (NoFrameBegun l → 8 ≤ l.headBits.length →
      m = { k with headBits := [], assembly := [byteOfBits l.headBits], quiet := 0 }))

/-! ### The checks of COMMIT (R202) -/

/-- A check answers the lowest index at fault, none when there is none. -/
def Lowest (l : List (Nat × Prop)) (r : Option Nat) : Prop :=
  (∀ i, r = some i ↔ ∃ P, (i, P) ∈ l ∧ P ∧ ∀ j Q, (j, Q) ∈ l → j < i → ¬Q) ∧ (r = none ↔ ∀ i P, (i, P) ∈ l → ¬P)

/-- A track has points. -/
def HasPoints (s : State) (t : Track) : Prop := ∃ p : Fin 12, s.points[p].track = some t

/-- A track with points has fewer than 2 or more than 6, or two at one position (check 1). -/
def PointsBad (s : State) (t : Track) : Prop :=
  HasPoints s t ∧
    let n := (allPoints.filter fun p => decide (s.points[p].track = some t)).length
    (n < 2 ∨ 6 < n ∨ ∃ p q : Fin 12, p ≠ q ∧ s.points[p].track = some t ∧ s.points[q].track = some t ∧
      s.points[p].position = s.points[q].position)

/-- A section is an island of a track with points and is not the only one, or does not straddle the road (check 2, log
entry 14). -/
def IslandBad (s : State) (i : Fin 10) : Prop :=
  ∃ t, s.sections[i].track = some t ∧ HasPoints s t ∧ s.sections[i].role = .island ∧
    ((∃ j : Fin 10, j ≠ i ∧ s.sections[j].track = some t ∧ s.sections[j].role = .island) ∨
      ¬(s.points[s.sections[i].aEnd].position < 0 ∧ 0 < s.points[s.sections[i].bEnd].position))

/-- A track with points has no island (check 2). -/
def NoIsland (s : State) (t : Track) : Prop :=
  HasPoints s t ∧ ∀ i : Fin 10, ¬(s.sections[i].track = some t ∧ s.sections[i].role = .island)

/-- Two points of a track with none between them, the first at the lower position (R21). -/
def Consecutive (s : State) (t : Track) (p q : Fin 12) : Prop :=
  s.points[p].track = some t ∧ s.points[q].track = some t ∧ s.points[p].position < s.points[q].position ∧
    ∀ r : Fin 12, s.points[r].track = some t →
      ¬(s.points[p].position < s.points[r].position ∧ s.points[r].position < s.points[q].position)

/-- A section in use does not join consecutive points of its track, or another section joins the same pair (check 3, log
entry 14). -/
def SectionBad (s : State) (i : Fin 10) : Prop :=
  ∃ t, s.sections[i].track = some t ∧
    (¬Consecutive s t s.sections[i].aEnd s.sections[i].bEnd ∨
      ∃ j : Fin 10, j ≠ i ∧ s.sections[j].track ≠ none ∧
        ((s.sections[j].aEnd = s.sections[i].aEnd ∧ s.sections[j].bEnd = s.sections[i].bEnd) ∨
          (s.sections[j].aEnd = s.sections[i].bEnd ∧ s.sections[j].bEnd = s.sections[i].aEnd)))

/-- A pair of consecutive points of a track that no section of it joins (check 3). -/
def PairUnjoined (s : State) (t : Track) : Prop :=
  ∃ p q : Fin 12, Consecutive s t p q ∧
    ∀ i : Fin 10, ¬(s.sections[i].track = some t ∧ s.sections[i].aEnd = p ∧ s.sections[i].bEnd = q)

/-- Some channel of a list is enabled. -/
def Enabled (s : State) (cs : List (Fin 10)) : Prop := ∃ c, c ∈ cs ∧ s.lamps.lamps[c].enabled = true

/-- A road side with an enabled red or a configured barrier lacks an enabled L or an enabled R (check 7). -/
def LacksReds (s : State) (x : Side) (left right : List (Fin 10)) : Prop :=
  (Enabled s (left ++ right) ∨ ∃ b : Fin 4, s.barriers[b].configured = true ∧ s.barriers[b].side = x) ∧
    ¬(Enabled s left ∧ Enabled s right)

/-- One motion's limits fit (check 8). -/
def LimitsFit (m : MotionLimits) : Prop := max m.leave m.travel ≤ m.total ∧ m.total ≤ m.leave + m.travel

/-! ### What the reads and the reports carry -/

/-- Milliseconds since a time, 0 when it is absent. -/
def msSince (now : Time) : Option Time → Nat
  | some t => elapsed now t
  | none => 0

/-- A road side's enabled L channels, or its enabled R channels, are all FAILED (R96). -/
abbrev DarkSide (s : State) (left right : List (Fin 10)) : Prop :=
  (∃ c ∈ left ++ right, s.lamps.lamps[c].enabled = true) ∧
    ((∀ c ∈ left, s.lamps.lamps[c].enabled = true → s.lamps.lamps[c].failed = true) ∨
      (∀ c ∈ right, s.lamps.lamps[c].enabled = true → s.lamps.lamps[c].failed = true))

/-- A slot holds a record of some classes that is due for report (R167). -/
def dueIn (s : State) (p : FaultClass → Bool) (i : Fin 32) : Bool :=
  match s.faults.table[i].record with
  | some r => p r.cls && (decide (r.lastReported ≠ some r.state) || s.faults.table[i].forced)
  | none => false

/-- A prediction entry (ch. 12.6). -/
def entryOf (e : Prediction) : List Byte :=
  byte (16 * e.point.val + e.vUsed / 65536 % 2) :: be16 (e.interval.getD 0) ++ be16 e.vUsed ++ be24 e.tMs

/-- A record's block of READ_RECORDS, 25 + 8k bytes (ch. 12.2). -/
def blockOf (r : TrainRecord) : List Byte :=
  [byte ((match r.phase with | .approaching => 1 | .arrived => 2) + 16 * (r.commitCause.map CommitCause.code).getD 7),
    byte (flag r.committed + 2 * flag r.shortWarning + 4 * flag r.commitTime.isSome + 8 * flag r.arrivalA.isSome +
      16 * flag r.warningS.isSome + 32 * flag r.arrived.isSome + 64 * flag r.longMark)] ++
  timeBytes r.created ++ timeOrZero r.commitTime ++ timeOrZero r.arrivalA ++ timeOrZero r.warningS ++
  timeOrZero r.arrived ++ be16 r.axlesIn ++ [byte r.predictions.length] ++ (r.predictions.map entryOf).flatten

/-- A slot's record in READ_FAULTS, 21 bytes (ch. 12.2). -/
def faultRow (s : State) (i : Fin 32) : List Byte :=
  match s.faults.table[i].record with
  | none => []
  | some r =>
    [byte i.val, byte r.kind.code, byte r.object, byte r.cls.code, byte r.state.code, byte r.detail, byte r.count] ++
      timeBytes r.first ++ timeBytes r.last ++
      [codeOrFF (r.lastReported.map FaultState.code), byte (flag r.lastReport.isSome)] ++ timeOrZero r.lastReport

/-- How old a slot's record is, one whose aged mark is set older than every other (R124, R169). -/
def reportAge (s : State) (i : Fin 32) : Nat :=
  if s.faults.table[i].aged then 4294967296
  else match s.faults.table[i].record with
    | some r => elapsed s.now r.last
    | none => 0

/-- A slot's record comes before another's: earlier changed, or as early in a lower slot (R124, R169). -/
def Before (s : State) (i j : Fin 32) : Prop :=
  reportAge s j < reportAge s i ∨ (reportAge s i = reportAge s j ∧ i < j)

/-- A slot's fault entry, 8 characters (R166, ch. 12.3). -/
def reportRow (s : State) (i : Fin 32) : List Byte :=
  match s.faults.table[i].record with
  | none => []
  | some r =>
    [byte r.kind.code, byte r.object, byte r.cls.code, byte r.state.code, byte r.detail, byte r.count] ++
      be16 (if s.faults.table[i].aged then 65535 else min 65535 (elapsed s.now r.last / 1000))

/-- A content is a FAULT_REPORT of the earliest due records of some classes, up to three (R166, R169). -/
def ReportOf (s : State) (p : FaultClass → Bool) (c : Content) : Prop :=
  c.kind = 0x42 ∧ c.carried ≠ [] ∧ c.carried.length ≤ 3 ∧ c.carried.Pairwise (Before s) ∧
    (∀ i ∈ c.carried, dueIn s p i = true) ∧
    (∀ j, dueIn s p j = true → j ∉ c.carried → c.carried.length = 3 ∧ ∀ i ∈ c.carried, Before s i j) ∧
    c.payload = (c.carried.map (reportRow s)).flatten

/-- A slot holds a CLEARED_UNACKED record of a class (R124). -/
def clearedOf (s : State) (c : FaultClass) (i : Fin 32) : Bool :=
  match s.faults.table[i].record with
  | some r => decide (r.cls = c ∧ r.state = .clearedUnacked)
  | none => false

/-- The general slot of the CLEARED_UNACKED record of a class with the earliest last change time (R124). -/
def EarliestCleared (s : State) (c : FaultClass) (i : Fin 32) : Prop :=
  i ≠ 31 ∧ clearedOf s c i = true ∧ ∀ j : Fin 32, j ≠ 31 → j ≠ i → clearedOf s c j = true → Before s i j

/-- A condition that was absent or present becomes present or absent: its raise, or its end (R123, R127). -/
def atEdge (k : FaultKind) (o detail : Nat) (was is : Bool) (s : State) : State :=
  match was, is with
  | false, true => raise k o detail s
  | true, false => endCondition k o s
  | _, _ => s

/-- Every enabled channel of a list is FAILED (R96). -/
abbrev GroupFailed (s : State) (cs : List (Fin 10)) : Prop :=
  ∀ c ∈ cs, s.lamps.lamps[c].enabled = true → s.lamps.lamps[c].failed = true

/-- ROAD_SIDE_DARK of a road side from one state to another: detail 1 with its L group alone all FAILED, 2 with its R group
alone, 3 with both (R96). -/
def darkChange (s t : State) (side : Nat) (left right : List (Fin 10)) (u : State) : State :=
  atEdge .roadSideDark side (flag (decide (GroupFailed t left)) + 2 * flag (decide (GroupFailed t right)))
    (decide (DarkSide s left right)) (decide (DarkSide t left right)) u

/-- What an acknowledge makes of a record that it names (R128). -/
def ackedRecord (now : Time) (r : FaultRecord) : Option FaultRecord :=
  match r.state with
  | .activeUnacked => if r.kind.isEvent then none else some { r with state := .activeAcked, last := now }
  | .activeAcked => some r
  | .clearedUnacked => none

/-! ### What the Fault Manager hands on (R133, R137) -/

/-- The items of a FAULT record but the requester, which are those of its FAULT notice (R137, ch. 12.5). Actions: 0 NEW,
1 REPLACED, 2 RAISED, 3 CLEARED, 4 ACKED, 5 REMOVED, 6 LOST. -/
def faultItems (r : FaultRecord) (action : Nat) (count after slot : Byte) : List Byte :=
  [byte r.kind.code, byte r.cls.code, byte action, after, byte r.detail, count, slot]

/-- One change of a record is told: one FAULT record, whose object is the fault's, and one FAULT notice (R137). Requesters:
0 none, 1 SIGNALLER, 2 HOST. -/
def faultTold (r : FaultRecord) (action : Nat) (count after slot : Byte) (requester : Nat) (s : State) : State :=
  queueNotice ⟨.fault, byte r.object :: faultItems r action count after slot⟩
    (writeLog .fault r.object (faultItems r action count after slot ++ [byte requester]) s)

/-- The table with another entry in one slot. -/
def withEntry (i : Fin 32) (x : FaultSlot) (s : State) : State :=
  { s with faults := { s.faults with table := s.faults.table.set i x } }

/-- A slot's record leaves the table: REMOVED (R127, R128, R137). -/
def recordRemoved (i : Fin 32) (r : FaultRecord) (requester : Nat) (s : State) : State :=
  faultTold r 5 (byte r.count) 0xFF (byte i.val) requester (withEntry i ⟨none, false, none, false⟩ s)

/-- A slot's record takes another state, changed last now: CLEARED or ACKED (R127, R128, R137). -/
def recordRestated (i : Fin 32) (r : FaultRecord) (st : FaultState) (action requester : Nat) (s : State) : State :=
  faultTold r action (byte r.count) (byte st.code) (byte i.val) requester
    (withEntry i { s.faults.table[i] with record := some { r with state := st, last := s.now }, aged := false } s)

/-- The condition of a slot's record ends (R127). -/
def endAtSlot (i : Fin 32) (s : State) : State :=
  match s.faults.table[i].record with
  | none => s
  | some r =>
    match r.state with
    | .activeUnacked => recordRestated i r .clearedUnacked 3 0 s
    | .activeAcked => recordRemoved i r 0 s
    | .clearedUnacked => s

/-- The general slots free. -/
def generalFree (s : State) : Nat := (allGeneral.filter fun j => s.faults.table[j].record.isNone).length

/-- TABLE_FULL ends with at least 4 general slots free (R126). -/
def tableFullTested (s : State) : State := if 4 ≤ generalFree s then endAtSlot 31 s else s

/-- A slot's record is acknowledged (R128). -/
def ackAtSlot (requester : Nat) (i : Fin 32) (s : State) : State :=
  match s.faults.table[i].record with
  | none => s
  | some r =>
    match r.state with
    | .activeUnacked => if r.kind.isEvent then recordRemoved i r requester s else recordRestated i r .activeAcked 4 requester s
    | .activeAcked => s
    | .clearedUnacked => recordRemoved i r requester s

/-- The record that a pair names is acknowledged; a pair that names none is ignored (R128). -/
def ackNamed (requester : Nat) (s : State) (x : AckPair) : State :=
  match (FaultKind.ofCode x.1).bind fun k => s.faults.find k x.2 with
  | some i => ackAtSlot requester i s
  | none => s

/-- A whole acknowledge command in range: its records in order, the test of TABLE_FULL once, the mode derived (R126, R129,
R131; the slot order of ALL is log entry 7's). -/
def acknowledged (requester : Nat) (t : AckTarget) (s : State) : State :=
  deriveMode .ack (tableFullTested (match t with
    | .all => allFaultSlots.foldl (fun s i => ackAtSlot requester i s) s
    | .pairs l => l.foldl (ackNamed requester) s))

/-! ### The check code (R206) -/

/-- One bit through x^16 + x^12 + x^5 + 1: the bit that leaves the register at the top, with the message's, decides whether the
polynomial is taken in. -/
def checkBit (c : BitVec 16) (b : Bool) : BitVec 16 := (c <<< 1) ^^^ (if c.getLsbD 15 = b then 0 else 0x1021)

/-- The bits of a message, each byte most significant bit first. -/
def messageBits (l : List Byte) : List Bool := l.flatMap fun c => (List.range 8).map fun i => c.getLsbD (7 - i)

/-- No kind and object has two records (R122). -/
def OneRecordEach (f : FaultManager) : Prop :=
  ∀ (i j : Fin 32) (r q : FaultRecord), f.table[i].record = some r → f.table[j].record = some q → r.kind = q.kind →
    r.object = q.object → i = j

/-- The barrier goes to FAULT with a cause (R114, R115), BARRIER_FAIL is raised after the end of a BARRIER_DISTURBED (R114,
R116), an open or amber road goes to RED_WAIT (R72), and the Sequencer takes the demand and the change of state. -/
def BarrierFails (b : Fin 4) (detail : Nat) (s t : State) : Prop :=
  ∃ w, t = react (barrierChanged (takeDemand w)) ∧
    w.barriers[b] = { s.barriers[b] with
      state := some .fault, holdOut := false, raiseOut := false, detail := detail, phase := none, motionStart := none
      phaseStart := none, dropped := none, lostDown := none, disturbed := false
      settled := if s.barriers[b].down.accepted ∧ s.barriers[b].up.accepted = false then some s.now else none } ∧
    (∀ a : Fin 4, a ≠ b → w.barriers[a] = s.barriers[a]) ∧
    w.faults =
      (endThenRaise (if s.barriers[b].disturbed then some .barrierDisturbed else none) .barrierFail b.val detail s).faults ∧
    w.seq.state =
      (if s.seq.state = some .roadOpen ∨ s.seq.state = some .amber then some .redWait else s.seq.state) ∧
    Only ([.seq, .lamps, .barriers] ++ faultBlocks) s w

/-- A change of link state: its LINK record and then its LINK notice (R149). -/
def LinkMoves (new : LinkState) (cause : Nat) (s t : State) : Prop :=
  let data := [byte s.line.link.code, byte new.code, byte cause]
  t.line.link = new ∧ Wrote .link 0 data s t ∧
    t.host = (queueNotice ⟨.link, [byte new.code]⟩ (writeLog .link 0 data s)).host

/-! ### Section events (R27, R29, R30) -/

/-- The detail of SECTION_DISTURBED for a cause (R29). -/
def disturbDetail : SectionCause → Option Nat
  | .start => some 0
  | .overflow => some 1
  | .underflow => some 2
  | .skew => some 3
  | .entry | .exit | .sweepDone | .direct | .sweep => none

/-- The data of a SECTION record (R30, ch. 12.5). -/
def sectionRow (old new : Sect) (cause : SectionCause) (p : Option (Fin 12)) : List Byte :=
  [codeOrFF (old.state.map SectionState.code), codeOrFF (new.state.map SectionState.code), byte (new.count / 256),
    byte new.count,
    match cause with
    | .entry => 0
    | .exit => 1
    | .sweepDone => 2
    | .overflow => 3
    | .underflow => 4
    | .skew => 5
    | .start => 6
    | .direct => 7
    | .sweep => 8,
    match p with
    | some q => byte q.val
    | none => 0xFF,
    byte (flag old.sweep)]

/-- What an axle event brings to the sections of its point, leaving section first (R24, R179). -/
def axleTurns (s : State) (p : Fin 12) (d : Dir) : List SectEffect :=
  (match s.leaving p d with
    | some i => [⟨i, s.sections[i], s.sections[i].leave⟩]
    | none => []) ++
  (match s.entering p d with
    | some i => [⟨i, s.sections[i], s.sections[i].enter⟩]
    | none => [])

/-- What a skew event brings to the sections its point bounds, the one on its A side first (R27, log entry 7). -/
def skewTurns (s : State) (p : Fin 12) : List SectEffect :=
  (match s.leaving p .aToB with
    | some i => [⟨i, s.sections[i], s.sections[i].skewed⟩]
    | none => []) ++
  (match s.entering p .aToB with
    | some i => [⟨i, s.sections[i], s.sections[i].skewed⟩]
    | none => [])

/-- The Section Counter has taken an event: one SECTION record for each section whose state changes (R30), then the raise of
SECTION_DISTURBED for each that becomes DISTURBED (R29). -/
def SectionsTake (es : List SectEffect) (p : Fin 12) (s t : State) : Prop :=
  ∃ v, Only [.sections, .log, .notices] s v ∧
    v.memory = (es.filterMap fun e => e.change.cause.map fun c => (e.index.val, sectionRow e.old e.change.new c (some p))).foldl
      (fun m x => m.append s.now .sectionState x.1 x.2) s.memory ∧
    t = (es.filterMap fun e => (e.change.cause.bind disturbDetail).map fun d => (e.index.val, d)).foldl
      (fun t x => raise .sectionDisturbed x.1 x.2 t) v

/-- A section has been restored: its SECTION record (R30), the end of SECTION_DISTURBED (R32, R33), under a SWEEP the commits of
R53 and the Sequencer's taking of their demand (R64), then the records that end (R59; that they end after the commits is log
entry 7's). -/
def Restored (i : Fin 10) (direct : Bool) (s t : State) : Prop :=
  let new : Sect :=
    { s.sections[i] with state := some (if direct then .clear else .prepared), count := 0, sweep := false }
  ∃ v, v.sections = s.sections.set i new ∧
    Wrote .sectionState i.val (sectionRow s.sections[i] new (if direct then .direct else .sweep) none) s v ∧
    Only [.sections, .log, .notices] s v ∧
    let ended := endCondition .sectionDisturbed i.val v
    t = endRecords [i]
      (if direct then ended
      else takeDemand ((allSlots.filter fun k => v.inSpan k i).foldl (fun t k => testPrepared k t) ended))

/-! ### Trains (R38, R59) -/

/-- A section is CLEAR or PREPARED (R35). -/
def ClearOrPrepared (c : Sect) : Prop := c.state = some .clear ∨ c.state = some .prepared

/-- The slot's record ends as the listed sections change (R59). -/
def TrainEnds (s : State) (changed : List (Fin 10)) (k : Fin 4) : Prop :=
  s.slots[k].record ≠ none ∧ (∃ i ∈ changed, s.inSpan k i = true) ∧
    ∀ i : Fin 10, s.inSpan k i = true → ClearOrPrepared s.sections[i]

/-- A record commits with a cause at a time (R55). -/
def committedBy (r : TrainRecord) (cause : CommitCause) (time : Time) : TrainRecord :=
  { r with committed := true, commitTime := some time, commitCause := some cause, startTimer := none }

/-- A record of a train just detected (R43). -/
def newRecord (now : Time) : TrainRecord :=
  ⟨.approaching, false, none, none, none, none, none, false, now, none, 0, [], false⟩

/-- A record arrives: committed with cause ARRIVAL if it was not, ARRIVED, one axle into the island (R56). -/
def arrivedAt (r : TrainRecord) (now : Time) : TrainRecord :=
  { (if r.committed then r else committedBy r .arrival now) with phase := .arrived, arrived := some now, axlesIn := 1 }

/-- The slot of a track and direction, and back (3.1). -/
def trackOfSlot (k : Fin 4) : Track := if k.val = 0 ∨ k.val = 1 then .one else .two

/-- A slot of trains from A to B (3.1). -/
abbrev FromA (k : Fin 4) : Prop := k.val = 0 ∨ k.val = 2

/-- The content of the passage record of an ending train record (R60). -/
def passageOfTrain (r : TrainRecord) (k : Fin 4) (seq : BitVec 16) (now : Time) : PassageRecord where
  seq := seq
  track := trackOfSlot k
  dir := if FromA k then .aToB else .bToA
  outcome := if r.phase = .arrived then .passed else .withdrawn
  axles := r.axlesIn
  created := r.created
  commit := r.commitTime
  arrived := r.arrived
  ended := now
  warning :=
    match r.arrived, r.commitTime with
    | some a, some c => some (if r.longMark then 65535000 else elapsed a c)
    | _, _ => none
  short := r.shortWarning
  predictions := r.predictions

/-! ### STATUS (R164) -/

/-- The payload of a STATUS describes the crossing (R164, ch. 12.3). -/
def StatusOf (s : State) (p : List Byte) : Prop :=
  let n := fun i => (p.getD i 0).toNat
  p.length = 16 ∧ p.take 2 =
    [codeOrFF (s.seq.state.map SeqState.code),
      byte ((match s.faults.mode with | some .degraded => 1 | some .failed => 2 | _ => 0) + 4 * flag s.faults.latch +
        8 * flag s.seq.holdSignaller + 16 * flag s.seq.holdLocal)] ∧
    (256 * n 2 + n 3 < 1024 ∧ ∀ i : Fin 10, (256 * n 2 + n 3).testBit i = s.sections[i].track.isSome) ∧
    (65536 * n 4 + 256 * n 5 + n 6 < 1048576 ∧ ∀ i : Fin 10, (65536 * n 4 + 256 * n 5 + n 6) / 4 ^ i.val % 4 =
      match s.sections[i].track, s.sections[i].state with
      | some _, some .occupied => 1
      | some _, some .disturbed => 2
      | some _, some .prepared => 3
      | _, _ => 0) ∧
    (∀ k : Fin 4, n 7 / 4 ^ k.val % 4 =
      match s.slots[k].record with
      | none => 0
      | some r => match r.phase with | .approaching => 1 | .arrived => 2) ∧
    (n 8 < 16 ∧ ∀ k : Fin 4, (n 8).testBit k =
      match s.slots[k].record with
      | none => false
      | some r => r.committed) ∧
    (p.drop 9).take 3 = ([FaultClass.severe, FaultClass.minor, FaultClass.notice].map fun c =>
      byte (allFaultSlots.filter fun i =>
        match s.faults.table[i].record with
        | none => false
        | some r => decide (r.cls = c ∧ r.state ≠ .clearedUnacked)).length) ∧
    p.drop 12 = be32 (s.now.toNat / 1000)

/-! ### Rules of the whole part -/

/-- HOLD and RAISE of a barrier are those of its state, off with none (R104, R117). -/
def Barrier.OutputsMatch (b : Barrier) : Prop :=
  match b.state with
  | some .heldUp => b.holdOut = true ∧ b.raiseOut = false
  | some .raising => b.holdOut = true ∧ b.raiseOut = true
  | _ => b.holdOut = false ∧ b.raiseOut = false

/-- The outputs of every barrier stand in a permitted combination (R104). -/
def BarrierOutputs (s : State) : Prop := ∀ b : Fin 4, s.barriers[b].OutputsMatch

/-- Every statistics counter lies in its range, and its flags are those of the marks it has passed (R187, R188). -/
def CountersBounded (s : State) : Prop :=
  ∀ i : Fin 32, s.counters[i].value ≤ Config.counterMax ∧
    (s.counters[i].half = decide (Config.counterHalf ≤ s.counters[i].value)) ∧
    (s.counters[i].full = decide (Config.counterMax ≤ s.counters[i].value))

/-- The part sends and waits to send in link state ACTIVE alone (R149, R151, R153). -/
def SilentUnlessActive (s : State) : Prop :=
  (s.line.inFlight.isSome ∨ s.line.wait.isSome) → s.line.link = .active

/-- In RUN the layout in use is one that passed check 10 (R176, R202). -/
def LayoutFits (s : State) : Prop :=
  s.part = .run → 8 ≤ s.memory.layout.log ∧ 4 ≤ s.memory.layout.passage ∧ 4 ≤ s.memory.layout.hnq ∧
    s.memory.layout.log + s.memory.layout.passage + s.memory.layout.hnq ≤ 128

/-- The log holds at most its capacity; its records carry consecutive sequence numbers, the newest one less than the
next (R179, R180); in CONFIG it is empty (R177, R183). -/
def LogNumbered (s : State) : Prop :=
  (s.part = .config → s.memory.log = []) ∧
  (s.part = .run → s.memory.log.length ≤ 4 * s.memory.layout.log) ∧
  (∀ i : Nat, ∀ h : i < s.memory.log.length,
    s.memory.log[i].seq + BitVec.ofNat 16 (s.memory.log.length - i) = s.memory.nextSeq)

/-- The passage store never holds more than its partition, and is empty in CONFIG (R184, R186). A record's predictions are of
different points (R44), so that every passage record fits the partition. -/
def PassagesFit (s : State) : Prop :=
  (∀ k : Fin 4, ∀ r, s.slots[k].record = some r → (r.predictions.map Prediction.point).Nodup) ∧
  (s.part = .config → s.memory.passages = []) ∧
  (s.part = .run → stepsUsed s.memory.passages ≤ 8 * s.memory.layout.passage)

/-- The notices held never exceed the queue's partition (R199, R200); in CONFIG the layout is the default (R176). -/
def NoticesFit (s : State) : Prop :=
  hnqUsed s.host.hnq ≤ 64 * s.memory.layout.hnq ∧ (s.part = .config → s.memory.layout = ⟨64, 32, 32⟩)

/-- In RUN every section in use holds a live state (R22, R36). -/
def SectionsLive (s : State) : Prop :=
  s.part = .run → ∀ i : Fin 10, s.sections[i].track.isSome = true → s.sections[i].state.isSome = true

/-- In RUN the mode is the one R131 derives, and the latch is set while a SEVERE record is active (R130, R134); in
CONFIG there is no mode and no record (R139). -/
def ModeDerived (s : State) : Prop :=
  (s.part = .run → s.faults.mode = some s.faults.derived) ∧
  (s.faults.anyActive .severe = true → s.faults.latch = true) ∧
  (s.part = .config → s.faults.mode = none ∧ s.faults.latch = false)

/-- No kind and object has two records, slot 31 holds a TABLE_FULL record or none, and no other slot holds one (R122,
R125). -/
def RecordsUnique (s : State) : Prop :=
  (∀ i j : Fin 32, ∀ r q, s.faults.table[i].record = some r → s.faults.table[j].record = some q →
    r.kind = q.kind → r.object = q.object → i = j) ∧
  (∀ i : Fin 32, ∀ r, s.faults.table[i].record = some r → (r.kind = .tableFull ↔ i = 31))

/-- Every record's class is its kind's (R120), and its occurrence count is 1 to 255 (R121, R123). -/
def RecordsFit (s : State) : Prop :=
  ∀ i : Fin 32, ∀ r, s.faults.table[i].record = some r → r.cls = r.kind.cls ∧ 1 ≤ r.count ∧ r.count ≤ 255

/-- In RUN neither OPEN nor RAISING is held together with the demand (R66, R77). -/
def RoadOpenOnlyUndemanded (s : State) : Prop :=
  s.part = .run → (s.seq.state = some .roadOpen ∨ s.seq.state = some .raising) → s.demand = false

/-- The Sequencer has a state in RUN and none in CONFIG (R84). -/
def SequencerInRun (s : State) : Prop := s.seq.state.isSome = true ↔ s.part = .run

/-- A section's count is 1 to 1,023 while OCCUPIED and 0 in every other state, where the sweep-entered flag is clear (R22, R25 to R27, R36). -/
def SectionCounts (s : State) : Prop :=
  ∀ i : Fin 10, (s.sections[i].state = some .occupied → 1 ≤ s.sections[i].count ∧ s.sections[i].count ≤ 1023) ∧
    (s.sections[i].state ≠ some .occupied → s.sections[i].count = 0 ∧ s.sections[i].sweep = false)

/-- The generator runs in every state of the Sequencer but OPEN and AMBER, and is stopped in those two (R89, R90). -/
def RedsFlash (s : State) : Prop :=
  (s.part = .config → s.lamps.startUp.isSome = true) ∧
  (s.part = .run →
    (s.lamps.gen.isSome = true ↔ s.seq.state ≠ some .roadOpen ∧ s.seq.state ≠ some .amber))

/-- In OPEN and AMBER every configured barrier is HELD_UP (R66, R72, R76). -/
def BarriersUpWhenOpen (s : State) : Prop :=
  s.part = .run → (s.seq.state = some .roadOpen ∨ s.seq.state = some .amber) →
    ∀ b : Fin 4, s.barriers[b].configured = true → s.barriers[b].state = some .heldUp

/-- Whenever the HOLD of a barrier is released or its RAISE motor driven, the reds are being flashed: by the start-up
flash in CONFIG, by the flash generator in RUN (R65). A channel that is not configured drives no barrier in RUN (R103). -/
def RedsBeforeBarriers (s : State) : Prop :=
  ∀ b : Fin 4, s.barriers[b].holdOut = false ∨ s.barriers[b].raiseOut = true →
    (s.part = .config → s.lamps.startUp.isSome = true) ∧
    (s.part = .run → s.barriers[b].configured = true → s.lamps.gen.isSome = true)

/-- A train record is committed exactly when it has a commit time and a cause; a committed record has no running start
timer, an ARRIVED one is committed, and an uncommitted one has A and S with the timer running to S (R39, R51, R52, R55,
R56). -/
def RecordsConsistent (s : State) : Prop :=
  ∀ k : Fin 4, ∀ r, s.slots[k].record = some r →
    (r.committed = true ↔ r.commitTime.isSome = true) ∧ (r.committed = true ↔ r.commitCause.isSome = true) ∧
    (r.committed = true → r.startTimer = none) ∧ (r.phase = .arrived → r.committed = true) ∧
    (r.phase = .arrived ↔ r.arrived.isSome = true) ∧
    (r.committed = false → r.arrivalA.isSome = true ∧ r.warningS.isSome = true ∧ r.startTimer = r.warningS)

/-- No uncommitted record has a warning start before the present time; in CONFIG there is no record (R52, R61). -/
def StartsAhead (s : State) : Prop :=
  ∀ k : Fin 4, ∀ r, s.slots[k].record = some r →
    s.part = .run ∧ (r.committed = false → ∀ w, r.warningS = some w → w = s.now ∨ atOrBefore w s.now = false)

end Sys2Proof.Machine
end

