-- ==== Sys2Proof/Certificates/Slice0/Obligations.lean ====
section
/-! DEFINITION. The statements about the model, for the provers. A statement about a command says, for every state and
operands that meet its hypotheses, that the command answers a next state and what that state is: the values the rules
give, and `Only`, the frame that names every block the command may change. Where the Sequencer and the Line Controller
take a command's effect in the same step, the statement gives the effect `u` and the next state `react u`; what `react`
does is `Obligations.TakingTheDemand` and `Obligations.AccessWaitFollowsTheContent`. -/

open Sys2Proof Sys2Proof.Machine

/-! ### The step -/

/-- The block's step (log entry 1): the command at the front of the queue is executed on the state with the queue's
rest. -/
def Obligations.StepRunsTheFrontCommand : Prop :=
  ∀ (c : Instr) (rest : List Instr) (s : State), s.pending = c :: rest → step s = exec c { s with pending := rest }

/-- The model's choice (log entry 1): with an empty queue and nothing due, one step is one head tick of 50 µs, twenty to
the millisecond (R3); of the timed events that are due one is taken in place of the tick, a free pick where there are several
(log entry 4). In RUN the tick samples the heads of the points in service (R3), every 10 ms the contacts of the configured
barriers and the supply inputs (R105, R136), and carries the line's bit clock on (R141, log entry 9); in a tick in which a
frame asked for begins with its start bit, its content is fixed (R153, R170). In either part state the host transmitter sends
on at its rate (R191, log entry 11). -/
def Obligations.IdleStepIsOneHeadTick : Prop :=
  ∀ s : State, s.pending = [] →
    (dueCommands s = [] →
      ∃ t, step s = .next t ∧
        (s.phase + 1 < 20 → t.now = s.now ∧ t.phase = s.phase + 1 ∧ t.sample10 = s.sample10) ∧
        (20 ≤ s.phase + 1 → t.now = s.now + 1 ∧ t.phase = 0 ∧ t.sample10 = (s.sample10 + 1) % 10) ∧
        t.host = { s.host with
          tx := s.host.tx.map fun x => { x with progress := x.progress + 50 * Config.hostRate s.hrate } } ∧
        (s.part = .config → Only [.clock, .port] s t) ∧
        (s.part = .run →
          (∀ p : Fin 12, t.points[p] =
            if s.points[p].inService then
              { s.points[p] with
                winA := s.points[p].winA.push s.pins.heads[p].fst
                winB := s.points[p].winB.push s.pins.heads[p].snd }
            else s.points[p]) ∧
          (∀ b : Fin 4, t.barriers[b] =
            if t.phase = 0 ∧ t.sample10 = 0 ∧ s.barriers[b].configured = true then
              { s.barriers[b] with
                up := ⟨s.barriers[b].up.last, s.pins.contacts[b].fst, s.barriers[b].up.accepted⟩
                down := ⟨s.barriers[b].down.last, s.pins.contacts[b].snd, s.barriers[b].down.accepted⟩ }
            else s.barriers[b]) ∧
          t.supply =
            (if t.phase = 0 ∧ t.sample10 = 0 then
              ⟨⟨s.supply.mains.last, s.pins.mains, s.supply.mains.accepted⟩,
                ⟨s.supply.batt.last, s.pins.batt, s.supply.batt.accepted⟩⟩
            else s.supply) ∧
          (∀ f, StartBitBegins (50 * Config.lineRate s.lrate) s.line f →
            StartsWithItsContent (50 * Config.lineRate s.lrate) f s t) ∧
          ((∀ f, ¬StartBitBegins (50 * Config.lineRate s.lrate) s.line f) →
            LineTicks (50 * Config.lineRate s.lrate) s.line t.line ∧ t.faults = s.faults ∧ t.reports = s.reports)) ∧
        Only [.clock, .points, .barriers, .supply, .line, .port, .faults, .reports] s t) ∧
    (∀ c, dueCommands s = [c] → step s = exec c s) ∧
    (∀ c d cs, dueCommands s = c :: d :: cs →
      ∃ e ∈ c :: d :: cs, step s = exec e { s with free := s.free + 1 })

/-! ### Resets -/

/-- R204: a cold reset puts every block in its cold-reset state in CONFIG with the clock at 0, by the RESET input as by
RESTART COLD, which receives no reply. The straps captured are those of the pins. The inputs keep their levels and the
waiting commands stay (log entries 10, 21, 22). A frame being sent is cut off after the byte in progress (log entry 11).
HOST_READY is an input and nothing else changes with it (R191). The values are those R2, R16, R36, R40, R41, R63, R84,
R88, R97, R139, R142, R159, R176 and R190 give. -/
def Obligations.ResetsLeaveTheColdState : Prop :=
  (∀ (l h : BitVec 2) (s : State),
    exec (.coldReset l h) s = .next
      { State.reset with
        lrate := l, hrate := h, pins := { s.pins with lrate := l, hrate := h }, free := s.free, pending := s.pending
        host := { State.reset.host with
          tx := s.host.tx.map fun x => ⟨x.bytes.take (x.progress / 10000000 + 1), false, x.progress⟩ } }) ∧
  (∀ (tag : Byte) (s : State), HostFree s →
    exec (.restartCold tag [0]) s = .next
      { State.reset with
        lrate := s.pins.lrate, hrate := s.pins.hrate, pins := s.pins, free := s.free, pending := s.pending
        host := { State.reset.host with
          tx := s.host.tx.map fun x => ⟨x.bytes.take (x.progress / 10000000 + 1), false, x.progress⟩ } }) ∧
  (∀ (v : Bool) (s : State),
    ∃ t, exec (.hostReady v) s = .next t ∧ t.pins = { s.pins with hostReady := v } ∧ Only [.pins] s t) ∧
  State.reset.part = .config ∧ State.reset.now = 0 ∧ State.reset.tStuck = 10000 ∧ State.reset.rwt = 30000 ∧
  (∀ p : Fin 12, State.reset.points[p].track = none ∧ State.reset.points[p].inService = false ∧
    State.reset.points[p].position = 0 ∧ State.reset.points[p].spacing = 1500 ∧ State.reset.points[p].seq = .idle) ∧
  (∀ i : Fin 10, State.reset.sections[i].track = none ∧ State.reset.sections[i].state = none) ∧
  (∀ k : Fin 4, State.reset.slots[k] = ⟨44444, 5000, 0, none⟩) ∧
  State.reset.seq.state = none ∧
  [State.reset.seq.tAmber, State.reset.seq.tPrelower, State.reset.seq.tExitDelay, State.reset.seq.tMinOpen,
    State.reset.seq.tLong] = [3000, 4000, 0, 5000, 300000] ∧
  State.reset.lamps.flash = ⟨1000, 450, 50, 450, 50, 60⟩ ∧ State.reset.lamps.startUp = some ⟨true, 0⟩ ∧
  (∀ c : Fin 10, State.reset.lamps.lamps[c].enabled = false) ∧
  (∀ b : Fin 4, State.reset.barriers[b].configured = false ∧ State.reset.barriers[b].holdOut = false ∧
    State.reset.barriers[b].raiseOut = false) ∧
  State.reset.faults.mode = none ∧ State.reset.faults.latch = false ∧
  (∀ i : Fin 32, State.reset.faults.table[i].record = none) ∧
  State.reset.line.own = none ∧ State.reset.line.link = .down ∧
  [State.reset.line.beaconMs, State.reset.line.tHealth, State.reset.line.tRepeat] = [2000, 60, 30] ∧
  State.reset.memory.layout = ⟨64, 32, 32⟩ ∧ State.reset.memory.nextSeq = 0 ∧ State.reset.memory.nextPassage = 0 ∧
  (∀ i : Fin 32, State.reset.counters[i].value = 0) ∧ State.reset.host.hnq = [] ∧ State.reset.host.tx = none

/-! ### Taking host requests -/

/-- R195, R194: every host frame with a good check code receives exactly one reply, RESTART COLD and the overrun apart. A
frame that finds a reply waiting joins the end of the collided list with COLLIDED, or is discarded and counted when the
list holds its 8 entries; one that finds a warm restart pending joins with BUSY; every other has its reply placed in the
reply buffer. What waits already is left as it stands. A RESTART COLD leaves the port as a cold reset does: empty, and a
frame being sent cut off after the byte in progress (R204, log entry 11). -/
def Obligations.EveryRequestFrameIsAnsweredOnce : Prop :=
  ∀ (c : Instr) (kind tag : Byte) (payload : List Byte) (s : State),
    frameOf c = some (kind, tag, payload) → payload.length ≤ 248 →
    ∃ t, exec c s = .next t ∧
      (s.host.replyWaits = true → 8 ≤ s.host.collided.length →
        t.host.reply = s.host.reply ∧ t.host.collided = s.host.collided ∧
        t.counters[(24 : Fin 32)] = s.counters[(24 : Fin 32)].bumped ∧ Only [.counters, .notices, .port] s t) ∧
      (s.host.replyWaits = true → s.host.collided.length < 8 →
        t.host.reply = s.host.reply ∧ t.host.collided = s.host.collided ++ [⟨kind, tag, .collided⟩] ∧
        Only [.port] s t) ∧
      (s.host.replyWaits = false → s.host.warmPending = true →
        t.host.reply = none ∧ t.host.collided = [⟨kind, tag, .busy⟩] ∧ Only [.port] s t) ∧
      (HostFree s →
        if kind = 0x1F ∧ payload = [0] then
          t.part = .config ∧
          t.host = { HostPort.cold with
            tx := s.host.tx.map fun x => ⟨x.bytes.take (x.progress / 10000000 + 1), false, x.progress⟩ }
        else
          t.host.collided = [] ∧ t.host.tx = s.host.tx ∧
            ∃ first rest w, t.host.reply = some ⟨kind + 0x80, tag, first :: rest, w⟩)

/-- R195 steps 3 to 5: a KIND that names no request (HOST_UNKNOWN_KIND) is answered UNKNOWN_KIND, then a length that does
not fit BAD_LENGTH, then a request its part state forbids WRONG_STATE. A request refused so changes nothing. -/
def Obligations.RequestTestsAreTakenInOrder : Prop :=
  (∀ (c : Instr) (kind tag : Byte) (payload : List Byte) (s : State),
    frameOf c = some (kind, tag, payload) → payload.length ≤ 248 → HostFree s →
    (kind ∉ requestKinds → Refuses c kind tag .unknownKind s) ∧
    (kind ∈ requestKinds → ¬FitsKind kind payload → Refuses c kind tag .badLength s) ∧
    (FitsKind kind payload → StateForbids kind s.part → Refuses c kind tag .wrongState s)) ∧
  (∀ (kind tag : Byte) (payload : List Byte) (s : State), kind ∉ requestKinds → payload.length ≤ 248 → HostFree s →
    Refuses (.hostUnknownKind kind tag payload) kind tag .unknownKind s)

/-- R192, R193, R194: a frame whose LEN is out of range, whose check code does not match, that a framing error or a gap
cuts short, or that overruns the collided list is discarded and counted once in HOST_FRAMES_BAD; the receiver is then in
HUNT. The bytes of a discarded frame after its START are scanned again as if they arrived afresh, so that a START among them
begins a frame; a byte in HUNT that is no START is passed over, and a good frame is taken as a request (R193, R195). -/
def Obligations.BadHostFramesAreCounted : Prop :=
  (∀ (c : Instr) (bytes : List Byte) (s : State),
    ((c = .hostFrameDiscarded bytes false ∧ s.host.assembly = [] ∧
        ((∃ len : Byte, bytes = [0x5A, len] ∧ (len.toNat < 2 ∨ 250 < len.toNat)) ∨
          (∃ (len : Byte) (body : List Byte), bytes = 0x5A :: len :: body ∧ 2 ≤ len.toNat ∧ len.toNat ≤ 250 ∧
            body.length = len.toNat + 2 ∧ (0x5A : Byte) ∉ len :: body ∧
            crcBytes (len :: body.take len.toNat) ≠ body.drop len.toNat))) ∨
      ((c = .hostFrameDiscarded bytes true ∨ c = .hostGap bytes) ∧ PartialFrame (s.host.assembly ++ bytes))) →
    ∃ t, exec c s = .next t ∧ t.counters[(24 : Fin 32)] = s.counters[(24 : Fin 32)].bumped ∧
      (∀ i : Fin 32, i ≠ 24 → t.counters[i] = s.counters[i]) ∧ t.host.assembly = [] ∧ t.host.reply = s.host.reply ∧
      t.host.collided = s.host.collided ∧ Only [.counters, .notices, .port] s t) ∧
  (∀ (kind tag : Byte) (payload : List Byte) (s : State), payload.length ≤ 248 → s.host.replyWaits = true →
    8 ≤ s.host.collided.length →
    ∃ t, exec (.hostOverrun kind tag payload) s = .next t ∧
      t.counters[(24 : Fin 32)] = s.counters[(24 : Fin 32)].bumped ∧ t.host.reply = s.host.reply ∧
      t.host.collided = s.host.collided ∧ Only [.counters, .notices, .port] s t) ∧
  (∀ (len : Byte) (body : List Byte) (err : Bool) (s : State), s.host.assembly = [] →
    (len.toNat < 2 ∨ 250 < len.toNat ∨
      (len.toNat + 2 ≤ body.length ∧
        crcBytes (len :: body.take len.toNat) ≠ (body.drop len.toNat).take 2)) →
    ∃ v, exec (.hostFrameDiscarded (0x5A :: len :: body) err) s = exec (.hostFrameDiscarded (len :: body) err) v ∧
      exec (.hostGap (0x5A :: len :: body)) s = exec (.hostGap (len :: body)) v ∧
      v.counters[(24 : Fin 32)] = s.counters[(24 : Fin 32)].bumped ∧
      (∀ i : Fin 32, i ≠ 24 → v.counters[i] = s.counters[i]) ∧ Only [.counters, .notices] s v) ∧
  (∀ (b : Byte) (rest : List Byte) (err : Bool) (s : State), s.host.assembly = [] → b ≠ 0x5A →
    exec (.hostFrameDiscarded (b :: rest) err) s = exec (.hostFrameDiscarded rest err) s ∧
    exec (.hostGap (b :: rest)) s = exec (.hostGap rest) s) ∧
  (∀ (kind tag : Byte) (payload : List Byte) (s : State), payload.length ≤ 248 → s.host.assembly = [] →
    exec (.hostFrameDiscarded (hostFrame kind tag payload) false) s = exec (.hostUnknownKind kind tag payload) s)

/-- R191, R192, R206 and R140, R145, R153: the frame that the host transmitter forms is the frame that the host receiver reads,
byte for byte, and every line frame, those of the part among them, is the frame that the line receiver reads; no part of
either before its last byte or character makes a frame or is discarded. R206: the check code is the remainder of 1021h from
FFFFh over the bits of the bytes, most significant first, sent high byte first: 29B1h over 123456789. -/
def Obligations.FramesSurviveTheirCheckCode : Prop :=
  (∀ (kind tag : Byte) (payload : List Byte), payload.length ≤ 248 →
    scanHost (hostFrame kind tag payload).length (hostFrame kind tag payload) = ([.frame kind tag payload], []) ∧
    ∀ n, n < (hostFrame kind tag payload).length →
      scanHost n ((hostFrame kind tag payload).take n) = ([], (hostFrame kind tag payload).take n)) ∧
  (∀ (h : LineHead) (kind : Byte) (payload : List Byte), payload.length ≤ 24 →
    judgeChars (lineChars h kind payload) = .frame h kind payload ∧
    ∀ n, n < (lineChars h kind payload).length → judgeChars ((lineChars h kind payload).take n) = .more) ∧
  (∀ (cls : LineClass) (own : BitVec 6) (kind : Byte) (payload : List Byte), payload.length ≤ 24 →
    judgeChars (frameChars cls own kind payload) = .frame ⟨BitVec.ofNat 2 cls.code, own, 0⟩ kind payload ∧
    ∀ n, n < (frameChars cls own kind payload).length → judgeChars ((frameChars cls own kind payload).take n) = .more) ∧
  (∀ l : List Byte,
    let c := (messageBits l).foldl checkBit 0xFFFF
    crcBytes l = [c.extractLsb' 8 8, c.extractLsb' 0 8]) ∧
  crcBytes [0x31, 0x32, 0x33, 0x34, 0x35, 0x36, 0x37, 0x38, 0x39] = [0x29, 0xB1]

/-! ### Configuration -/

/-- R1: CONFIG_POINT sets a point's track, position and head spacing when every value lies in its range, and is refused
whole otherwise. -/
def Obligations.ConfigPointSetsThePoint : Prop :=
  ∀ (p t d : Nat) (x : Int) (tag : Byte) (s : State),
    p < 256 → t < 256 → d < 65536 → -2147483648 ≤ x → x < 2147483648 → s.part = .config → HostFree s →
    let c := Instr.configPoint tag ([byte p, byte t] ++ be32 (BitVec.ofInt 32 x).toNat ++ be16 d)
    if p < 12 ∧ t ≤ 2 ∧ -5000000 ≤ x ∧ x ≤ 5000000 ∧ 200 ≤ d ∧ d ≤ 2500 then
      ∃ u, Accepts c 0x10 tag [] [.points, .config] s u ∧
        ∀ q : Fin 12, u.points[q] =
          if q.val = p then { s.points[q] with track := trackOfCode t, position := x, spacing := d } else s.points[q]
    else Refuses c 0x10 tag .outOfRange s

/-- R20: CONFIG_SECTION sets an entry's track, end points and role, and nothing live of it. -/
def Obligations.ConfigSectionSetsTheSection : Prop :=
  ∀ (i t a b r : Nat) (tag : Byte) (s : State),
    i < 256 → t < 256 → a < 256 → b < 256 → r < 256 → s.part = .config → HostFree s →
    let c := Instr.configSection tag [byte i, byte t, byte a, byte b, byte r]
    if i < 10 ∧ t ≤ 2 ∧ a < 12 ∧ b < 12 ∧ r ≤ 1 then
      ∃ u, Accepts c 0x11 tag [] [.sections, .config] s u ∧
        ∀ j : Fin 10,
          if j.val = i then
            u.sections[j].track = trackOfCode t ∧ u.sections[j].aEnd.val = a ∧ u.sections[j].bEnd.val = b ∧
            u.sections[j].role = (if r = 0 then .approach else .island) ∧ u.sections[j].state = s.sections[j].state ∧
            u.sections[j].count = s.sections[j].count ∧ u.sections[j].sweep = s.sections[j].sweep
          else u.sections[j] = s.sections[j]
    else Refuses c 0x11 tag .outOfRange s

/-- R40: CONFIG_TRACK sets v_line, v_floor and a of the slot of a track and direction. -/
def Obligations.ConfigTrackSetsTheSlot : Prop :=
  ∀ (t d line floor acc : Nat) (tag : Byte) (s : State),
    t < 256 → d < 256 → line < 4294967296 → floor < 4294967296 → acc < 65536 → s.part = .config → HostFree s →
    let c := Instr.configTrack tag ([byte t, byte d] ++ be32 line ++ be32 floor ++ be16 acc)
    if (t = 1 ∨ t = 2) ∧ d ≤ 1 ∧ 2000 ≤ line ∧ line ≤ 70000 ∧ 500 ≤ floor ∧ floor ≤ 70000 ∧ acc ≤ 1500 then
      ∃ u, Accepts c 0x12 tag [] [.slots, .config] s u ∧
        ∀ k : Fin 4, u.slots[k] =
          if k.val = 2 * (t - 1) + d then { s.slots[k] with vLine := line, vFloor := floor, accel := acc }
          else s.slots[k]
    else Refuses c 0x12 tag .outOfRange s

/-- R2, R41, R63: CONFIG_TIMING sets T_stuck, RWT and the Sequencer's five times together. -/
def Obligations.ConfigTimingSetsTheTimes : Prop :=
  ∀ (stuck rwt amber prelower exitDelay minOpen long : Nat) (tag : Byte) (s : State),
    stuck < 65536 → rwt < 4294967296 → amber < 65536 → prelower < 65536 → exitDelay < 65536 → minOpen < 65536 →
    long < 4294967296 → s.part = .config → HostFree s →
    let c := Instr.configTiming tag
      (be16 stuck ++ be32 rwt ++ be16 amber ++ be16 prelower ++ be16 exitDelay ++ be16 minOpen ++ be32 long)
    if (2000 ≤ stuck ∧ stuck ≤ 30000) ∧ (15000 ≤ rwt ∧ rwt ≤ 90000) ∧ (2000 ≤ amber ∧ amber ≤ 6000) ∧
        (2000 ≤ prelower ∧ prelower ≤ 10000) ∧ (exitDelay = 0 ∨ (2000 ≤ exitDelay ∧ exitDelay ≤ 15000)) ∧
        minOpen ≤ 30000 ∧ (60000 ≤ long ∧ long ≤ 900000) then
      ∃ u, Accepts c 0x13 tag [] [.seq, .times, .config] s u ∧ u.tStuck = stuck ∧ u.rwt = rwt ∧
        u.seq = { s.seq with
          tAmber := amber, tPrelower := prelower, tExitDelay := exitDelay, tMinOpen := minOpen, tLong := long }
    else Refuses c 0x13 tag .outOfRange s

/-- R88: CONFIG_FLASH sets the cycle, its four parts and t_settle. R87: CONFIG_LAMP sets a channel's enable and limits,
and is refused when I_min is not less than I_max. -/
def Obligations.ConfigFlashAndLampSetTheLights : Prop :=
  (∀ (p l g r h settle : Nat) (tag : Byte) (s : State),
    p < 65536 → l < 65536 → g < 65536 → r < 65536 → h < 65536 → settle < 65536 → s.part = .config → HostFree s →
    let c := Instr.configFlash tag (be16 p ++ be16 l ++ be16 g ++ be16 r ++ be16 h ++ be16 settle)
    if (800 ≤ p ∧ p ≤ 1500) ∧ (250 ≤ l ∧ l ≤ 1500) ∧ g ≤ 100 ∧ (250 ≤ r ∧ r ≤ 1500) ∧ h ≤ 100 ∧
        (20 ≤ settle ∧ settle ≤ 150) then
      ∃ u, Accepts c 0x14 tag [] [.lamps, .config] s u ∧ u.lamps = { s.lamps with flash := ⟨p, l, g, r, h, settle⟩ }
    else Refuses c 0x14 tag .outOfRange s) ∧
  (∀ (n e iMin iMax iOff : Nat) (tag : Byte) (s : State),
    n < 256 → e < 256 → iMin < 65536 → iMax < 65536 → iOff < 65536 → s.part = .config → HostFree s →
    let c := Instr.configLamp tag ([byte n, byte e] ++ be16 iMin ++ be16 iMax ++ be16 iOff)
    if n < 10 ∧ e ≤ 1 ∧ 50 ≤ iMin ∧ iMin < iMax ∧ iMax ≤ 3000 ∧ 10 ≤ iOff ∧ iOff ≤ 200 then
      ∃ u, Accepts c 0x15 tag [] [.lamps, .config] s u ∧
        (∀ k : Fin 10, u.lamps.lamps[k] =
          if k.val = n then { s.lamps.lamps[k] with enabled := decide (e = 1), iMin := iMin, iMax := iMax, iOff := iOff }
          else s.lamps.lamps[k]) ∧
        u.lamps.flash = s.lamps.flash ∧ u.lamps.gen = s.lamps.gen ∧ u.lamps.startUp = s.lamps.startUp ∧
        u.lamps.test = s.lamps.test
    else Refuses c 0x15 tag .outOfRange s)

/-- R103: CONFIG_BARRIER sets a channel's configured flag, role, road side and six limits. -/
def Obligations.ConfigBarrierSetsTheChannel : Prop :=
  ∀ (n g r x a b d e f h : Nat) (tag : Byte) (s : State),
    n < 256 → g < 256 → r < 256 → x < 256 → a < 65536 → b < 65536 → d < 65536 → e < 65536 → f < 65536 → h < 65536 →
    s.part = .config → HostFree s →
    let c := Instr.configBarrier tag
      ([byte n, byte g, byte r, byte x] ++ be16 a ++ be16 b ++ be16 d ++ be16 e ++ be16 f ++ be16 h)
    if n < 4 ∧ g ≤ 1 ∧ r ≤ 1 ∧ x ≤ 1 ∧
        (200 ≤ a ∧ a ≤ 3000 ∧ 2000 ≤ b ∧ b ≤ 15000 ∧ 3000 ≤ d ∧ d ≤ 18000) ∧
        (200 ≤ e ∧ e ≤ 3000 ∧ 2000 ≤ f ∧ f ≤ 15000 ∧ 3000 ≤ h ∧ h ≤ 18000) then
      ∃ u, Accepts c 0x16 tag [] [.barriers, .config] s u ∧
        ∀ k : Fin 4, u.barriers[k] =
          if k.val = n then
            { s.barriers[k] with
              configured := decide (g = 1)
              role := if r = 0 then .entry else .exit
              side := if x = 0 then .a else .b
              lower := ⟨a, b, d⟩
              raise := ⟨e, f, h⟩ }
          else s.barriers[k]
    else Refuses c 0x16 tag .outOfRange s

/-- R142: CONFIG_LINK sets the own address, the group table and the three intervals. R176: CONFIG_MEMORY sets the
configured counts and not the layout in use. -/
def Obligations.ConfigLinkAndMemorySetTheirValues : Prop :=
  (∀ (o g0 g1 g2 g3 b h r : Nat) (tag : Byte) (s : State),
    o < 256 → g0 < 256 → g1 < 256 → g2 < 256 → g3 < 256 → b < 65536 → h < 65536 → r < 65536 → s.part = .config →
    HostFree s →
    let c := Instr.configLink tag ([byte o, byte g0, byte g1, byte g2, byte g3] ++ be16 b ++ be16 h ++ be16 r)
    if (1 ≤ o ∧ o ≤ 47) ∧ GroupOk g0 ∧ GroupOk g1 ∧ GroupOk g2 ∧ GroupOk g3 ∧ (1000 ≤ b ∧ b ≤ 10000) ∧
        (10 ≤ h ∧ h ≤ 300) ∧ (10 ≤ r ∧ r ≤ 600) then
      ∃ u, Accepts c 0x17 tag [] [.line, .config] s u ∧
        u.line = { s.line with
          own := some (BitVec.ofNat 6 o)
          groups := #v[groupOfCode g0, groupOfCode g1, groupOfCode g2, groupOfCode g3]
          beaconMs := b, tHealth := h, tRepeat := r }
    else Refuses c 0x17 tag .outOfRange s) ∧
  (∀ (l p h : Nat) (tag : Byte) (s : State), l < 256 → p < 256 → h < 256 → s.part = .config → HostFree s →
    let c := Instr.configMemory tag [byte l, byte p, byte h]
    if l ≤ 128 ∧ p ≤ 128 ∧ h ≤ 128 then
      ∃ u, Accepts c 0x18 tag [] [.counts, .config] s u ∧ u.memory = { s.memory with configured := ⟨l, p, h⟩ }
    else Refuses c 0x18 tag .outOfRange s)

/-! ### Start of service -/

/-- R202, R203 and the starts of R17, R36, R61, R85, R102, R139, R159: a COMMIT that passes every check takes the part to
RUN with the configured layout: the points with a track in service, every section in use DISTURBED with count 0, no train
record, the road CLOSED with the hold set empty and the reds flashing, the table's mode FAILED with the latch set, the link
DOWN. The configuration, the clock and the passage store are as they were. -/
def Obligations.CommitStartsService : Prop :=
  ∀ (tag : Byte) (s : State), s.part = .config → HostFree s → commitFailure s = none →
    ∃ t, exec (.commit tag []) s = .next t ∧ Replied 0x1E tag [0] s t ∧ t.part = .run ∧
      t.memory.layout = s.memory.configured ∧ t.seq.state = some .closed ∧ t.seq.entry = s.now ∧
      t.seq.closureStart = s.now ∧ t.seq.counted = false ∧ t.seq.holdSignaller = false ∧ t.seq.holdLocal = false ∧
      t.faults.mode = some .failed ∧ t.faults.latch = true ∧
      (∀ p : Fin 12, t.points[p].inService = s.points[p].track.isSome) ∧
      (∀ i : Fin 10, s.sections[i].track.isSome = true →
        t.sections[i].state = some .disturbed ∧ t.sections[i].count = 0 ∧ t.sections[i].sweep = false) ∧
      (∀ k : Fin 4, t.slots[k].record = none) ∧
      t.line.link = .down ∧ t.line.rx = .skipping ∧ t.line.inFlight = none ∧ t.lamps.startUp = none ∧
      t.lamps.gen = some ⟨.lOn, s.now⟩ ∧
      (∀ b : Fin 4, s.barriers[b].configured = true →
        t.barriers[b].state =
          if s.pins.contacts[b].snd then (if s.pins.contacts[b].fst then some .fault else some .down)
          else some .lowering) ∧
      Only [.part, .points, .sections, .slots, .seq, .holds, .lamps, .barriers, .faults, .supply, .link, .line, .reports,
        .log, .layout, .counters, .port, .notices, .free] s t

/-- R202, with R21, R40, R41, R63, R87, R88, R103, R142 and R176: a COMMIT is refused INVALID_CONFIG with the number of the
first check that fails and the lowest index at fault under that check, and changes nothing. Which of the islands of a track,
and which of the sections that join one pair, is at fault is log entry 14's reading. -/
def Obligations.CommitFailsAtTheFirstFailingCheck : Prop :=
  (∀ (n i : Nat) (tag : Byte) (s : State), s.part = .config → HostFree s → commitFailure s = some (n, i) →
    ∃ t, exec (.commit tag []) s = .next t ∧ Replied 0x1E tag [7, byte n, byte i] s t ∧ Only [.port] s t) ∧
  (∀ (n i : Nat) (s : State), commitFailure s = some (n, i) ↔
    ∃ f, (n, f) ∈ commitChecks ∧ f s = some i ∧ ∀ m g, (m, g) ∈ commitChecks → m < n → g s = none) ∧
  (∀ s : State,
    Lowest [(0, ∀ p : Fin 12, s.points[p].track = none), (1, PointsBad s .one), (2, PointsBad s .two)] (check1 s) ∧
    Lowest (allSections.map (fun i => (i.val, IslandBad s i)) ++ [(129, NoIsland s .one), (130, NoIsland s .two)])
      (check2 s) ∧
    Lowest (allSections.map (fun i => (i.val, SectionBad s i)) ++ [(129, PairUnjoined s .one), (130, PairUnjoined s .two)])
      (check3 s) ∧
    Lowest (allSlots.map fun k => (k.val, HasPoints s (trackOfSlot k) ∧ s.slots[k].vLine < s.slots[k].vFloor)) (check4 s) ∧
    Lowest [(0, s.rwt < s.seq.tAmber + s.seq.tPrelower ∨
      ∃ b : Fin 4, s.barriers[b].configured = true ∧ s.barriers[b].role = .entry ∧
        s.rwt < s.seq.tAmber + s.seq.tPrelower + s.barriers[b].lower.total)] (check5 s) ∧
    Lowest [
      (0, s.lamps.flash.lOn + s.lamps.flash.g1 + s.lamps.flash.rOn + s.lamps.flash.g2 ≠ s.lamps.flash.period),
      (1, ¬(s.lamps.flash.settle + 50 < s.lamps.flash.lOn ∧ s.lamps.flash.settle + 50 < s.lamps.flash.rOn))] (check6 s) ∧
    Lowest [(0, LacksReds s .a [1, 3] [2, 4]), (1, LacksReds s .b [6, 8] [7, 9])] (check7 s) ∧
    Lowest (allBarriers.map (fun b => (b.val, s.barriers[b].configured = true ∧
        ¬(LimitsFit s.barriers[b].lower ∧ LimitsFit s.barriers[b].raise))) ++
      [(4, ¬(s.seq.tExitDelay = 0 ↔
        ∀ b : Fin 4, s.barriers[b].configured = true → s.barriers[b].role ≠ .exit))]) (check8 s) ∧
    Lowest [(0, ¬∃ a, s.line.own = some a ∧ 1 ≤ a.toNat ∧ a.toNat ≤ 47)] (check9 s) ∧
    Lowest [(0, s.memory.configured.log < 8), (1, s.memory.configured.passage < 4), (2, s.memory.configured.hnq < 4),
      (3, 128 < s.memory.configured.log + s.memory.configured.passage + s.memory.configured.hnq)] (check10 s))

/-- R198, R205 and section 11.4: in RUN a RESTART WARM is answered OK and leaves a warm restart pending until its reply has
gone; in CONFIG it is refused WRONG_STATE; a mode that is neither COLD nor WARM is refused OUT_OF_RANGE in either part
state (log entry 17 for its record in RUN). -/
def Obligations.RestartWarmIsAcceptedInRun : Prop :=
  (∀ (tag : Byte) (s : State), s.part = .run → HostFree s →
    ∃ t, exec (.restartWarm tag [1]) s = .next t ∧ t.host.reply = some ⟨0x9F, tag, [0], true⟩ ∧
      t.host.warmPending = true ∧ t.host.collided = [] ∧ t.host.tx = s.host.tx ∧
      Wrote .hostCmd 0 [0x1F, 0, 1] s t ∧ Only [.port, .log, .notices] s t) ∧
  (∀ (tag : Byte) (s : State), s.part = .config → HostFree s →
    Refuses (.restartWarm tag [1]) 0x1F tag .wrongState s) ∧
  (∀ (tag mode : Byte) (s : State), 2 ≤ mode.toNat → HostFree s →
    ∃ t, exec (.restartWarm tag [mode]) s = .next t ∧ Replied 0x1F tag [3] s t ∧ Only [.port, .log, .notices] s t ∧
      (s.part = .config → Only [.port] s t))

/-- R191, R196, R200: the transmitter takes the reply buffer before the collided list and the list before the oldest
notice; the item leaves its source as its frame begins. R199, R200: a notice joins the end of the queue while the pending
set is empty and its LEN + 4 bytes are free of the 64 × H, and otherwise its kind joins the pending set, once. R205: the
completion of the reply to a RESTART WARM makes the restart take effect: everything configured and counted is kept, the
passages too, and service starts as at commit. -/
def Obligations.HostTransmitterServesRepliesFirst : Prop :=
  (∀ (n : Notice) (s : State),
    let free := 64 * s.memory.layout.hnq - (s.host.hnq.map fun m => m.payload.length + 6).sum
    (s.host.pendingKinds = [] → n.payload.length + 6 ≤ free →
      queueNotice n s = { s with host := { s.host with hnq := s.host.hnq ++ [n] } }) ∧
    (s.host.pendingKinds ≠ [] ∨ free < n.payload.length + 6 →
      queueNotice n s = { s with host := { s.host with
        pendingKinds :=
          if n.kind ∈ s.host.pendingKinds then s.host.pendingKinds else s.host.pendingKinds ++ [n.kind] } })) ∧
  (∀ (r : ReplyFrame) (s : State), s.host.tx = none → s.pins.hostReady = true → s.host.reply = some r →
    exec .hostTxStart s = .next { s with
      host := { s.host with reply := none, tx := some ⟨hostFrame r.kind r.tag r.payload, r.warm, 0⟩ } }) ∧
  (∀ (e : CollidedEntry) (es : List CollidedEntry) (s : State), s.host.tx = none → s.pins.hostReady = true →
    s.host.reply = none → s.host.collided = e :: es →
    exec .hostTxStart s = .next { s with
      host := { s.host with
        collided := es, tx := some ⟨hostFrame (e.kind + 0x80) e.tag [byte e.result.code], false, 0⟩ } }) ∧
  (∀ (n : Notice) (ns : List Notice) (s : State), s.host.tx = none → s.pins.hostReady = true → s.host.reply = none →
    s.host.collided = [] → s.host.hnq = n :: ns →
    ∃ t, exec .hostTxStart s = .next t ∧ t.host.tx = some ⟨hostFrame (byte n.kind.code) 0 n.payload, false, 0⟩ ∧
      (if s.host.pendingKinds ≠ [] ∧ 32 * s.memory.layout.hnq ≤ 64 * s.memory.layout.hnq - hnqUsed ns then
        t.host.hnq = ns ++ [⟨.resync, [resyncByte s.host.pendingKinds]⟩] ∧ t.host.pendingKinds = []
      else t.host.hnq = ns ∧ t.host.pendingKinds = s.host.pendingKinds) ∧
      Only [.port, .notices] s t) ∧
  (∀ (x : Sending) (s : State), s.host.tx = some x → 10000000 * x.bytes.length ≤ x.progress → x.warm = false →
    exec .hostTxDone s = .next { s with host := { s.host with tx := none } }) ∧
  (∀ (x : Sending) (s : State), s.host.tx = some x → 10000000 * x.bytes.length ≤ x.progress → x.warm = true →
    s.part = .run →
    ∃ t, exec .hostTxDone s = .next t ∧ t.host.tx = none ∧ t.host.warmPending = false ∧ t.seq.state = some .closed ∧
      t.faults.mode = some .failed ∧ t.faults.latch = true ∧ t.line.link = .down ∧
      (∀ k : Fin 4, t.slots[k].record = none) ∧
      (∀ i : Fin 10, s.sections[i].track.isSome = true → t.sections[i].state = some .disturbed) ∧
      (∀ i : Fin 32, i ≠ 19 → t.counters[i].value = s.counters[i].value) ∧
      Only [.points, .sections, .slots, .seq, .holds, .lamps, .barriers, .faults, .supply, .link, .line, .reports, .log,
        .counters, .port, .notices, .free] s t)

/-! ### Reads -/

/-- The reply to READ_STATE is 170 bytes laid out as ch. 12.2 says: the Sequencer (R83), the points (R18), the lamps
(R101), the barriers (R119), the Line Controller (R157) and the Report Scheduler (R174), each byte of it. A bit the table
neither names nor marks zero is 0 by log entry 25. Bytes 148, 149, 168 and 169 show a frame asked for whose start bit has not
begun as in flight, with the KIND and the entries of its first building: that is the model's choice of log entry 26, since R157
and R174 do not speak of that time and R170 fixes the frame at the start bit of HEAD. Bytes 142 to 145 of a SYNC of 2^32 ms
and more show its time modulo 2^32, which is the model's choice of log entry 27. -/
def Obligations.ReadStateRepliesWithTheWholeState : Prop :=
  ∀ (tag : Byte) (s : State), s.part = .run → HostFree s →
    ∃ t extra, Accepts (.readState tag []) 0x20 tag extra [] s t ∧
      let r := 0 :: extra
      r.length = 170 ∧
      (r.drop 1).take 3 =
        [codeOrFF (s.seq.state.map SeqState.code), codeOrFF (s.faults.mode.map Mode.code),
          byte (flag s.faults.latch + 2 * flag s.seq.holdSignaller + 4 * flag s.seq.holdLocal +
            8 * flag s.seq.longFlag + 16 * flag s.seq.exitMark.isSome)] ∧
      (r.drop 4).take 12 = timeBytes s.seq.entry ++ timeBytes s.seq.closureStart ++ timeOrZero s.seq.exitMark ∧
      (∀ p : Fin 12, (r.drop (16 + 2 * p.val)).take 2 =
        [byte (128 * flag s.points[p].inService + 64 * flag s.points[p].accA + 32 * flag s.points[p].accB +
            16 * flag s.points[p].headFault), byte s.points[p].seq.code]) ∧
      (r.drop 40).take 3 =
        [match s.lamps.gen with
          | some g => byte (128 + match g.part with | .lOn => 0 | .g1 => 1 | .rOn => 2 | .g2 => 3)
          | none => 0,
          match s.lamps.test with
          | some x => byte (128 + x.channel.val)
          | none => 0,
          byte (flag (decide (DarkSide s [1, 3] [2, 4])) + 2 * flag (decide (DarkSide s [6, 8] [7, 9])))] ∧
      (∀ c : Fin 10, (r.drop (43 + 5 * c.val)).take 5 =
        [byte (flag s.lamps.lamps[c].enabled + 2 * flag s.lamps.lamps[c].lit + 4 * flag s.lamps.lamps[c].failed +
            8 * flag s.lamps.lamps[c].stuckOn), byte s.lamps.lamps[c].bad, byte s.lamps.lamps[c].good] ++
          be16 (s.lamps.lamps[c].current.getD 65535)) ∧
      (∀ b : Fin 4, (r.drop (93 + 12 * b.val)).take 12 =
        if s.barriers[b].configured then
          [byte (1 + 2 * s.barriers[b].role.code + 4 * s.barriers[b].side.code + 8 * flag s.barriers[b].holdOut +
              16 * flag s.barriers[b].raiseOut + 32 * flag s.barriers[b].up.accepted +
              64 * flag s.barriers[b].down.accepted + 128 * flag s.barriers[b].disturbed),
            codeOrFF (s.barriers[b].state.map BarrierState.code), codeOrFF (s.barriers[b].phase.map MotionPhase.code),
            byte s.barriers[b].detail] ++
          be32 (msSince s.now s.barriers[b].motionStart) ++ be32 (msSince s.now s.barriers[b].phaseStart)
        else [0, 0xFF, 0xFF, 0, 0, 0, 0, 0, 0, 0, 0, 0]) ∧
      (r.drop 141).take 5 = byte s.line.link.code :: be32
        (match s.line.link with
          | .sync => msSince s.now s.line.firstBeacon
          | .active => msSince s.now s.line.lastBeacon
          | _ => 0) ∧
      (r.drop 146).take 6 =
        [match s.line.rx with | .idle => 0 | .assembling => 1 | .skipping => 2,
          match s.line.wait with
          | some c => byte (128 + c.code)
          | none => 0,
          match s.line.inFlight with
          | some f => byte (128 + f.cls.code)
          | none => 0,
          match s.line.inFlight with
          | some f => f.kind
          | none => 0xFF,
          byte (flag s.line.raisedAlarm + 2 * flag s.line.raisedState + 4 * flag s.line.raisedRoutine),
          match s.line.own with
          | some a => byte a.toNat
          | none => 0] ∧
      (∀ g : Fin 4, (r.drop (152 + g.val)).take 1 =
        [match s.line.groups[g] with
          | some a => byte a.toNat
          | none => 0]) ∧
      (r.drop 156).take 2 = be16 s.line.beaconMs ∧
      (r.drop 158).take 3 =
        (match s.reports.confirm with
          | some c => [c.kind, byte c.result.code]
          | none => [0xFF, 0xFF]) ++ [byte (flag s.reports.stateMark + 2 * flag s.reports.healthMark)] ∧
      (r.drop 161).take 4 = be32
        (match s.reports.healthTimer with
          | some e => if atOrBefore e s.now then 0 else elapsed e s.now
          | none => 4294967295) ∧
      (r.drop 165).take 3 =
        ([FaultClass.severe, FaultClass.minor, FaultClass.notice].map fun c =>
          byte (allFaultSlots.filter (dueIn s fun k => k == c)).length) ∧
      (r.drop 168).take 2 =
        match s.line.inFlight with
        | some f => [f.kind, if f.kind = 0x42 then byte (f.payload.length / 8) else 0]
        | none => [0xFF, 0]

/-- R197: IDENTIFY gives the part code, the revision, the straps and the part state; READ_TIME the crossing clock and the
part state; both in either part state. R37: READ_SECTIONS gives eight bytes for each of the ten entries. R62, R207:
READ_RECORDS gives the four slots' blocks in order, one byte 0 for an empty slot and 25 + 8k for a record of k predictions
(bits 3 and 2 of a block's byte 0: log entry 25). -/
def Obligations.IdentifyTimeSectionsAndRecordsReply : Prop :=
  (∀ (tag : Byte) (s : State), HostFree s →
    (∃ t, Accepts (.identify tag []) 0x01 tag
      [0x04, 0x18, 0x41, byte (s.lrate.toNat + 4 * s.hrate.toNat), byte s.part.code] [] s t) ∧
    (∃ t, Accepts (.readTime tag []) 0x02 tag
      [byte (s.now.toNat / 16777216), byte (s.now.toNat / 65536), byte (s.now.toNat / 256), byte s.now.toNat,
        byte s.part.code] [] s t)) ∧
  ∀ (tag : Byte) (s : State), s.part = .run → HostFree s →
    (∃ t extra, Accepts (.readSections tag []) 0x21 tag extra [] s t ∧ extra.length = 80 ∧
      ∀ i : Fin 10, (extra.drop (8 * i.val)).take 8 =
        match s.sections[i].track with
        | none => [0, 0, 0, 0, 0xFF, 0, 0, 0]
        | some t =>
          [byte t.code, byte s.sections[i].aEnd.val, byte s.sections[i].bEnd.val, byte s.sections[i].role.code,
            codeOrFF (s.sections[i].state.map SectionState.code), byte (s.sections[i].count / 256),
            byte s.sections[i].count, byte (flag s.sections[i].sweep)]) ∧
    (∃ t, Accepts (.readRecords tag []) 0x22 tag
      ((allSlots.map fun k => match s.slots[k].record with | none => [0] | some r => blockOf r).flatten) [] s t) ∧
    ∀ r : TrainRecord, (blockOf r).length = 25 + 8 * r.predictions.length

/-- R138: READ_FAULTS gives the mode, the latch, the active counts and the records of the occupied slots from the slot named
on, at most ten, each in 21 bytes (bits 7 to 1 of byte 16: log entry 25), then the slot after the last one returned, FFh when
no occupied slot follows; a slot above 31 is refused. -/
def Obligations.ReadFaultsReplies : Prop :=
  ∀ (first tag : Byte) (s : State), s.part = .run → HostFree s →
    if first.toNat ≤ 31 then
      let occ := allFaultSlots.filter fun i => decide (first.toNat ≤ i.val) && s.faults.table[i].record.isSome
      ∃ t, Accepts (.readFaults tag [first]) 0x23 tag
        ([codeOrFF (s.faults.mode.map Mode.code), byte (flag s.faults.latch), byte (s.faults.countActive .severe),
            byte (s.faults.countActive .minor), byte (s.faults.countActive .notice), byte (min 10 occ.length)] ++
          ((occ.take 10).map (faultRow s)).flatten ++
          [if 10 < occ.length then byte ((occ.getD 9 0).val + 1) else 0xFF]) [] s t
    else Refuses (.readFaults tag [first]) 0x23 tag .outOfRange s

/-- R189: READ_COUNTERS gives the value and flags of each counter named as they stood before the clear; a clear sets
exactly those to 0 with their flags clear. Bits 7 to 2 of the flags byte are 0 by log entry 25. R207 for the clear flag's
range. In CONFIG it is refused. -/
def Obligations.ReadCountersRepliesAndClears : Prop :=
  ∀ (first count clear tag : Byte) (s : State), HostFree s →
   (s.part = .config → Refuses (.readCounters tag [first, count, clear]) 0x24 tag .wrongState s) ∧
   (s.part = .run →
    if first.toNat ≤ 31 ∧ 1 ≤ count.toNat ∧ count.toNat ≤ 32 ∧ first.toNat + count.toNat ≤ 32 ∧ clear.toNat ≤ 1 then
      ∃ t extra,
        Accepts (.readCounters tag [first, count, clear]) 0x24 tag extra [.counters] s t ∧
        extra.length = 5 * count.toNat ∧
        ∀ i : Fin 32,
          if first.toNat ≤ i.val ∧ i.val < first.toNat + count.toNat then
            (extra.drop (5 * (i.val - first.toNat))).take 5 =
              be32 s.counters[i].value ++ [byte (flag s.counters[i].half + 2 * flag s.counters[i].full)] ∧
            t.counters[i] = (if clear = 1 then ⟨0, false, false⟩ else s.counters[i])
          else t.counters[i] = s.counters[i]
    else Refuses (.readCounters tag [first, count, clear]) 0x24 tag .outOfRange s)

/-- R181, R182: READ_LOG returns and removes the oldest records, and a removal that leaves fewer than 2 × L arms the level
flag. R185: READ_PASSAGE returns and removes the oldest passage records. Counts out of range are refused, and both requests
in CONFIG. -/
def Obligations.ReadLogAndPassageRemoveTheOldest : Prop :=
  (∀ (n tag : Byte) (s : State), s.part = .config → HostFree s →
    Refuses (.readLog tag [n]) 0x25 tag .wrongState s ∧ Refuses (.readPassage tag [n]) 0x26 tag .wrongState s) ∧
  (∀ (n tag : Byte) (s : State), s.part = .run → HostFree s →
    if 1 ≤ n.toNat ∧ n.toNat ≤ 12 then
      ∃ t extra, Accepts (.readLog tag [n]) 0x25 tag extra [.log] s t ∧
        t.memory.log = s.memory.log.drop n.toNat ∧ t.memory.nextSeq = s.memory.nextSeq ∧
        t.memory.armed = (s.memory.armed || decide (s.memory.log.length - n.toNat < 2 * s.memory.layout.log)) ∧
        extra = byte (min n.toNat s.memory.log.length) :: be16 (s.memory.log.length - n.toNat) ++
          be16 s.memory.nextSeq.toNat ++ ((s.memory.log.take n.toNat).map LogRecord.bytes).flatten
    else Refuses (.readLog tag [n]) 0x25 tag .outOfRange s) ∧
  (∀ (n tag : Byte) (s : State), s.part = .run → HostFree s →
    if 1 ≤ n.toNat ∧ n.toNat ≤ 3 then
      ∃ t extra, Accepts (.readPassage tag [n]) 0x26 tag extra [.passages] s t ∧
        t.memory.passages = s.memory.passages.drop n.toNat ∧ t.memory.nextPassage = s.memory.nextPassage ∧
        extra = byte (min n.toNat s.memory.passages.length) :: be16 (s.memory.passages.length - n.toNat) ++
          be16 s.memory.nextPassage.toNat ++
          ((s.memory.passages.take n.toNat).map fun p => byte (3 + p.predictions.length) :: p.bytes).flatten
    else Refuses (.readPassage tag [n]) 0x26 tag .outOfRange s)

/-! ### Run-time commands of the host and the signal box -/

/-- R78, R79: a HOLD of 1 or 0 sets or clears its own member of the hold set, the other value of a byte is refused
OUT_OF_RANGE and leaves the set alone. While a member is set the road neither stays OPEN nor goes on RAISING (R66, R77).
A signaller's command reaches the part by its own address, a group or 63 (R162) and is confirmed when it came to the own
address (R163). -/
def Obligations.HoldsSetTheHoldSet : Prop :=
  (∀ (v tag : Byte) (s : State), s.part = .run → HostFree s →
    ∃ t, exec (.localHold tag [v]) s = .next t ∧
      Replied 0x30 tag [if v = 0 ∨ v = 1 then 0 else 3] s t ∧
      t.seq.holdLocal = (if v = 1 then true else if v = 0 then false else s.seq.holdLocal) ∧
      t.seq.holdSignaller = s.seq.holdSignaller ∧
      (v = 1 → t.seq.state ≠ some .roadOpen ∧ t.seq.state ≠ some .raising) ∧
      Only ([.holds, .port] ++ reactBlocks) s t) ∧
  (∀ (v : Byte) (h : LineHead) (addr : Addressing) (s : State), LineReady s → s.line.link = .active → FromBox s h addr →
    ∃ t, exec (.sigHold h [v]) s = .next t ∧
      t.reports.confirm = confirmOf s addr 0x05 (if v = 0 ∨ v = 1 then .ok else .outOfRange) ∧
      t.seq.holdSignaller = (if v = 1 then true else if v = 0 then false else s.seq.holdSignaller) ∧
      t.seq.holdLocal = s.seq.holdLocal ∧
      (v = 1 → t.seq.state ≠ some .roadOpen ∧ t.seq.state ≠ some .raising) ∧
      Only (.holds :: reactBlocks) s t)

/-- R98: LAMP_TEST is accepted in OPEN with no test running and every slot empty, and lights the first enabled channel; it is
refused BUSY while a test runs and WRONG_STATE otherwise, its HOST_CMD record after the Sequencer's records (log entry 7).
The demand is absent in OPEN (R66), hence the hypothesis. R99: the
channel is judged t_settle after it was lit by its own limits, without touching its proofs; after 1,000 ms it goes dark and
the next enabled channel is lit, or the test ends with LAMP_TEST_DONE. -/
def Obligations.LampTestRunsThroughTheChannels : Prop :=
  (∀ (tag : Byte) (s : State), s.part = .run → HostFree s →
    (s.lamps.test.isSome = true →
      ∃ u, ActedReply (.lampTest tag []) .lampTest tag .busy s u ∧ Only [.port] s u) ∧
    (s.lamps.test = none → (s.seq.state ≠ some .roadOpen ∨ ∃ k : Fin 4, s.slots[k].record.isSome = true) →
      ∃ u, ActedReply (.lampTest tag []) .lampTest tag .wrongState s u ∧ Only [.port] s u) ∧
    (∀ c : Fin 10, s.lamps.test = none → s.seq.state = some .roadOpen → (∀ k : Fin 4, s.slots[k].record = none) →
      s.demand = false → s.lamps.lamps[c].enabled = true → (∀ d : Fin 10, d < c → s.lamps.lamps[d].enabled = false) →
      ∃ t, exec (.lampTest tag []) s = .next t ∧ Replied 0x31 tag [0] s t ∧
        t.lamps.test = some ⟨c, s.now, false, Vector.replicate 10 none⟩ ∧ t.lamps.lamps[c].lit = true ∧
        (∀ d : Fin 10, d ≠ c → t.lamps.lamps[d] = s.lamps.lamps[d]) ∧
        Only ([.lamps, .port, .line] ++ recordBlocks) s t)) ∧
  (∀ (mA : Nat) (x : LampTest) (s : State), s.part = .run → s.lamps.test = some x → x.sampled = false →
    s.lamps.flash.settle ≤ elapsed s.now x.since →
    exec (.lampTestSample mA) s = .next { s with lamps := { s.lamps with test := some { x with
      sampled := true
      results := x.results.set x.channel (some ⟨decide (s.lamps.lamps[x.channel].iMin ≤ min mA 4000 ∧
        min mA 4000 ≤ s.lamps.lamps[x.channel].iMax), min mA 4000⟩) } } }) ∧
  (∀ (x : LampTest) (s : State), s.part = .run → s.lamps.test = some x → 1000 ≤ elapsed s.now x.since →
    ∃ t, exec .lampTestChannelEnd s = .next t ∧ t.lamps.lamps[x.channel].lit = false ∧
      (∀ c : Fin 10, x.channel < c → s.lamps.lamps[c].enabled = true →
        (∀ d : Fin 10, x.channel < d → d < c → s.lamps.lamps[d].enabled = false) →
        t.lamps.test = some ⟨c, s.now, false, x.results⟩ ∧ t.lamps.lamps[c].lit = true ∧ Only [.lamps] s t) ∧
      ((∀ c : Fin 10, x.channel < c → s.lamps.lamps[c].enabled = false) →
        t.lamps.test = none ∧ t = queueNotice (testNotice 0 x) { s with lamps := t.lamps } ∧
        Only [.lamps, .notices] s t))

/-- R31 to R33 and section 11.4: a restore is refused for a section out of range or not in use, then for one not
DISTURBED, then (DIRECT) for bounding points that are not quiet; a DIRECT makes the section CLEAR, a SWEEP PREPARED, both
with count 0, the SECTION record is written (R30) and the end of SECTION_DISTURBED reported (R32, R33), and a SWEEP commits the
uncommitted records whose span holds the section (R53), the Sequencer taking the demand of those commits (R64), OPEN going to
AMBER, before a record ends with it (R59; the order is log entry 7's, as is that of the HOST_CMD record). A refused restore
changes no section. The host's DIRECT is refused. A signaller's command reaches the
part by its own address, a group or 63 (R162) and is confirmed when it came to the own address (R163). -/
def Obligations.RestoresClearOrPrepare : Prop :=
  (∀ (n m tag : Byte) (s : State), s.part = .run → HostFree s →
    ∃ t r, exec (.hostRestore tag [n, m]) s = .next t ∧ Replied 0x32 tag [byte r.code] s t ∧
      (m = 0 → r = .outOfRange) ∧ (m ≠ 0 → r = s.restoreTest n.toNat m.toNat) ∧
      (∀ i : Fin 10, t.sections[i] =
        if r = .ok ∧ i.val = n.toNat then { s.sections[i] with state := some .prepared, count := 0, sweep := false }
        else s.sections[i]) ∧
      (r = .ok → ∀ (i : Fin 10) (k : Fin 4) (x : TrainRecord), i.val = n.toNat → s.inSpan k i = true →
        s.slots[k].record = some x → x.committed = false →
        t.slots[k].record = none ∨ t.slots[k].record = some (committedBy x .prepared s.now)) ∧
      Only ([.sections, .passages, .port, .free] ++ reactBlocks) s t) ∧
  (∀ (i : Fin 10) (tag : Byte) (s : State), s.part = .run → HostFree s → s.restoreTest i.val 1 = .ok →
    ∃ w u, ActedReply (.hostRestore tag [byte i.val, 1]) .restore tag .ok s u ∧ Restored i false w u ∧ Only [.port] s w) ∧
  (∀ (n m : Byte) (h : LineHead) (addr : Addressing) (s : State), LineReady s → s.line.link = .active →
    FromBox s h addr →
    ∃ t, exec (.sigRestore h [n, m]) s = .next t ∧
      t.reports.confirm = confirmOf s addr 0x04 (s.restoreTest n.toNat m.toNat) ∧
      (∀ i : Fin 10, t.sections[i] =
        if s.restoreTest n.toNat m.toNat = .ok ∧ i.val = n.toNat then
          { s.sections[i] with
            state := some (if m = 0 then .clear else .prepared), count := 0, sweep := false }
        else s.sections[i]) ∧
      (s.restoreTest n.toNat m.toNat = .ok → m ≠ 0 → ∀ (i : Fin 10) (k : Fin 4) (x : TrainRecord), i.val = n.toNat →
        s.inSpan k i = true → s.slots[k].record = some x → x.committed = false →
        t.slots[k].record = none ∨ t.slots[k].record = some (committedBy x .prepared s.now)) ∧
      Only ([.sections, .passages, .free] ++ reactBlocks) s t) ∧
  (∀ (i : Fin 10) (m : Nat) (h : LineHead) (addr : Addressing) (s : State), LineReady s → s.line.link = .active →
    FromBox s h addr → m < 2 → s.restoreTest i.val m = .ok →
    ∃ w v u, exec (.sigRestore h [byte i.val, byte m]) s = .next (react u) ∧ Only [.line, .counters, .notices] s w ∧
      Restored i (decide (m = 0)) w v ∧ Wrote .sigCmd 0 [0x04, byte addr.code, 0, 0, byte i.val, byte m] v u ∧
      (m = 0 → u.faults = (endCondition .sectionDisturbed i.val s).faults) ∧ Only [.log, .notices, .reports] v u) ∧
  (∀ (i : Fin 10) (k : Fin 4) (h : LineHead) (addr : Addressing) (x : TrainRecord) (s : State), LineReady s →
    s.line.link = .active → FromBox s h addr → s.restoreTest i.val 1 = .ok → s.inSpan k i = true →
    s.slots[k].record = some x → x.committed = false → s.seq.state = some .roadOpen →
    ∃ t, exec (.sigRestore h [byte i.val, 1]) s = .next t ∧ t.seq.state = some .amber ∧
      t.counters[(12 : Fin 32)] = s.counters[(12 : Fin 32)].bumped) ∧
  (∀ (n m : Nat) (s : State),
    (10 ≤ n ∨ 2 ≤ m → s.restoreTest n m = .outOfRange) ∧
    ∀ i : Fin 10, i.val = n → m < 2 →
      s.restoreTest n m =
        if s.sections[i].track = none then .outOfRange
        else if s.sections[i].state ≠ some .disturbed then .notDisturbed
        else if m = 0 ∧ ¬(∀ p : Fin 12, p = s.sections[i].aEnd ∨ p = s.sections[i].bEnd →
            s.points[p].seq = .idle ∧ s.points[p].quietMark = true) then .pointsActive
        else .ok)

/-- R128, R129, R135: an acknowledge of ALL removes every event record and every CLEARED_UNACKED one and makes the other
ACTIVE_UNACKED ones ACTIVE_ACKED (slot 31 is also tested by R126 and is left out here); one of pairs does the same to the
records its pairs name and leaves every other as it is (no kind and object has two records, R122); one with a pair out of
range, or with more than six, is refused OUT_OF_RANGE and changes no record. The host's is refused WRONG_STATE while the link is
ACTIVE, its HOST_CMD record after the Sequencer's (log entry 7); the signaller's reaches the part by its own address, a group
or 63 (R162) and is confirmed when it came to the own address (R163). R137: each record that changes has one FAULT record, with
the requester, and one FAULT notice, ACKED or REMOVED, in the order of the pairs or, for ALL, of the slots (log entry 7); then
TABLE_FULL is tested once (R126) and the mode derived (R131, R133). -/
def Obligations.AcknowledgesSettleTheTable : Prop :=
  (∀ (tag : Byte) (payload : List Byte) (s : State), s.part = .run → HostFree s → countFits payload = true →
    payload.length ≤ 248 →
    (s.line.link = .active →
      ∃ u, ActedReply (.faultAck tag payload) .faultAck tag .wrongState s u ∧ Only [.port, .free] s u) ∧
    (s.line.link ≠ .active → (ackTarget payload).ok = false →
      ∃ u, ActedReply (.faultAck tag payload) .faultAck tag .outOfRange s u ∧ Only [.port, .free] s u) ∧
    (s.line.link ≠ .active → (ackTarget payload).ok = true →
      ∃ u, ActedReply (.faultAck tag payload) .faultAck tag .ok s u ∧
        u.faults.table = (s.faults.acked s.now .host (ackTarget payload)).1.table ∧
        u.faults.latch = s.faults.latch ∧ u.faults.mode = some u.faults.derived ∧
        (∃ w, Only [.port, .free] s w ∧ u = acknowledged 2 (ackTarget payload) w) ∧
        Only (.port :: faultBlocks) s u)) ∧
  (∀ (h : LineHead) (addr : Addressing) (payload : List Byte) (s : State), LineReady s → s.line.link = .active →
    FromBox s h addr → countFits payload = true → payload.length ≤ 24 →
    ∃ u, exec (.sigAck h payload) s = .next (react u) ∧
      u.reports.confirm = confirmOf s addr 0x03 (if (ackTarget payload).ok then .ok else .outOfRange) ∧
      u.faults.table =
        (if (ackTarget payload).ok then (s.faults.acked s.now .signaller (ackTarget payload)).1.table
        else s.faults.table) ∧
      (∃ w, Only [.line, .counters, .notices] s w ∧
        let v := if (ackTarget payload).ok then acknowledged 1 (ackTarget payload) w else w
        Wrote .sigCmd 0 ([0x03, byte addr.code, if (ackTarget payload).ok then 0 else 3, 0] ++ payload.take 4) v u ∧
        u.faults = v.faults ∧ Only [.log, .notices, .reports] v u) ∧
      Only (.line :: faultBlocks) s u) ∧
  (∀ (f : FaultManager) (now : Time) (req : Requester) (i : Fin 32), i ≠ 31 →
    (f.acked now req .all).1.table[i].record = f.table[i].record.bind (ackedRecord now)) ∧
  (∀ (f : FaultManager) (now : Time) (req : Requester) (l : List AckPair) (i : Fin 32), OneRecordEach f → i ≠ 31 →
    (∀ r, f.table[i].record = some r → (r.kind.code, r.object) ∈ l →
      (f.acked now req (.pairs l)).1.table[i].record = ackedRecord now r) ∧
    ((∀ r, f.table[i].record = some r → (r.kind.code, r.object) ∉ l) →
      (f.acked now req (.pairs l)).1.table[i] = f.table[i])) ∧
  (∀ payload : List Byte, (ackTarget payload).ok = true ↔
    (payload = [] ∨ payload.head? = some 0 ∨
      (1 ≤ (pairsOf (payload.drop 1)).length ∧ (pairsOf (payload.drop 1)).length ≤ 6 ∧
        ∀ x ∈ pairsOf (payload.drop 1), ∃ k : FaultKind, k.code = x.1 ∧ k.objectOk x.2 = true)))

/-- R134, R135: a release is refused SEVERE_ACTIVE while a SEVERE record is active and otherwise clears the latch, after
which the mode is the one R131 derives; with the latch clear already it changes nothing and is answered OK (but for its record
and the receive assembly that log entry 19 empties). The host's is refused WRONG_STATE while the link is ACTIVE, its HOST_CMD
record after the Sequencer's (log entry 7). The signaller's reaches the part by its own address, a group or 63 (R162), is
logged, and is confirmed when it came to the own address (R163). A change of mode is told as R133 says, cause RELEASE. -/
def Obligations.ReleasesClearTheLatch : Prop :=
  (∀ (tag : Byte) (s : State), s.part = .run → HostFree s →
    (s.line.link = .active →
      ∃ u, ActedReply (.hostRelease tag []) .release tag .wrongState s u ∧ Only [.port] s u) ∧
    (s.line.link ≠ .active → s.faults.anyActive .severe = true →
      ∃ u, ActedReply (.hostRelease tag []) .release tag .severeActive s u ∧ Only [.port] s u) ∧
    (s.line.link ≠ .active → s.faults.anyActive .severe = false →
      ∃ u, ActedReply (.hostRelease tag []) .release tag .ok s u ∧ u.faults.latch = false ∧
        u.faults.table = s.faults.table ∧
        u.faults.mode = some (if s.faults.anyActive .minor then .degraded else .auto) ∧
        (∃ w, Only [.port] s w ∧ u = deriveMode .release { w with faults := { w.faults with latch := false } }) ∧
        Only ([.faults, .port] ++ recordBlocks) s u) ∧
    (s.line.link ≠ .active → s.faults.anyActive .severe = false → s.faults.latch = false →
      s.faults.mode = some s.faults.derived →
      ActedReply (.hostRelease tag []) .release tag .ok s
        { s with host := { s.host with assembly := [], rxLast := s.now } })) ∧
  (∀ (h : LineHead) (addr : Addressing) (s : State), LineReady s → s.line.link = .active → FromBox s h addr →
    ∃ u, exec (.sigRelease h []) s = .next (react u) ∧
      u.reports.confirm = confirmOf s addr 0x06 (if s.faults.anyActive .severe then .severeActive else .ok) ∧
      u.faults.latch = (if s.faults.anyActive .severe then s.faults.latch else false) ∧
      u.faults.table = s.faults.table ∧
      (s.faults.anyActive .severe = false →
        u.faults.mode = some (if s.faults.anyActive .minor then .degraded else .auto) ∧
        ∃ w, Only [.line, .counters, .notices] s w ∧
          let v := deriveMode .release { w with faults := { w.faults with latch := false } }
          Wrote .sigCmd 0 [0x06, byte addr.code, 0, 0] v u ∧ Only [.log, .notices, .reports] v u) ∧
      Only ([.faults, .line] ++ recordBlocks) s u ∧
      (s.faults.anyActive .severe = true ∨ (s.faults.latch = false ∧ s.faults.mode = some s.faults.derived) →
        u.faults = s.faults ∧ u.reports.stateMark = s.reports.stateMark ∧
        Wrote .sigCmd 0 [0x06, byte addr.code, if s.faults.anyActive .severe then 10 else 0, 0] s u ∧
        Only [.line, .log, .notices, .counters, .reports] s u))

/-! ### Detection points and sections -/

/-- R1, R3 to R13, R15 and R16. A head's accepted state is the one three of its five samples show. In CONFIG, and at a
point out of service, the inputs change and nothing else. A tick in which one head changes takes the machine by the
table of section 1.3; the first head's tick is the stamp and the leave time, and the interval, 1 to 65,535 ticks, is
taken, unless the wheel has rocked, as the second head comes on (log entry 1 for two changes queued in one tick). The
last head off counts an axle: AXLES rises, the last count time is now, the axle leaves one section and enters the other
(R23, R24), with their SECTION records (R30) and raises (R29, `SectionsTake`); with both halves applied the Predictor
takes it (R42, `Obligations.TrainTimersExpire`, `Obligations.PredictionsSetTheTimes`), and records whose spans it
cleared end (R59, `Obligations.SectionsCountAxles`). Both heads changing in one tick lead to SKEW, which ends, as a skew
event counted in SEQUENCE_ERRORS that disturbs the sections of the point, in the tick that finds both off (R11, R27; the
A-side section first, log entry 7). No other point changes. The hypothesis sets aside a tick in which the stuck timeout
expires too (`Obligations.PointTimersExpire`). -/
def Obligations.HeadChangesFollowTheWheel : Prop :=
  (∀ w : Window, w.accepted = decide (3 ≤ [w.s0, w.s1, w.s2, w.s3, w.s4].count true)) ∧
  (∀ (p : Fin 12) (winA winB : Window) (s : State), s.part = .config ∨ s.points[p].inService = false →
    ∃ t, exec (.headChange p winA winB) s = .next t ∧ t.pins.heads[p] = ⟨winA.s4, winB.s4⟩ ∧ Only [.pins] s t) ∧
  (∀ (p : Fin 12) (winA winB : Window) (s : State), s.part = .run → s.points[p].inService = true →
    ¬(s.phase = 0 ∧ s.tStuck < elapsed s.now s.points[p].leave ∧ s.points[p].seq ≠ .idle ∧
      ¬(s.points[p].seq = .skew ∧ s.points[p].headFault = true)) →
    let x := s.points[p]
    let seen : Point := { x with
      winA := winA, winB := winB, accA := winA.accepted, accB := winB.accepted
      quiet := quietAfter x winA.accepted winB.accepted s.now }
    (∀ m ∈ headMoves, x.seq = m.seq → ChangesAlone x winA winB m.headA m.on →
      ∃ u, exec (.headChange p winA winB) s = .next (react u) ∧ Only [.pins, .points] s u ∧
        (∀ q : Fin 12, q ≠ p → u.points[q] = s.points[q]) ∧
        u.points[p] = { seen with
          seq := m.next
          stamp :=
            if m.seq = .idle then some ⟨s.now, s.phase⟩ else if m.next = .idle then none else x.stamp
          interval :=
            if m.seq = .idle then none
            else if m.on ∧ (m.seq = .ab1 ∨ m.seq = .ba1) then
              (if x.rocked then none
                else x.stamp.bind fun t => if 65535 < ticksSince ⟨s.now, s.phase⟩ t then none
                  else some (max 1 (ticksSince ⟨s.now, s.phase⟩ t)))
            else x.interval
          rocked :=
            if m.seq = .idle then false
            else x.rocked || decide ((m.seq = .ab2 ∧ m.next = .ab1) ∨ (m.seq = .ba2 ∧ m.next = .ba1) ∨
              (m.seq = .ab3 ∧ m.next = .ab2) ∨ (m.seq = .ba3 ∧ m.next = .ba2))
          leave := if m.seq = .idle then s.now else x.leave }) ∧
    (∀ d : Dir,
      (d = .aToB → x.seq = .ab3 ∧ ChangesAlone x winA winB false false) →
      (d = .bToA → x.seq = .ba3 ∧ ChangesAlone x winA winB true false) →
      ∃ u, exec (.headChange p winA winB) s = .next (react u) ∧
        u.points[p] = { seen with
          seq := .idle, stamp := none, interval := none, rocked := false, lastCount := s.now, quietMark := false } ∧
        (∀ q : Fin 12, q ≠ p → u.points[q] = s.points[q]) ∧
        u.counters[cntAxles p] = s.counters[cntAxles p].bumped ∧
        (∀ i : Fin 10, u.sections[i] =
          if s.entering p d = some i then s.sections[i].enter.new
          else if s.leaving p d = some i then s.sections[i].leave.new else s.sections[i]) ∧
        (∃ (w v : State) (changed : List (Fin 10)),
          u = endRecords changed (takeAxle p d (if x.rocked then none else x.interval) v) ∧
          Only [.pins, .points, .counters, .notices] s w ∧ SectionsTake (axleTurns s p d) p w v ∧
          (∀ i : Fin 10, i ∈ changed ↔
            (s.leaving p d = some i ∧ s.sections[i].leave.new.state ≠ s.sections[i].state) ∨
              (s.entering p d = some i ∧ s.sections[i].enter.new.state ≠ s.sections[i].state)) ∧
          v.points = u.points ∧ v.sections = u.sections ∧ Only ([.pins, .points, .sections] ++ faultBlocks) s v) ∧
        Only ([.pins, .points, .sections, .passages, .free] ++ reactBlocks) s u) ∧
    (x.seq ≠ .skew → x.accA ≠ winA.accepted → x.accB ≠ winB.accepted → (winA.accepted = true ∨ winB.accepted = true) →
      ∃ u, exec (.headChange p winA winB) s = .next (react u) ∧ Only [.pins, .points] s u ∧
        u.points[p] = { seen with
          seq := .skew, stamp := none, interval := none, rocked := false
          leave := if x.seq = .idle then s.now else x.leave } ∧
        (∀ q : Fin 12, q ≠ p → u.points[q] = s.points[q])) ∧
    (x.seq = .skew → (winA.accepted = true ∨ winB.accepted = true) →
      ∃ u, exec (.headChange p winA winB) s = .next (react u) ∧ Only [.pins, .points] s u ∧ u.points[p] = seen ∧
        ∀ q : Fin 12, q ≠ p → u.points[q] = s.points[q]) ∧
    (x.seq = .skew → winA.accepted = false → winB.accepted = false →
      ∃ u, exec (.headChange p winA winB) s = .next (react u) ∧
        u.points[p] = { seen with seq := .idle, lastCount := s.now, quietMark := false } ∧
        (∀ q : Fin 12, q ≠ p → u.points[q] = s.points[q]) ∧
        u.counters[(17 : Fin 32)] = s.counters[(17 : Fin 32)].bumped ∧
        (∀ i : Fin 10, u.sections[i] =
          if s.sectionEndingAt p = some i ∨ s.sectionStartingAt p = some i then s.sections[i].skewed.new
          else s.sections[i]) ∧
        (∃ (w v : State) (changed : List (Fin 10)), u = endRecords changed v ∧
          Only [.pins, .points, .counters, .notices] s w ∧ SectionsTake (skewTurns s p) p w v ∧
          (∀ i : Fin 10, i ∈ changed ↔ (s.sectionEndingAt p = some i ∨ s.sectionStartingAt p = some i) ∧
            s.sections[i].skewed.new.state ≠ s.sections[i].state) ∧
          Only ([.pins, .points, .sections] ++ faultBlocks) s v) ∧
        Only ([.pins, .points, .sections, .passages, .free] ++ reactBlocks) s u) ∧
    (x.seq ≠ .skew → x.accA = true → x.accB = true → winA.accepted = false → winB.accepted = false →
      ∃ u, exec (.headChange p winA winB) s = .next (react u) ∧
        u.points[p] = { seen with
          seq := .idle, stamp := none, interval := none, rocked := false, lastCount := s.now, quietMark := false
          leave := if x.seq = .idle then s.now else x.leave } ∧
        u.counters[(17 : Fin 32)] = s.counters[(17 : Fin 32)].bumped ∧
        (∀ q : Fin 12, q ≠ p → u.points[q] = s.points[q]) ∧
        (∀ i : Fin 10, u.sections[i] =
          if s.sectionEndingAt p = some i ∨ s.sectionStartingAt p = some i then s.sections[i].skewed.new
          else s.sections[i]) ∧
        (∃ (w v : State) (changed : List (Fin 10)), u = endRecords changed v ∧
          Only [.pins, .points, .counters, .notices] s w ∧ SectionsTake (skewTurns s p) p w v ∧
          (∀ i : Fin 10, i ∈ changed ↔ (s.sectionEndingAt p = some i ∨ s.sectionStartingAt p = some i) ∧
            s.sections[i].skewed.new.state ≠ s.sections[i].state) ∧
          Only ([.pins, .points, .sections] ++ faultBlocks) s v) ∧
        Only ([.pins, .points, .sections, .passages, .free] ++ reactBlocks) s u))

/-- R14: the stuck timeout forces the machine to SKEW, sets the head-fault flag and raises HEAD_FAULT with the heads
that are on, once; with both heads off the skew pass ends in the same tick, as a skew event that disturbs the sections
of the point (R11, R27, R29, R30; the A-side section first, log entry 7), after which the records whose spans it cleared
end (R59). No other point changes. R15: 2,000 ms of quiet clear the flag and end the condition. R9: the quiet mark is
set 10,000 ms after the last count. -/
def Obligations.PointTimersExpire : Prop :=
  (∀ (p : Fin 12) (s : State), s.part = .run → s.phase = 0 → s.points[p].inService = true →
    s.points[p].seq ≠ .idle → s.tStuck < elapsed s.now s.points[p].leave →
    (s.points[p].accA = true ∨ s.points[p].accB = true) →
    (s.points[p].seq ≠ .skew → s.points[p].headFault = true →
      exec (.stuckTimeout p) s = .next (react { s with points := s.points.set p { s.points[p] with
        seq := .skew, stamp := none, interval := none, rocked := false, quiet := none } })) ∧
    (s.points[p].headFault = false →
      ∃ v, exec (.stuckTimeout p) s =
          .next (react (raise .headFault p.val (flag s.points[p].accA + 2 * flag s.points[p].accB) v)) ∧
        v.points[p] = { s.points[p] with
          seq := .skew, headFault := true, quiet := none
          stamp := if s.points[p].seq = .skew then s.points[p].stamp else none
          interval := if s.points[p].seq = .skew then s.points[p].interval else none
          rocked := s.points[p].rocked && decide (s.points[p].seq = .skew) } ∧
        (∀ q : Fin 12, q ≠ p → v.points[q] = s.points[q]) ∧ Only [.points] s v)) ∧
  (∀ (p : Fin 12) (s : State), s.part = .run → s.phase = 0 → s.points[p].inService = true →
    s.points[p].seq ≠ .idle → s.tStuck < elapsed s.now s.points[p].leave →
    s.points[p].accA = false → s.points[p].accB = false → (s.points[p].seq = .skew → s.points[p].headFault = false) →
    ∃ u, exec (.stuckTimeout p) s = .next (react u) ∧
      u.points[p] = { s.points[p] with
        seq := .idle, headFault := true, lastCount := s.now, quietMark := false
        quiet := some (if s.points[p].headFault then s.points[p].quiet.getD s.now else s.now)
        stamp := if s.points[p].seq = .skew then s.points[p].stamp else none
        interval := if s.points[p].seq = .skew then s.points[p].interval else none
        rocked := s.points[p].rocked && decide (s.points[p].seq = .skew) } ∧
      (∀ q : Fin 12, q ≠ p → u.points[q] = s.points[q]) ∧
      u.counters[(17 : Fin 32)] = s.counters[(17 : Fin 32)].bumped ∧
      (∀ i : Fin 10, u.sections[i] =
        if s.sectionEndingAt p = some i ∨ s.sectionStartingAt p = some i then s.sections[i].skewed.new
        else s.sections[i]) ∧
      (∃ (w v : State) (changed : List (Fin 10)), u = endRecords changed v ∧ SectionsTake (skewTurns s p) p w v ∧
        (∀ i : Fin 10, i ∈ changed ↔ (s.sectionEndingAt p = some i ∨ s.sectionStartingAt p = some i) ∧
          s.sections[i].skewed.new.state ≠ s.sections[i].state) ∧
        Only ([.points, .sections] ++ faultBlocks) s v ∧
        w.faults = (if s.points[p].headFault then s.faults else (raise .headFault p.val 0 s).faults) ∧
        Only (.points :: faultBlocks) s w) ∧
      Only ([.points, .sections, .passages, .free] ++ reactBlocks) s u) ∧
  (∀ (p : Fin 12) (q : Time) (s : State), s.part = .run → s.phase = 0 → s.points[p].inService = true →
    s.points[p].headFault = true → s.points[p].quiet = some q → 2000 ≤ elapsed s.now q →
    exec (.quietPeriodEnd p) s = .next (react (endCondition .headFault p.val
      { s with points := s.points.set p { s.points[p] with headFault := false, quiet := none } }))) ∧
  (∀ (p : Fin 12) (s : State), s.part = .run → s.points[p].inService = true → s.points[p].quietMark = false →
    10000 ≤ elapsed s.now s.points[p].lastCount →
    exec (.quietMark p) s = .next { s with points := s.points.set p { s.points[p] with quietMark := true } })

/-- R25, R26, R27: what an axle entering, an axle leaving and a skew event make of a section, and the cause of its change of
state (R30); OVERFLOW, UNDERFLOW and SKEW disturb it (R29). R23: at a point an axle from A to
B leaves the section that ends there and enters the one that starts there, one from B to A the other way. R38, R59: as
sections change state, every train record ends of whose span one changed and all are now CLEAR or PREPARED; records that end
at one moment end one after another, in slot order or the reverse (R184, log entry 3). R59, R60, R184: a record that ends is counted PASSED or
WITHDRAWN, logged "ended" (the unnamed bits of the record: log entry 25), and its passage content stored as the newest, as few
of the oldest discarded as make it fit, and its PASSAGE notice queued. -/
def Obligations.SectionsCountAxles : Prop :=
  (∀ c : Sect,
    (c.state = some .clear → c.enter = ⟨{ c with state := some .occupied, count := 1, sweep := false }, some .entry⟩) ∧
    (c.state = some .prepared →
      c.enter = ⟨{ c with state := some .occupied, count := 1, sweep := true }, some .entry⟩) ∧
    (c.state = some .occupied → c.count < 1023 → c.enter = ⟨{ c with count := c.count + 1 }, none⟩) ∧
    (c.state = some .occupied → 1023 ≤ c.count →
      c.enter = ⟨{ c with state := some .disturbed, count := 0, sweep := false }, some .overflow⟩) ∧
    (c.state = some .occupied → 1 < c.count → c.leave = ⟨{ c with count := c.count - 1 }, none⟩) ∧
    (c.state = some .occupied → c.count = 1 →
      c.leave = ⟨{ c with state := some .clear, count := 0, sweep := false },
        some (if c.sweep then .sweepDone else .exit)⟩) ∧
    (c.state = some .clear ∨ c.state = some .prepared →
      c.leave = ⟨{ c with state := some .disturbed, count := 0, sweep := false }, some .underflow⟩) ∧
    (c.state = some .disturbed → c.enter = ⟨c, none⟩ ∧ c.leave = ⟨c, none⟩ ∧ c.skewed = ⟨c, none⟩) ∧
    (c.state = some .clear ∨ c.state = some .prepared ∨ c.state = some .occupied →
      c.skewed = ⟨{ c with state := some .disturbed, count := 0, sweep := false }, some .skew⟩)) ∧
  (∀ (p : Fin 12) (i : Fin 10) (s : State),
    (s.leaving p .aToB = some i ↔ s.sections[i].track ≠ none ∧ s.sections[i].bEnd = p ∧
      ∀ j : Fin 10, j < i → ¬(s.sections[j].track ≠ none ∧ s.sections[j].bEnd = p)) ∧
    (s.entering p .aToB = some i ↔ s.sections[i].track ≠ none ∧ s.sections[i].aEnd = p ∧
      ∀ j : Fin 10, j < i → ¬(s.sections[j].track ≠ none ∧ s.sections[j].aEnd = p)) ∧
    s.leaving p .bToA = s.entering p .aToB ∧ s.entering p .bToA = s.leaving p .aToB ∧
    s.sectionEndingAt p = s.leaving p .aToB ∧ s.sectionStartingAt p = s.entering p .aToB) ∧
  (∀ (k : Fin 4) (i j : Fin 10) (s : State), s.sections[j].track = some (trackOfSlot k) → s.sections[j].role = .island →
    (∀ m : Fin 10, m < j → ¬(s.sections[m].track = some (trackOfSlot k) ∧ s.sections[m].role = .island)) →
    (s.inSpan k i = true ↔ s.sections[i].track = some (trackOfSlot k) ∧
      if FromA k then s.points[s.sections[i].bEnd].position ≤ s.points[s.sections[j].bEnd].position
      else s.points[s.sections[j].aEnd].position ≤ s.points[s.sections[i].aEnd].position)) ∧
  (∀ (changed : List (Fin 10)) (s : State),
    (∀ k : Fin 4, TrainEnds s changed k →
      (endRecords changed s).slots[k] = { s.slots[k] with record := none } ∧
      ((∀ j : Fin 4, j ≠ k → ¬TrainEnds s changed j) → endRecords changed s = endRecord k s)) ∧
    (∀ k : Fin 4, ¬TrainEnds s changed k → (endRecords changed s).slots[k] = s.slots[k]) ∧
    ((∀ k : Fin 4, ¬TrainEnds s changed k) → endRecords changed s = s) ∧
    (∀ ks : List (Fin 4), ks.Pairwise (· < ·) → (∀ k : Fin 4, k ∈ ks ↔ TrainEnds s changed k) → 2 ≤ ks.length →
      endRecords changed s = ks.foldl (fun t k => endRecord k t) { s with free := s.free + 1 } ∨
        endRecords changed s = ks.reverse.foldl (fun t k => endRecord k t) { s with free := s.free + 1 }) ∧
    Only [.slots, .log, .passages, .counters, .notices, .free] s (endRecords changed s)) ∧
  (∀ (k : Fin 4) (r : TrainRecord) (s : State), s.part = .run → s.slots[k].record = some r →
    ∃ (n : Nat) (v : State),
      let x := passageOfTrain r k s.memory.nextPassage s.now
      let cnt : Fin 32 := if r.phase = .arrived then 13 else 14
      endRecord k s = queueNotice ⟨.passage, be16 x.seq.toNat ++ [byte x.track.code, byte x.dir.code, byte x.outcome.code] ++
        be16 v.memory.passages.length⟩ v ∧
      v.slots[k] = { s.slots[k] with record := none } ∧ (∀ j : Fin 4, j ≠ k → v.slots[j] = s.slots[j]) ∧
      v.counters[cnt] = s.counters[cnt].bumped ∧ (∀ i : Fin 32, i ≠ cnt → v.counters[i] = s.counters[i]) ∧
      v.memory =
        { s.memory.append s.now .record k.val ([4, if r.phase = .arrived then 0 else 1] ++ be16 r.axlesIn) with
          passages := s.memory.passages.drop n ++ [x], nextPassage := s.memory.nextPassage + 1 } ∧
      (s.memory.passages.drop n = [] ∨
        stepsUsed (s.memory.passages.drop n) + (3 + r.predictions.length) ≤ 8 * s.memory.layout.passage) ∧
      (∀ m, m < n → 8 * s.memory.layout.passage < stepsUsed (s.memory.passages.drop m) + (3 + r.predictions.length)) ∧
      n ≤ s.memory.passages.length ∧ Only [.slots, .log, .passages, .counters, .notices] s v)

/-! ### Approach prediction -/

/-- R52: when the clock reaches S an uncommitted record commits with cause TIMER at S, its timer stopped, and
"committed" is logged (R55; the unnamed bits of a RECORD record's byte 0: log entry 25). R60: a committed record still
APPROACHING 65,535,000 ms after its commit has its long-warning mark set. R53: a PREPARED section in the span commits an
uncommitted record. R43, R56, R57: an axle that enters the island at the slot's near point is the arrival of its
APPROACHING record, or of a new one: committed with cause ARRIVAL if it was not, ARRIVED, one axle in; a Sequencer out
of CLOSED counts and raises LATE_CLOSURE with its state. (In OPEN that state is read before or after the Sequencer takes
the demand, and in RAISING its re-closure may come first: log entry 3.) R58: later axles are counted to 65,535. -/
def Obligations.TrainTimersExpire : Prop :=
  (∀ (k : Fin 4) (r : TrainRecord) (w : Time) (s : State), s.part = .run → s.slots[k].record = some r →
    r.committed = false → r.startTimer = some w → atOrBefore w s.now = true →
    ∃ u, exec (.startTimerExpiry k) s = .next (react u) ∧
      u.slots[k] = { s.slots[k] with record := some (committedBy r .timer w) } ∧
      (∀ j : Fin 4, j ≠ k → u.slots[j] = s.slots[j]) ∧
      Wrote .record k.val [2, 1, byte (flag r.shortWarning)] s u ∧ Only [.slots, .log, .notices] s u) ∧
  (∀ (k : Fin 4) (r : TrainRecord) (c : Time) (s : State), s.part = .run → s.slots[k].record = some r →
    r.committed = true → r.phase = .approaching → r.longMark = false → r.commitTime = some c →
    65535000 ≤ elapsed s.now c →
    exec (.longWarningMark k) s = .next
      { s with slots := s.slots.set k { s.slots[k] with record := some { r with longMark := true } } }) ∧
  (∀ (k : Fin 4) (r : TrainRecord) (s : State), s.part = .run → s.slots[k].record = some r →
    ((∃ i : Fin 10, s.inSpan k i = true ∧ s.sections[i].state = some .prepared) → r.committed = false →
      (testPrepared k s).slots = s.slots.set k { s.slots[k] with record := some (committedBy r .prepared s.now) } ∧
      Wrote .record k.val [2, 2, byte (flag r.shortWarning)] s (testPrepared k s) ∧
      Only [.slots, .log, .notices] s (testPrepared k s)) ∧
    ((∀ i : Fin 10, s.inSpan k i = true → s.sections[i].state ≠ some .prepared) ∨ r.committed = true →
      testPrepared k s = s)) ∧
  (∀ (p : Fin 12) (t : Track) (d : Dir) (n : Option Nat) (r : TrainRecord) (s : State), s.part = .run →
    s.points[p].track = some t → s.nearPoint (slotOf t d) = some p →
    let k := slotOf t d
    (s.slots[k].record = some r ∧ r.phase = .approaching) ∨ (s.slots[k].record = none ∧ r = newRecord s.now) →
    let slots := s.slots.set k { s.slots[k] with record := some (arrivedAt r s.now) }
    (s.seq.state = some .closed → (takeAxle p d n s).slots = slots ∧
      Only [.slots, .log, .notices] s (takeAxle p d n s)) ∧
    (∀ x, s.seq.state = some x → x ≠ .closed → x ≠ .roadOpen → x ≠ .raising →
      ∃ v, takeAxle p d n s = raise .lateClosure t.code x.code v ∧ v.slots = slots ∧
        v.counters[(16 : Fin 32)] = s.counters[(16 : Fin 32)].bumped ∧ Only [.slots, .log, .notices, .counters] s v) ∧
    (s.seq.state = some .roadOpen →
      ∃ v detail, takeAxle p d n s = raise .lateClosure t.code detail v ∧ (detail = 0 ∨ detail = 1) ∧ v.slots = slots ∧
        v.counters[(16 : Fin 32)] = s.counters[(16 : Fin 32)].bumped ∧
        Only ([.slots, .seq, .lamps, .free] ++ recordBlocks) s v)) ∧
  (∀ (p : Fin 12) (t : Track) (d : Dir) (n : Option Nat) (r : TrainRecord) (s : State), s.points[p].track = some t →
    s.slots[slotOf t d].record = some r → r.phase = .arrived →
    takeAxle p d n s =
      if s.nearPoint (slotOf t d) = some p then
        { s with slots := s.slots.set (slotOf t d) { s.slots[slotOf t d] with
          record := some { r with axlesIn := min 65535 (r.axlesIn + 1) } } }
      else s)

/-- R46 to R51: a prediction for a slot's record appends one entry of its point, interval, speed used and T, and sets A
to now + T; an uncommitted record's S becomes A - RWT and its start timer runs to it, unless S has been reached: then
the record commits at once with cause PREDICTION, short of warning, counted, when T is less than RWT. A committed
record's S and timer stay. R47, R48: the measured speed is floor(20,000 × spacing / interval), unknown without an
interval; above 90,000 it is a glitch, counted in SEQUENCE_ERRORS; the speed used is v_line when unknown, at least
v_floor, and outside AUTO at least v_line; a known speed above v_line is counted in OVERSPEEDS and raises OVERSPEED at
the point with the speed in m/s (R48). A short commit raises SHORT_WARNING for the track with T in seconds (R51). R46: D
is the distance to the near island point. R49: T is the floor of 1,000 × T_exact, and lies between the floors of 1,000 D
/ v_top and 1,000 D / v_used. R38, R43, R44: an axle at an upstream point makes a new record, logged "created" (its
unnamed bits: log entry 25), with a prediction, adds one to an APPROACHING record that no entry of lies as near, and
does nothing else. -/
def Obligations.PredictionsSetTheTimes : Prop :=
  (∀ vUsed vLine a d : Nat,
    let top := max vLine vUsed
    let t := predictedMs vUsed vLine a d
    (0 < vUsed → 1000 * d / top ≤ t ∧ t ≤ 1000 * d / vUsed) ∧
    (a = 0 ∨ top = vUsed → t = 1000 * d / vUsed) ∧
    (0 < a → vUsed < top →
      if vUsed * vUsed + 2 * a * d ≤ top * top then
        (1000 * vUsed + a * t) ^ 2 ≤ 1000000 * (vUsed * vUsed + 2 * a * d) ∧
        1000000 * (vUsed * vUsed + 2 * a * d) < (1000 * vUsed + a * (t + 1)) ^ 2
      else
        t * (2 * a * top) ≤ 1000 * (2 * a * d + (top - vUsed) ^ 2) ∧
        1000 * (2 * a * d + (top - vUsed) ^ 2) < (t + 1) * (2 * a * top))) ∧
  (∀ (k : Fin 4) (p q : Fin 12) (j : Fin 10) (s : State),
    s.sections[j].track = some (trackOfSlot k) → s.sections[j].role = .island →
    (∀ m : Fin 10, m < j → ¬(s.sections[m].track = some (trackOfSlot k) ∧ s.sections[m].role = .island)) →
    q = (if FromA k then s.sections[j].aEnd else s.sections[j].bEnd) →
    s.nearPoint k = some q ∧ s.distance k p = (s.points[q].position - s.points[p].position).natAbs ∧
    (s.upstream k p = true ↔ s.points[p].inService = true ∧ s.points[p].track = some (trackOfSlot k) ∧
      if FromA k then s.points[p].position < s.points[q].position else s.points[q].position < s.points[p].position)) ∧
  (∀ (p : Fin 12) (t : Track) (d : Dir) (n : Option Nat) (s : State), s.points[p].track = some t →
    let k := slotOf t d
    s.nearPoint k ≠ some p →
    (s.upstream k p = false → takeAxle p d n s = s) ∧
    (s.upstream k p = true → s.slots[k].record = none → s.part = .run →
      ∃ v, takeAxle p d n s = testPrepared k (predict k p n v) ∧
        v.slots = s.slots.set k { s.slots[k] with record := some (newRecord s.now) } ∧
        Wrote .record k.val [0, byte p.val] s v ∧ Only [.slots, .log, .notices] s v) ∧
    (∀ r, s.upstream k p = true → s.slots[k].record = some r →
      takeAxle p d n s =
        if r.phase = .approaching ∧ ∀ e ∈ r.predictions, s.distance k p < s.distance k e.point then predict k p n s
        else s)) ∧
  ∀ (k : Fin 4) (p : Fin 12) (n : Option Nat) (r : TrainRecord) (s : State), s.slots[k].record = some r →
    let x := s.slots[k]
    let glitch := ∃ m, n = some m ∧ 90000 < s.points[p].spacing * 20000 / m
    let e := s.prediction k p n
    let a := s.now + BitVec.ofNat 32 e.tMs
    let w := a - BitVec.ofNat 32 s.rwt
    let u := predict k p n s
    (∀ v, (n = none ∨ glitch → v = x.vLine) →
      (∀ m, n = some m → ¬glitch → v = max (s.points[p].spacing * 20000 / m) x.vFloor) →
      e.vUsed = if s.faults.mode = some .auto ∨ s.faults.mode = none then v else max v x.vLine) ∧
    e.point = p ∧ e.interval = n ∧ e.tMs = predictedMs e.vUsed x.vLine x.accel (s.distance k p) ∧
    (glitch → u.counters[(17 : Fin 32)] = s.counters[(17 : Fin 32)].bumped) ∧
    (¬glitch → u.counters[(17 : Fin 32)] = s.counters[(17 : Fin 32)]) ∧
    (∀ m, n = some m → ¬glitch → x.vLine < s.points[p].spacing * 20000 / m →
      u.counters[(31 : Fin 32)] = s.counters[(31 : Fin 32)].bumped) ∧
    (n = none ∨ glitch ∨ (∀ m, n = some m → s.points[p].spacing * 20000 / m ≤ x.vLine) →
      u.counters[(31 : Fin 32)] = s.counters[(31 : Fin 32)]) ∧
    u.counters[(15 : Fin 32)] =
      (if r.committed = false ∧ atOrBefore w s.now = true ∧ e.tMs < s.rwt then s.counters[(15 : Fin 32)].bumped
      else s.counters[(15 : Fin 32)]) ∧
    u.slots = s.slots.set k { x with record := some (
      if r.committed then { r with predictions := r.predictions ++ [e], arrivalA := some a }
      else if atOrBefore w s.now then
        { r with
          predictions := r.predictions ++ [e], arrivalA := some a, warningS := some w, startTimer := none
          committed := true, commitTime := some s.now, commitCause := some .prediction
          shortWarning := r.shortWarning || decide (e.tMs < s.rwt) }
      else { r with predictions := r.predictions ++ [e], arrivalA := some a, warningS := some w, startTimer := some w }) } ∧
    (∀ y, (n = none ∨ glitch ∨ (∀ m, n = some m → s.points[p].spacing * 20000 / m ≤ x.vLine) → y = s) →
      (∀ m, n = some m → ¬glitch → x.vLine < s.points[p].spacing * 20000 / m →
        y = raise .overspeed p.val (s.points[p].spacing * 20000 / m / 1000) s) →
      u.faults = (if r.committed = false ∧ atOrBefore w s.now = true ∧ e.tMs < s.rwt then
        (raise .shortWarning (trackOfSlot k).code (e.tMs / 1000) y).faults else y.faults)) ∧
    Only ([.slots] ++ faultBlocks) s u

/-! ### The crossing sequence -/

/-- R66: the open mark is set t_min_open after OPEN was entered. R81: the long-bin mark is set 480,000 ms after the closure
start. R80: LONG_CLOSURE is raised once more than t_long has passed since it. -/
def Obligations.ClosureMarksAreSet : Prop :=
  (∀ s : State, s.part = .run → s.seq.state = some .roadOpen → s.seq.openMark = false →
    s.seq.tMinOpen ≤ elapsed s.now s.seq.entry →
    exec .openMark s = .next { s with seq := { s.seq with openMark := true } }) ∧
  (∀ (x : SeqState) (s : State), s.part = .run → s.seq.state = some x → x ≠ .roadOpen → s.seq.longBin = false →
    480000 ≤ elapsed s.now s.seq.closureStart →
    exec .longBinMark s = .next { s with seq := { s.seq with longBin := true } }) ∧
  (∀ (x : SeqState) (s : State), s.part = .run → s.seq.state = some x → x ≠ .roadOpen → s.seq.longFlag = false →
    s.seq.tLong < elapsed s.now s.seq.closureStart →
    exec .longClosureTimer s =
      .next (react (raise .longClosure 0 0 { s with seq := { s.seq with longFlag := true } })))

/-- R67: t_amber after AMBER was entered the Sequencer goes to RED_WAIT with the red start command. R68: t_prelower after that
it goes to LOWER_ENTRY, releasing every configured entry barrier, with the exit-delay mark set, and R69 is tested. R69: when
the mark is reached and every configured entry barrier is DOWN or in FAULT it goes on to LOWER_EXIT, or to CLOSED when no
exit barrier is configured. A barrier's change of state is tested in the present state: R69 in LOWER_ENTRY; R70: in LOWER_EXIT,
with every configured exit barrier DOWN or in FAULT, to CLOSED, releasing every barrier not released already (with the demand
present it stays there, R73); R76: in RAISING, with every configured barrier HELD_UP, to OPEN, the lamps dark, the counted
closure placed in its bin of the histogram (R81), a LONG_CLOSURE ended (R80), the open mark begun afresh (R66). Bits 6 to 2 of
byte 3 of a SEQ_STATE record are 0 by log entry 25. -/
def Obligations.ClosingRunsItsTimers : Prop :=
  (∀ s : State, s.part = .run → s.seq.state = some .amber → s.seq.tAmber ≤ elapsed s.now s.seq.entry →
    ∃ u, exec .tAmberExpiry s = .next (react u) ∧
      u.seq = { s.seq with state := some .redWait, entry := s.now } ∧ u.lamps.gen = some ⟨.lOn, s.now⟩ ∧
      (∀ c : Fin 10, s.lamps.lamps[c].enabled = true →
        u.lamps.lamps[c].lit = decide (c = 1 ∨ c = 3 ∨ c = 6 ∨ c = 8)) ∧
      (∀ c : Fin 10, s.lamps.lamps[c].enabled = false → u.lamps.lamps[c] = s.lamps.lamps[c]) ∧
      u.reports.stateMark = true ∧ Wrote .seqState 0 ([1, 2, 1, byte s.seq.holdBits] ++ be32 4294967295) s u ∧
      Only [.seq, .lamps, .log, .notices, .reports] s u) ∧
  (∀ s : State, s.part = .run → s.seq.state = some .redWait → s.seq.tPrelower ≤ elapsed s.now s.seq.entry →
    ∃ v, exec .tPrelowerExpiry s = .next (react (testLowerEntry v)) ∧
      v.seq = { s.seq with
        state := some .lowerEntry, entry := s.now, exitMark := some (later s.now s.seq.tExitDelay) } ∧
      (∀ b : Fin 4, s.barriers[b].configured = true → s.barriers[b].role = .entry →
        s.barriers[b].state = some .heldUp →
        v.barriers[b].state = some .lowering ∧ v.barriers[b].holdOut = false ∧ v.barriers[b].raiseOut = false ∧
        v.barriers[b].motionStart = some s.now) ∧
      (∀ b : Fin 4, s.barriers[b].configured = false ∨ s.barriers[b].role = .exit →
        v.barriers[b] = s.barriers[b]) ∧
      v.lamps.gen.isSome = true ∧ Wrote .seqState 0 ([2, 3, 1, byte s.seq.holdBits] ++ be32 4294967295) s v ∧
      Only [.seq, .lamps, .barriers, .log, .notices, .reports] s v) ∧
  (∀ s : State, s.part = .run → s.seq.state = some .lowerEntry → reached s.now s.seq.exitMark = true →
    (∀ b : Fin 4, s.barriers[b].configured = true → s.barriers[b].role = .entry →
      s.barriers[b].state = some .down ∨ s.barriers[b].state = some .fault) →
    ∃ u, exec .exitDelayMark s = .next (react u) ∧ u = barrierChanged s ∧ u.seq.exitMark = none ∧
      u.seq.state ≠ some .lowerEntry ∧
      (s.hasExit = false → s.demand = true → u.seq.state = some .closed ∧ u.seq.entry = s.now) ∧
      (∀ b : Fin 4, s.barriers[b].configured = true → s.barriers[b].role = .exit →
        s.barriers[b].state = some .heldUp →
        u.seq.state = some .lowerExit ∧ u.seq.entry = s.now ∧ u.barriers[b].state = some .lowering ∧
        u.barriers[b].holdOut = false) ∧
      Only reactBlocks s u) ∧
  (∀ s : State,
    (s.seq.state = none ∨ s.seq.state = some .roadOpen ∨ s.seq.state = some .amber ∨ s.seq.state = some .redWait →
      barrierChanged s = s) ∧
    (s.seq.state = some .closed → barrierChanged s = takeDemand s) ∧
    (∀ b : Fin 4, s.barriers[b].configured = true →
      (s.seq.state = some .lowerEntry ∧ s.barriers[b].role = .entry ∧ s.barriers[b].state ≠ some .down ∧
          s.barriers[b].state ≠ some .fault) ∨
        (s.seq.state = some .lowerExit ∧ s.barriers[b].role = .exit ∧ s.barriers[b].state ≠ some .down ∧
          s.barriers[b].state ≠ some .fault) ∨
        (s.seq.state = some .raising ∧ s.barriers[b].state ≠ some .heldUp) →
      barrierChanged s = s) ∧
    (s.seq.state = some .lowerEntry → reached s.now s.seq.exitMark = false → barrierChanged s = s)) ∧
  (∀ s : State, s.part = .run → s.seq.state = some .lowerExit → s.demand = true →
    (∀ b : Fin 4, s.barriers[b].configured = true → s.barriers[b].role = .exit →
      s.barriers[b].state = some .down ∨ s.barriers[b].state = some .fault) →
    (barrierChanged s).seq = { s.seq with state := some .closed, entry := s.now } ∧
    (∀ b : Fin 4, s.barriers[b].configured = true →
      (barrierChanged s).barriers[b].holdOut = false ∨ s.barriers[b].state ≠ some .heldUp ∧
        s.barriers[b].state ≠ some .raising ∧ (barrierChanged s).barriers[b] = s.barriers[b]) ∧
    (barrierChanged s).lamps.gen.isSome = true ∧
    Wrote .seqState 0 ([4, 5, 2, byte s.seq.holdBits] ++ be32 4294967295) s (barrierChanged s) ∧
    Only [.seq, .lamps, .barriers, .log, .notices, .reports] s (barrierChanged s)) ∧
  (∀ s : State, s.part = .run → s.seq.state = some .raising →
    (∀ b : Fin 4, s.barriers[b].configured = true → s.barriers[b].state = some .heldUp) →
    let ms := if s.seq.longBin then 480000 else min 480000 (elapsed s.now s.seq.closureStart)
    let bin : Fin 32 := if ms < 30000 then 25 else if ms < 60000 then 26 else if ms < 120000 then 27
      else if ms < 240000 then 28 else if ms < 480000 then 29 else 30
    ∃ v, barrierChanged s = (if s.seq.longFlag then endCondition .longClosure 0 v else v) ∧
      v.seq = { s.seq with
        state := some .roadOpen, entry := s.now, counted := false, longFlag := false
        openMark := decide (s.seq.tMinOpen = 0) } ∧
      (∀ i : Fin 32, v.counters[i] =
        if i = bin ∧ s.seq.counted = true then s.counters[i].bumped else s.counters[i]) ∧
      v.lamps.gen = none ∧ (∀ c : Fin 10, s.lamps.lamps[c].enabled = true → v.lamps.lamps[c].lit = false) ∧
      Wrote .seqState 0
        ([6, 0, 2, byte s.seq.holdBits] ++ be32 (if s.seq.counted then ms else 4294967295)) s v ∧
      v.reports.stateMark = true ∧ Only [.seq, .lamps, .log, .notices, .reports, .counters] s v)

/-- R66, R71, R73, R76, R77: what the Sequencer does as it takes the demand. OPEN with the demand goes to AMBER and starts a
counted closure; RAISING with the demand closes again in LOWER_ENTRY or beyond without a new closure; CLOSED without the
demand and with every configured barrier DOWN is left for RAISING or OPEN unless the re-open guard finds a record, which it
commits; in every other state and case nothing changes. R74, R54: the guard time is t_min_open plus the largest raising t_total
of a configured barrier, and the guard commits with cause GUARD every uncommitted record whose S is at most that far ahead; an
S that is now is taken as one of them (log entry 12). -/
def Obligations.TakingTheDemand : Prop :=
  ∀ s : State,
    (s.seq.state = none ∨ s.seq.state = some .amber ∨ s.seq.state = some .redWait ∨ s.seq.state = some .lowerEntry ∨
        s.seq.state = some .lowerExit → takeDemand s = s) ∧
    (s.seq.state = some .roadOpen ∨ s.seq.state = some .raising → s.demand = false → takeDemand s = s) ∧
    (s.seq.state = some .closed → s.demand = true ∨ (∃ b : Fin 4, s.barriers[b].configured = true ∧
        s.barriers[b].state ≠ some .down) → takeDemand s = s) ∧
    (s.seq.state = some .roadOpen → s.demand = true →
      (takeDemand s).seq = { s.seq with
        state := some .amber, entry := s.now, closureStart := s.now, counted := true, longBin := false,
        longFlag := false } ∧
      (takeDemand s).counters[(12 : Fin 32)] = s.counters[(12 : Fin 32)].bumped ∧
      (takeDemand s).lamps.gen = none ∧ (takeDemand s).lamps.test = none ∧
      (∀ c : Fin 10, s.lamps.lamps[c].enabled = true →
        (takeDemand s).lamps.lamps[c].lit = decide (c = 0 ∨ c = 5)) ∧
      Only [.seq, .lamps, .log, .notices, .reports, .counters] s (takeDemand s)) ∧
    (s.seq.state = some .raising → s.demand = true →
      ((takeDemand s).seq.state = some .lowerEntry ∨ (takeDemand s).seq.state = some .lowerExit ∨
        (takeDemand s).seq.state = some .closed) ∧
      (takeDemand s).seq.closureStart = s.seq.closureStart ∧ (takeDemand s).seq.counted = s.seq.counted ∧
      (takeDemand s).counters[(12 : Fin 32)] = s.counters[(12 : Fin 32)] ∧
      (takeDemand s).lamps.gen.isSome = true ∧
      (∀ b : Fin 4, s.barriers[b].configured = true →
        (s.barriers[b].state = some .raising ∨ (s.barriers[b].state = some .heldUp ∧ s.barriers[b].role = .entry)) →
        (takeDemand s).barriers[b].holdOut = false ∧ (takeDemand s).barriers[b].raiseOut = false)) ∧
    (s.seq.state = some .closed → s.demand = false → (∀ b : Fin 4, s.barriers[b].configured = true →
        s.barriers[b].state = some .down) →
      if ∃ k : Fin 4, guardTakes s.now s.guardMs s.slots[k] = true then
        (takeDemand s).seq = s.seq ∧ Only [.slots, .log, .notices] s (takeDemand s) ∧
        ∀ k : Fin 4, (takeDemand s).slots[k] =
          if guardTakes s.now s.guardMs s.slots[k] then
            { s.slots[k] with record := s.slots[k].record.map fun r => committedBy r .guard s.now }
          else s.slots[k]
      else
        (takeDemand s).slots = s.slots ∧
        ((takeDemand s).seq.state = some .raising ∨ (takeDemand s).seq.state = some .roadOpen) ∧
        ∀ b : Fin 4, s.barriers[b].configured = true →
          (takeDemand s).barriers[b].state = some .raising ∨ (takeDemand s).barriers[b].state = some .heldUp) ∧
    (∃ m, s.guardMs = s.seq.tMinOpen + m ∧
      (∀ b : Fin 4, s.barriers[b].configured = true → s.barriers[b].raise.total ≤ m) ∧
      (m = 0 ∨ ∃ b : Fin 4, s.barriers[b].configured = true ∧ s.barriers[b].raise.total = m)) ∧
    (∀ (k : Fin 4) (g : Nat), guardTakes s.now g s.slots[k] = true ↔
      ∃ r w, s.slots[k].record = some r ∧ r.committed = false ∧ r.warningS = some w ∧ elapsed w s.now ≤ g)

/-! ### Road lights -/

/-- R89: the generator passes from part to part, a gap of length 0 passed through, and lights the reds of its part alone. R97:
the start-up flash changes halves every 500 ms. -/
def Obligations.FlashesAlternate : Prop :=
  (∀ (g : Flashing) (s : State), s.part = .run → s.lamps.gen = some g →
    s.lamps.flash.length g.part ≤ elapsed s.now g.since →
    let next : FlashPart :=
      match g.part with
      | .lOn => if s.lamps.flash.g1 = 0 then .rOn else .g1
      | .g1 => .rOn
      | .rOn => if s.lamps.flash.g2 = 0 then .lOn else .g2
      | .g2 => .lOn
    ∃ t, exec .flashPartEnd s = .next t ∧ t.lamps.gen = some ⟨next, s.now⟩ ∧
      (∀ c : Fin 10, s.lamps.lamps[c].enabled = true → c ≠ 0 → c ≠ 5 →
        t.lamps.lamps[c].lit = decide ((next = .lOn ∧ (c = 1 ∨ c = 3 ∨ c = 6 ∨ c = 8)) ∨
          (next = .rOn ∧ (c = 2 ∨ c = 4 ∨ c = 7 ∨ c = 9)))) ∧
      (∀ c : Fin 10, s.lamps.lamps[c].enabled = false ∨ c = 0 ∨ c = 5 → t.lamps.lamps[c] = s.lamps.lamps[c]) ∧
      t.lamps.flash = s.lamps.flash ∧ t.lamps.test = s.lamps.test ∧ Only [.lamps] s t) ∧
  (∀ (f : StartUpFlash) (s : State), s.part = .config → s.lamps.startUp = some f → 500 ≤ elapsed s.now f.since →
    ∃ t, exec .startUpFlashHalf s = .next t ∧ t.lamps.startUp = some ⟨!f.leftHalf, s.now⟩ ∧
      (∀ c : Fin 10, t.lamps.lamps[c] = { s.lamps.lamps[c] with
        lit := if f.leftHalf then decide (c = 2 ∨ c = 4 ∨ c = 7 ∨ c = 9)
          else decide (c = 1 ∨ c = 3 ∨ c = 6 ∨ c = 8) }) ∧
      Only [.lamps] s t)

/-- R92: a lit sample within I_min to I_max counts good, another bad and in LAMP_PROOF_FAILS; three bad in a row make
the channel FAILED, eight good in a row make it not so; LAMP_FAIL is raised for the channel, with detail 1 below I_min
and 2 above I_max, or ended (R92), and then ROAD_SIDE_DARK of Road Side A and of Road Side B raised with its detail or
ended (R96). R95: two dark samples in a row that differ from the stuck-on flag turn it, and LAMP_STUCK_ON is raised with
the second reading in units of 20 mA, or ended. A dark sample due at the moment the dark period ends is not taken (R94),
and in CONFIG no sample is taken (R91, R94). R86: a reading above 4,000 mA is taken as 4,000 mA. -/
def Obligations.LampSamplesAreJudged : Prop :=
  (∀ (c : Fin 10) (mA : Nat) (d : Time) (s : State), s.part = .run → s.lamps.lamps[c].enabled = true →
    s.lamps.lamps[c].lit = true → s.lamps.lamps[c].litDue = some d → atOrBefore d s.now = true →
    let l := s.lamps.lamps[c]
    let isGood := decide (l.iMin ≤ min mA 4000 ∧ min mA 4000 ≤ l.iMax)
    ∃ u, exec (.litProof c mA) s = .next (react u) ∧ u.pins.current[c] = mA ∧
      u.lamps.lamps[c] = { l with
        current := some (min mA 4000)
        good := if isGood then min 255 (l.good + 1) else 0
        bad := if isGood then 0 else min 255 (l.bad + 1)
        failed := if isGood then l.failed && decide (l.good + 1 < 8) else l.failed || decide (3 ≤ l.bad + 1)
        litDue := if c = 0 ∨ c = 5 then some (later d 500) else none } ∧
      (∀ k : Fin 10, k ≠ c → u.lamps.lamps[k] = s.lamps.lamps[k]) ∧
      u.counters[(18 : Fin 32)] = (if isGood then s.counters[(18 : Fin 32)] else s.counters[(18 : Fin 32)].bumped) ∧
      (∃ v, Only [.pins, .lamps, .counters, .notices] s v ∧
        u = darkChange s u 1 [6, 8] [7, 9] (darkChange s u 0 [1, 3] [2, 4]
          (atEdge .lampFail c.val (if min mA 4000 < l.iMin then 1 else 2) l.failed u.lamps.lamps[c].failed v))) ∧
      Only ([.pins, .lamps] ++ faultBlocks) s u) ∧
  (∀ (c : Fin 10) (mA : Nat) (d : Time) (s : State), s.part = .run → s.lamps.lamps[c].enabled = true →
    s.lamps.lamps[c].lit = false → s.lamps.lamps[c].darkDue = some d → atOrBefore d s.now = true →
    s.darkEnding c = false →
    let l := s.lamps.lamps[c]
    let differs := decide (l.iOff < min mA 4000) != l.stuckOn
    ∃ u, exec (.darkSample c mA) s = .next (react u) ∧ u.pins.current[c] = mA ∧
      u.lamps.lamps[c] = { l with
        darkRun := if differs && decide (l.darkRun = 0) then 1 else 0
        stuckOn := if differs && decide (1 ≤ l.darkRun) then !l.stuckOn else l.stuckOn
        darkDue := some (later d 100) } ∧
      (∀ k : Fin 10, k ≠ c → u.lamps.lamps[k] = s.lamps.lamps[k]) ∧
      (∃ v, Only [.pins, .lamps] s v ∧
        u = atEdge .lampStuckOn c.val (min mA 4000 / 20) l.stuckOn u.lamps.lamps[c].stuckOn v) ∧
      Only ([.pins, .lamps] ++ faultBlocks) s u) ∧
  (∀ (c : Fin 10) (mA : Nat) (s : State), s.darkEnding c = true →
    ∃ t, exec (.darkSample c mA) s = .next t ∧ Only [.pins] s t) ∧
  (∀ (c : Fin 10) (mA : Nat) (s : State), s.part = .config →
    (∃ t, exec (.litProof c mA) s = .next t ∧ Only [.pins] s t) ∧
    ∃ t, exec (.darkSample c mA) s = .next t ∧ Only [.pins] s t)

/-! ### Barriers -/

/-- R105 to R107, R110, R112, R113, R115, R116: what an accepted contact change makes of a barrier. LOWERING with DOWN made is
DOWN, RAISING with UP made is HELD_UP, both made in any state but FAULT is a CONTACTS fault that raises BARRIER_FAIL (R114); UP
lost in HELD_UP and DOWN lost in DOWN set their marks, and made again clear them, DOWN with the disturbed flag and the end of
BARRIER_DISTURBED; in FAULT the settled mark is present while DOWN is made and UP open. In CONFIG, and for a channel not
configured, the inputs alone change. (A change that repeats both accepted values is judged all the same: log entry 23.) -/
def Obligations.BarrierContactsMoveTheBarrier : Prop :=
  (∀ (b : Fin 4) (up down : Bool) (s : State), s.part = .config ∨ s.barriers[b].configured = false →
    ∃ t, exec (.barrierContactChange b up down) s = .next t ∧ t.pins.contacts[b] = ⟨up, down⟩ ∧
      (∀ a : Fin 4, a ≠ b → t.pins.contacts[a] = s.pins.contacts[a]) ∧ Only [.pins] s t) ∧
  (∀ (b : Fin 4) (s : State), s.part = .run → s.barriers[b].configured = true → s.barriers[b].disturbed = false →
    (s.barriers[b].state = some .lowering →
      ∃ v, exec (.barrierContactChange b false true) s = .next (react (barrierChanged v)) ∧
        v.barriers[b].state = some .down ∧ v.barriers[b].holdOut = false ∧ v.barriers[b].raiseOut = false ∧
        v.barriers[b].phase = none ∧ v.barriers[b].down.accepted = true ∧ v.barriers[b].up.accepted = false ∧
        (∀ a : Fin 4, a ≠ b → v.barriers[a] = s.barriers[a]) ∧ Only [.pins, .barriers] s v) ∧
    (s.barriers[b].state = some .raising →
      ∃ v, exec (.barrierContactChange b true false) s = .next (react (barrierChanged v)) ∧
        v.barriers[b].state = some .heldUp ∧ v.barriers[b].holdOut = true ∧ v.barriers[b].raiseOut = false ∧
        v.barriers[b].phase = none ∧ v.barriers[b].up.accepted = true ∧ v.barriers[b].down.accepted = false ∧
        (∀ a : Fin 4, a ≠ b → v.barriers[a] = s.barriers[a]) ∧ Only [.pins, .barriers] s v) ∧
    (s.barriers[b].state = some .lowering ∨ s.barriers[b].state = some .raising → s.barriers[b].phase = some .leave →
      ∃ u, exec (.barrierContactChange b false false) s = .next (react u) ∧
        u.barriers[b].state = s.barriers[b].state ∧ u.barriers[b].phase = some .travel ∧
        u.barriers[b].phaseStart = some s.now ∧ u.barriers[b].motionStart = s.barriers[b].motionStart ∧
        (∀ a : Fin 4, a ≠ b → u.barriers[a] = s.barriers[a]) ∧ Only [.pins, .barriers] s u) ∧
    (s.barriers[b].state = some .heldUp → s.barriers[b].dropped = none →
      ∃ u, exec (.barrierContactChange b false false) s = .next (react u) ∧
        u.barriers[b].state = some .heldUp ∧ u.barriers[b].dropped = some s.now ∧ Only [.pins, .barriers] s u) ∧
    (s.barriers[b].state = some .down → s.barriers[b].lostDown = none →
      ∃ u, exec (.barrierContactChange b false false) s = .next (react u) ∧
        u.barriers[b].state = some .down ∧ u.barriers[b].lostDown = some s.now ∧ Only [.pins, .barriers] s u)) ∧
  (∀ (b : Fin 4) (s : State), s.part = .run → s.barriers[b].configured = true →
    (s.barriers[b].state = some .heldUp → s.barriers[b].disturbed = false →
      ∃ u, exec (.barrierContactChange b true false) s = .next (react u) ∧
        u.barriers[b].state = some .heldUp ∧ u.barriers[b].dropped = none ∧ u.barriers[b].up.accepted = true ∧
        (∀ a : Fin 4, a ≠ b → u.barriers[a] = s.barriers[a]) ∧ Only [.pins, .barriers] s u) ∧
    (s.barriers[b].state = some .down →
      ∃ v, exec (.barrierContactChange b false true) s =
          .next (react (if s.barriers[b].disturbed then endCondition .barrierDisturbed b.val v else v)) ∧
        v.barriers[b].state = some .down ∧ v.barriers[b].lostDown = none ∧ v.barriers[b].disturbed = false ∧
        v.barriers[b].down.accepted = true ∧ v.barriers[b].holdOut = s.barriers[b].holdOut ∧
        v.barriers[b].raiseOut = s.barriers[b].raiseOut ∧
        (∀ a : Fin 4, a ≠ b → v.barriers[a] = s.barriers[a]) ∧ Only [.pins, .barriers] s v) ∧
    (s.barriers[b].state = some .fault → ∀ up down : Bool,
      ∃ u, exec (.barrierContactChange b up down) s = .next (react u) ∧
        u.barriers[b] = { s.barriers[b] with
          up := u.barriers[b].up, down := u.barriers[b].down
          settled := if down = true ∧ up = false then some (s.barriers[b].settled.getD s.now) else none } ∧
        u.barriers[b].up.accepted = up ∧ u.barriers[b].down.accepted = down ∧
        (∀ a : Fin 4, a ≠ b → u.barriers[a] = s.barriers[a]) ∧ Only [.pins, .barriers] s u)) ∧
  (∀ (b : Fin 4) (x : BarrierState) (s : State), s.part = .run → s.barriers[b].configured = true →
    s.barriers[b].state = some x → x ≠ .fault →
    ∃ t, exec (.barrierContactChange b true true) s = .next t ∧ t.barriers[b].state = some .fault ∧
      t.barriers[b].holdOut = false ∧ t.barriers[b].raiseOut = false ∧ t.barriers[b].detail = 7 ∧
      t.counters[(19 : Fin 32)].value = s.counters[(19 : Fin 32)].bumped.value ∧
      (∃ v, v.barriers[b] = { s.barriers[b] with up := v.barriers[b].up, down := v.barriers[b].down } ∧
        v.barriers[b].up.accepted = true ∧ v.barriers[b].down.accepted = true ∧
        (∀ a : Fin 4, a ≠ b → v.barriers[a] = s.barriers[a]) ∧ Only [.pins, .barriers] s v ∧ BarrierFails b 7 v t) ∧
      Only ([.pins, .free] ++ reactBlocks) s t)

/-- R107, R108, R110: a limit that passes has the pair judged, before its own fault (log entry 23): both contacts made is the
CONTACTS fault (R112), LOWERING with DOWN made is DOWN, RAISING with UP made is HELD_UP, LEAVE with both open is TRAVEL from
now. R108, R110, R113, R114, R72: a passed limit that binds the motion still, the phase's own before the total, and a barrier
dropped from HELD_UP put the barrier in FAULT with its outputs off and its motion ended, its settled mark by R115, raise
BARRIER_FAIL with the cause after the end of a BARRIER_DISTURBED (R116, `Obligations.RaisesAndEndsChangeOneRecord`), count in
BARRIER_FAULTS, and take the Sequencer from OPEN or AMBER to RED_WAIT at once. -/
def Obligations.BarrierFaultsAreTaken : Prop :=
  (∀ (b : Fin 4) (m : MotionLimits) (s : State), s.part = .run →
    (s.barriers[b].state = some .lowering ∧ m = s.barriers[b].lower) ∨
      (s.barriers[b].state = some .raising ∧ m = s.barriers[b].raise) →
    (s.barriers[b].phase = some .leave ∧ (agedPast s.now s.barriers[b].motionStart m.leave = true ∨
        agedPast s.now s.barriers[b].motionStart m.total = true)) ∨
      (s.barriers[b].phase = some .travel ∧ (agedPast s.now s.barriers[b].phaseStart m.travel = true ∨
        agedPast s.now s.barriers[b].motionStart m.total = true)) →
    (s.barriers[b].up.accepted = true → s.barriers[b].down.accepted = true →
      ∃ t, exec (.barrierLimit b) s = .next t ∧ BarrierFails b 7 s t) ∧
    (s.barriers[b].state = some .lowering → s.barriers[b].up.accepted = false → s.barriers[b].down.accepted = true →
      exec (.barrierLimit b) s = .next (react (barrierChanged { s with barriers := s.barriers.set b { s.barriers[b] with
        state := some .down, holdOut := false, raiseOut := false, phase := none, motionStart := none
        phaseStart := none } }))) ∧
    (s.barriers[b].state = some .raising → s.barriers[b].up.accepted = true → s.barriers[b].down.accepted = false →
      exec (.barrierLimit b) s = .next (react (barrierChanged { s with barriers := s.barriers.set b { s.barriers[b] with
        state := some .heldUp, holdOut := true, raiseOut := false, phase := none, motionStart := none
        phaseStart := none } }))) ∧
    (s.barriers[b].phase = some .leave → s.barriers[b].up.accepted = false → s.barriers[b].down.accepted = false →
      agedPast s.now s.barriers[b].motionStart m.total = false →
      exec (.barrierLimit b) s = .next (react { s with barriers := s.barriers.set b { s.barriers[b] with
        phase := some .travel, phaseStart := some s.now } }))) ∧
  ∀ (c : Instr) (b : Fin 4) (detail : Nat) (s : State), s.part = .run →
    ((c = .barrierLimit b ∧
        ∃ m : MotionLimits, ∃ base : Nat, ∃ left reached : Bool,
          ((s.barriers[b].state = some .lowering ∧ m = s.barriers[b].lower ∧ base = 0 ∧
              left = s.barriers[b].up.accepted ∧ reached = s.barriers[b].down.accepted) ∨
            (s.barriers[b].state = some .raising ∧ m = s.barriers[b].raise ∧ base = 3 ∧
              left = s.barriers[b].down.accepted ∧ reached = s.barriers[b].up.accepted)) ∧ reached = false ∧
          ((s.barriers[b].phase = some .leave ∧ left = true ∧
              agedPast s.now s.barriers[b].motionStart m.leave = true ∧ detail = base + 1) ∨
            (s.barriers[b].phase = some .leave ∧
              (left = true → agedPast s.now s.barriers[b].motionStart m.leave = false) ∧
              agedPast s.now s.barriers[b].motionStart m.total = true ∧ detail = base + 3) ∨
            (s.barriers[b].phase = some .travel ∧ agedPast s.now s.barriers[b].phaseStart m.travel = true ∧
              detail = base + 2) ∨
            (s.barriers[b].phase = some .travel ∧ agedPast s.now s.barriers[b].phaseStart m.travel = false ∧
              agedPast s.now s.barriers[b].motionStart m.total = true ∧ detail = base + 3))) ∨
      (c = .barrierDropped b ∧ s.barriers[b].state = some .heldUp ∧ s.barriers[b].up.accepted = false ∧
        agedBy s.now s.barriers[b].dropped 2000 = true ∧ detail = 8)) →
    ∃ t, exec c s = .next t ∧ t.barriers[b].state = some .fault ∧ t.barriers[b].holdOut = false ∧
      t.barriers[b].raiseOut = false ∧ t.barriers[b].detail = detail ∧ t.barriers[b].phase = none ∧
      t.barriers[b].motionStart = none ∧ t.barriers[b].dropped = none ∧ t.barriers[b].lostDown = none ∧
      t.counters[(19 : Fin 32)].value = s.counters[(19 : Fin 32)].bumped.value ∧
      (s.seq.state = some .roadOpen ∨ s.seq.state = some .amber → t.seq.state = some .redWait) ∧
      BarrierFails b detail s t ∧ Only (.free :: reactBlocks) s t

/-- R115: a barrier in FAULT that has been down and at rest for 2,000 ms goes to DOWN and its BARRIER_FAIL ends. R116: a barrier
in DOWN whose DOWN contact has been open for 2,000 ms raises BARRIER_DISTURBED and stays DOWN. -/
def Obligations.BarriersSettleOrAreDisturbed : Prop :=
  (∀ (b : Fin 4) (m : Time) (s : State), s.part = .run → s.barriers[b].state = some .fault →
    s.barriers[b].settled = some m → 2000 ≤ elapsed s.now m →
    exec (.barrierSettled b) s = .next (react (barrierChanged (endCondition .barrierFail b.val
      { s with barriers := s.barriers.set b { s.barriers[b] with
        state := some .down, holdOut := false, raiseOut := false, settled := none } })))) ∧
  (∀ (b : Fin 4) (m : Time) (s : State), s.part = .run → s.barriers[b].state = some .down →
    s.barriers[b].down.accepted = false → s.barriers[b].disturbed = false → s.barriers[b].lostDown = some m →
    2000 ≤ elapsed s.now m →
    exec (.barrierLostDown b) s = .next (react (raise .barrierDisturbed b.val 0
      { s with barriers := s.barriers.set b { s.barriers[b] with disturbed := true } })))

/-! ### Supply inputs -/

/-- R136: an input accepted low raises its fault, one accepted high again ends it, and one that shows the value accepted
already changes nothing. In CONFIG the level changes and nothing else. -/
def Obligations.SupplyInputsRaiseAndEnd : Prop :=
  ∀ (i : SupplyInput) (ok : Bool) (s : State),
    (s.part = .config → ∃ t, exec (.supplyInputChange i ok) s = .next t ∧ Only [.pins] s t ∧
      (i = .mains → t.pins.mains = ok) ∧ (i = .batt → t.pins.batt = ok)) ∧
    (s.part = .run → (s.supply.filter i).accepted = ok →
      ∃ u, exec (.supplyInputChange i ok) s = .next (react u) ∧ Only [.pins] s u) ∧
    (s.part = .run → (s.supply.filter i).accepted = !ok →
      ∃ v, exec (.supplyInputChange i ok) s = .next (react (if ok then endCondition
            (match i with | .mains => .supplyMains | .batt => .supplyBattery) 0 v
          else raise (match i with | .mains => .supplyMains | .batt => .supplyBattery) 0 0 v)) ∧
        (v.supply.filter i).accepted = ok ∧ (∀ j, j ≠ i → v.supply.filter j = s.supply.filter j) ∧
        Only [.pins, .supply] s v)

/-! ### The signaller line -/

/-- R146 to R149, R173: a valid BEACON takes DOWN or LOST to SYNC, SYNC to ACTIVE unless it is late, and renews ACTIVE;
the entry to ACTIVE forces every record due, makes a STATUS due and starts the health timer. A BEACON that is not valid
is counted and has no effect. More than three beacon intervals without one lose the link: the frame in flight and the
wait end, the receiver going to SKIPPING if the frame had begun (R152, R156; log entry 26), the CONFIRM slot is emptied,
and LINK_LOST is raised; it ends as LOST goes to SYNC (R148). Each change of link state writes a LINK record and queues
a LINK notice (R149), and a beacon that changes none does neither. A beacon 2^31 ms and more after the first of a SYNC is
judged by the difference modulo 2^32: that is the model's choice of log entry 27, since R147 gives SYNC no timeout and the
introduction, 4.2, says that every difference is less than 2^31. -/
def Obligations.BeaconsDriveTheLink : Prop :=
  (∀ (cls : BitVec 2) (s : State), LineReady s → s.line.own ≠ some 0 →
    ∃ t, exec (.beacon ⟨cls, 0, 63⟩ []) s = .next t ∧ t.counters[(20 : Fin 32)] = s.counters[(20 : Fin 32)].bumped ∧
      (s.line.link = .down ∨ s.line.link = .lost → t.line.link = .sync ∧ t.line.firstBeacon = some s.now) ∧
      (s.line.link = .sync → agedPast s.now s.line.firstBeacon (2 * s.line.beaconMs) = true →
        t.line.link = .sync ∧ t.line.firstBeacon = some s.now) ∧
      (s.line.link = .sync → agedPast s.now s.line.firstBeacon (2 * s.line.beaconMs) = false →
        t.line.link = .active ∧ t.line.lastBeacon = some s.now ∧ t.reports.stateMark = true ∧
        t.reports.healthTimer = some (later s.now (s.line.tHealth * 1000)) ∧
        ∀ i : Fin 32, t.faults.table[i].forced = t.faults.table[i].record.isSome) ∧
      (s.line.link = .active → t.line.link = .active ∧ t.line.lastBeacon = some s.now) ∧
      (∃ w v, Only [.line, .counters, .notices] s w ∧
        t = react (if s.line.link = .lost then endCondition .linkLost 0 v else v) ∧
        (s.line.link = .down ∨ s.line.link = .lost → LinkMoves .sync 0 w v ∧ v.faults = s.faults) ∧
        (s.line.link = .sync → agedPast s.now s.line.firstBeacon (2 * s.line.beaconMs) = false →
          LinkMoves .active 0 w v) ∧
        (s.line.link = .active ∨
            (s.line.link = .sync ∧ agedPast s.now s.line.firstBeacon (2 * s.line.beaconMs) = true) →
          Only [.link] w v)) ∧
      Only (.link :: reactBlocks) s t) ∧
  (∀ (h : LineHead) (payload : List Byte) (s : State), LineReady s → s.line.own ≠ some h.src → (s.line.addressing h.dest).isSome = true →
    payload.length ≤ 24 → (h.src ≠ 0 ∨ h.dest ≠ 63 ∨ payload ≠ []) →
    ∃ u, exec (.beacon h payload) s = .next (react u) ∧ u.counters[(20 : Fin 32)] = s.counters[(20 : Fin 32)].bumped ∧
      Only [.line, .counters, .notices] s u) ∧
  (∀ (b : Time) (s : State), s.part = .run → s.line.link = .active → s.line.lastBeacon = some b →
    3 * s.line.beaconMs < elapsed s.now b →
    ∃ t, exec .beaconTimeout s = .next t ∧ t.line.link = .lost ∧ t.line.wait = none ∧ t.line.inFlight = none ∧
      t.line.rx = (if ∃ f, s.line.inFlight = some f ∧ f.begun = true then .skipping else s.line.rx) ∧
      t.reports.confirm = none ∧ t.reports.healthMark = false ∧ t.reports.healthTimer = none ∧
      (∀ i : Fin 32, t.faults.table[i].forced = false) ∧
      (∃ v, t = react (raise .linkLost 0 0 v) ∧ LinkMoves .lost 1 s v ∧
        (∀ i : Fin 32, v.faults.table[i].record = s.faults.table[i].record) ∧
        Only [.link, .line, .log, .notices, .reports, .faults] s v) ∧
      Only ([.link, .free] ++ reactBlocks) s t)

/-- R160, R161, R163: in ACTIVE a command of the signal box is tested for its KIND, then for its length; a POLL makes a STATUS
due; the result is logged, and confirmed when the frame was sent to the own address. A frame from another source is logged
as refused with no effect. -/
def Obligations.CommandFramesAreTaken : Prop :=
  (∀ (h : LineHead) (addr : Addressing) (s : State), LineReady s → s.line.link = .active → h.src = 0 →
    s.line.own ≠ some 0 → s.line.addressing h.dest = some addr →
    (∃ u, exec (.poll h []) s = .next (react u) ∧ u.reports.stateMark = true ∧
      u.reports.confirm = (if addr = .own then some ⟨0x02, .ok⟩ else s.reports.confirm) ∧
      u.counters[(20 : Fin 32)] = s.counters[(20 : Fin 32)].bumped ∧
      Wrote .sigCmd 0 [0x02, byte addr.code, 0, 0] s u ∧ Only [.line, .log, .notices, .counters, .reports] s u) ∧
    (∀ (kind : Byte) (payload : List Byte), kind ∉ boxKinds → payload.length ≤ 24 →
      ∃ u, exec (.sigCmdUnknownKind h kind payload) s = .next (react u) ∧
        u.reports.confirm = (if addr = .own then some ⟨kind, .unknownKind⟩ else s.reports.confirm) ∧
        u.reports.stateMark = s.reports.stateMark ∧ u.counters[(20 : Fin 32)] = s.counters[(20 : Fin 32)].bumped ∧
        Wrote .sigCmd 0 ([kind, byte addr.code, 1, 0] ++ payload.take 4) s u ∧
        Only [.line, .log, .notices, .counters, .reports] s u) ∧
    (∀ (c : Instr) (kind : Byte) (payload : List Byte), payload.length ≤ 24 →
      ((c = .poll h payload ∧ kind = 0x02 ∧ payload ≠ []) ∨
        (c = .sigAck h payload ∧ kind = 0x03 ∧ countFits payload = false) ∨
        (c = .sigRestore h payload ∧ kind = 0x04 ∧ payload.length ≠ 2) ∨
        (c = .sigHold h payload ∧ kind = 0x05 ∧ payload.length ≠ 1) ∨
        (c = .sigRelease h payload ∧ kind = 0x06 ∧ payload ≠ [])) →
      ∃ u, exec c s = .next (react u) ∧
        u.reports.confirm = (if addr = .own then some ⟨kind, .badLength⟩ else s.reports.confirm) ∧
        u.reports.stateMark = s.reports.stateMark ∧ u.counters[(20 : Fin 32)] = s.counters[(20 : Fin 32)].bumped ∧
        Wrote .sigCmd 0 ([kind, byte addr.code, 2, 0] ++ payload.take 4) s u ∧
        Only [.line, .log, .notices, .counters, .reports] s u)) ∧
  (∀ (h : LineHead) (addr : Addressing) (kind : Byte) (payload : List Byte) (s : State), LineReady s →
    s.line.link = .active → h.src ≠ 0 → s.line.own ≠ some h.src → s.line.addressing h.dest = some addr →
    kind ≠ 0x01 → payload.length ≤ 24 →
    ∃ u, exec (.sigCmdRefusedSource h kind payload) s = .next (react u) ∧
      Wrote .sigCmd h.src.toNat ([kind, byte addr.code, 0xFF, 1] ++ payload.take 4) s u ∧
      u.counters[(20 : Fin 32)] = s.counters[(20 : Fin 32)].bumped ∧ Only [.line, .log, .notices, .counters] s u)

/-- R143 to R145: a framing error, a DEST with an upper bit set or a LEN above 24 discards the frame and leaves the receiver in
SKIPPING; a wrong check code or a gap of more than 20 bit-times discards it and leaves the receiver IDLE; each is counted once
in LINE_FRAMES_BAD. In SKIPPING no character is taken or counted, be it of a good frame or of a bad one, and each sets the
quiet count by its dominant bits (R141; log entry 18: to the recessive bits after the last of them, 0 with the stop bit
dominant); SKIPPING ends when the quiet count exceeds 20. In CONFIG the line is not received. -/
def Obligations.BadLineFramesAreCounted : Prop :=
  (∀ (chars : List Byte) (err : Bool) (rx : RxState) (s : State), LineReady s → s.line.assembly = [] →
    ((chars = [] ∧ err = true ∧ rx = .skipping) ∨
      (∃ hd dest : Byte, chars = [hd, dest] ∧ 64 ≤ dest.toNat ∧ err = false ∧ rx = .skipping) ∨
      (∃ hd dest len : Byte, chars = [hd, dest, len] ∧ dest.toNat < 64 ∧ 24 < len.toNat ∧ err = false ∧
        rx = .skipping) ∨
      (∃ (hd dest len kind : Byte) (body : List Byte), chars = [hd, dest, len, kind] ++ body ∧ dest.toNat < 64 ∧
        len.toNat ≤ 24 ∧ body.length = len.toNat + 2 ∧
        crcBytes ([hd, dest, len, kind] ++ body.take len.toNat) ≠ body.drop len.toNat ∧ err = false ∧ rx = .idle)) →
    s.line.headBits = [] →
    ∃ u, exec (.lineFrameBad chars err) s = .next (react u) ∧ u.line.rx = rx ∧ u.line.assembly = [] ∧
      u.line.quiet = 0 ∧ u.line.wait = none ∧ u.counters[(21 : Fin 32)] = s.counters[(21 : Fin 32)].bumped ∧
      Only [.line, .counters, .notices] s u) ∧
  (∀ s : State, s.part = .run → s.line.rx = .assembling → s.line.inFlight = none →
    ∃ u, exec (.lineGapAbort []) s = .next (react u) ∧ u.line.rx = .idle ∧ u.line.assembly = [] ∧
      20 < u.line.quiet ∧ u.counters[(21 : Fin 32)] = s.counters[(21 : Fin 32)].bumped ∧
      Only [.line, .counters, .notices] s u) ∧
  (∀ (hd : Byte) (s : State), LineReady s → s.line.assembly = [] →
    ∃ u, exec (.lineGapAbort [hd]) s = .next (react u) ∧ u.line.rx = .idle ∧ u.line.assembly = [] ∧
      u.counters[(21 : Fin 32)] = s.counters[(21 : Fin 32)].bumped ∧ Only [.line, .counters, .notices] s u) ∧
  (∀ (chars : List Byte) (err : Bool) (s : State), s.part = .run → s.line.rx = .skipping → NoFrameBegun s.line →
    ∃ q, exec (.lineFrameBad chars err) s = .next (react { s with line := { s.line with quiet := q } }) ∧
      (err = true → q = 0) ∧ (err = false → chars = [] → q = s.line.quiet) ∧
      ∀ c, err = false → chars.getLast? = some c →
        1 ≤ q ∧ q ≤ 9 ∧ (∀ i, i + 1 < q → c.getLsbD i = true) ∧ (q ≤ 8 → c.getLsbD (q - 1) = false)) ∧
  (∀ (c : Instr) (h : LineHead) (kind : Byte) (payload : List Byte) (s : State),
    lineFrameOf c = some (h, kind, payload) → payload.length ≤ 24 → s.part = .run → s.line.rx = .skipping →
    NoFrameBegun s.line → exec c s = exec (.lineFrameBad (lineChars h kind payload) false) s) ∧
  (∀ (chars : List Byte) (err : Bool) (s : State), s.part = .config →
    exec (.lineFrameBad chars err) s = .next (react s)) ∧
  (∀ s : State, s.part = .run → s.line.rx = .skipping → 20 < s.line.quiet →
    exec .skipEnd s = .next (lineSettle { s with line := { s.line with rx := .idle } }))

/-- R145, R146: a frame from the part's own address is ignored uncounted; one for another station returns the waits to base and
is not counted; one addressed to the part while the link is not ACTIVE is counted and goes no further. A frame addresses the
part by its own address, by a group of its table or by 63. R154: a frame whose HEAD the receiver took over, part of it at a
lost arbitration, is received as it would be from IDLE, its characters joining the bits taken over. -/
def Obligations.FramesForOthersGoNoFurther : Prop :=
  (∀ (h : LineHead) (kind : Byte) (payload : List Byte) (s : State), LineReady s → payload.length ≤ 24 →
    (s.line.own = some h.src →
      ∃ u, exec (.ownAddressFrame h kind payload) s = .next (react u) ∧ Only [.line] s u ∧
        u.line.raisedAlarm = s.line.raisedAlarm ∧ u.line.raisedState = s.line.raisedState ∧
        u.line.raisedRoutine = s.line.raisedRoutine ∧ u.line.rx = .idle ∧ u.line.quiet = 0 ∧ u.line.wait = none) ∧
    (s.line.own ≠ some h.src → s.line.addressing h.dest = none →
      ∃ u, exec (.foreignFrame h kind payload) s = .next (react u) ∧ Only [.line] s u ∧ u.line.raisedAlarm = false ∧
        u.line.raisedState = false ∧ u.line.raisedRoutine = false ∧ u.line.rx = .idle ∧ u.line.quiet = 0) ∧
    (s.line.own ≠ some h.src → (s.line.addressing h.dest).isSome = true → kind ≠ 0x01 → s.line.link ≠ .active →
      ∃ u, exec (.addressedFrameLinkNotActive h kind payload) s = .next (react u) ∧
        Only [.line, .counters, .notices] s u ∧ u.counters[(20 : Fin 32)] = s.counters[(20 : Fin 32)].bumped ∧
        u.line.raisedAlarm = false ∧ u.line.raisedState = false ∧ u.line.raisedRoutine = false)) ∧
  (∀ (dest : BitVec 6) (l : LineController),
    (l.addressing dest = some .own ↔ l.own = some dest) ∧
    (l.addressing dest = some .group ↔ l.own ≠ some dest ∧ ∃ g : Fin 4, l.groups[g] = some dest) ∧
    (l.addressing dest = some .broadcast ↔
      l.own ≠ some dest ∧ (∀ g : Fin 4, l.groups[g] ≠ some dest) ∧ dest = 63)) ∧
  (∀ (c : Instr) (h : LineHead) (kind : Byte) (payload : List Byte) (n : Nat) (s t : State),
    lineFrameOf c = some (h, kind, payload) → payload.length ≤ 24 → s.part = .run → s.line.rx = .assembling →
    s.line.inFlight = none → s.line.assembly = [] → 1 ≤ n → n ≤ 8 →
    s.line.headBits = (bitsOfByte (byte (64 * h.cls.toNat + h.src.toNat))).take n →
    exec c { s with line := { s.line with rx := .idle, headBits := [] } } = .next t → exec c s = .next (react t))

/-- R150, R152, R153, R169, R170: a wait that reaches its W is given a frame of its class with the content then held, or
begins anew when the class has none. The frame begins with the next bit-time (R140), and its content is fixed at that
start bit: it is what the class holds then, so that a change since the wait's end reaches it (log entry 26 for a class
whose content has come or gone by then), and only from then on does it count as carrying a STATUS or a CONFIRM (R163,
R165, R170). R155, R171: at the last stop bit the frame is counted, its marks are written, its class's W is raised if
content of the class is still held (R150), and the receiver is IDLE with the quiet count 0. R164: a STATUS gives the
Sequencer's state, the mode, the latch, the hold set, the sections, the slots, the active records and the time. R166,
R169: an ALARM frame carries the entries of the due SEVERE records, a ROUTINE frame those of the other due records or,
with none, a STATUS for the health mark: the earliest changed first, up to three. -/
def Obligations.LineFramesAreStartedAndCompleted : Prop :=
  (∀ (cls : LineClass) (s : State), s.part = .run → s.line.link = .active → s.line.rx = .idle →
    s.line.inFlight = none → s.line.wait = some cls →
    (match cls with
      | .alarm => if s.line.raisedAlarm then 10 else 8
      | .state => if s.line.raisedState then 12 else 10
      | .routine => if s.line.raisedRoutine then 14 else 12) ≤ s.line.quiet →
    (s.content cls = none → exec .accessWaitQuiet s = .next (lineSettle { s with line := { s.line with wait := none } })) ∧
    (∀ c, s.content cls = some c →
      exec .accessWaitQuiet s = .next { s with line := { s.line with
        wait := none
        inFlight :=
          some ⟨cls, c.kind, c.payload, frameChars cls (s.line.own.getD 0) c.kind c.payload, 0, false⟩ } })) ∧
  (∀ (f : TxFrame) (s : State), s.pending = [] → dueCommands s = [] → s.part = .run →
    StartBitBegins (50 * Config.lineRate s.lrate) s.line f →
    ∃ t, step s = .next t ∧ StartsWithItsContent (50 * Config.lineRate s.lrate) f s t) ∧
  (∀ (l : LineController) (k : Byte), l.sendingKind k = true ↔ ∃ f, l.inFlight = some f ∧ f.begun = true ∧ f.kind = k) ∧
  (∀ s : State, StatusOf s s.statusPayload ∧
    (∀ k, s.reports.confirm = some k → s.content .state = some ⟨0x43, [k.kind, byte k.result.code], []⟩) ∧
    (s.reports.confirm = none → s.reports.stateMark = true → s.content .state = some ⟨0x41, s.statusPayload, []⟩) ∧
    (s.reports.confirm = none → s.reports.stateMark = false → s.content .state = none) ∧
    (s.content .alarm = none ↔ ∀ i : Fin 32, dueIn s (fun k => k == .severe) i = false) ∧
    (∀ c, s.content .alarm = some c → ReportOf s (fun k => k == .severe) c) ∧
    ((∀ i : Fin 32, dueIn s (fun k => k != .severe) i = false) →
      s.content .routine = if s.reports.healthMark then some ⟨0x41, s.statusPayload, []⟩ else none) ∧
    ((∃ i : Fin 32, dueIn s (fun k => k != .severe) i = true) →
      ∃ c, s.content .routine = some c ∧ ReportOf s (fun k => k != .severe) c)) ∧
  (∀ (f : TxFrame) (s : State), s.part = .run → s.line.inFlight = some f → 10 * f.chars.length ≤ f.sent →
    ∃ t, exec .lineFrameSent s = .next t ∧ t.line.inFlight = none ∧ t.line.rx = .idle ∧ t.line.quiet = 0 ∧
      t.line.raisedAlarm = ((s.line.raisedAlarm || decide (f.cls = .alarm)) && t.holdsContent .alarm) ∧
      t.line.raisedState = ((s.line.raisedState || decide (f.cls = .state)) && t.holdsContent .state) ∧
      t.line.raisedRoutine = ((s.line.raisedRoutine || decide (f.cls = .routine)) && t.holdsContent .routine) ∧
      t.counters[(23 : Fin 32)] = s.counters[(23 : Fin 32)].bumped ∧
      (f.kind = 0x43 → t.reports = { s.reports with
        confirm := if s.reports.confirmRenewed then s.reports.confirm else none, confirmRenewed := false }) ∧
      (f.kind = 0x41 → t.reports = { s.reports with
        stateMark := s.reports.stateMark && s.reports.stateRenewed, stateRenewed := false
        healthMark := s.reports.healthMark && s.reports.healthRenewed, healthRenewed := false
        healthTimer := some (later s.now (s.line.tHealth * 1000)) }) ∧
      (f.kind = 0x42 → ∀ (i : Fin 32) (r : FaultRecord) (st : FaultState), s.faults.table[i].record = some r →
        s.faults.table[i].carried = some st →
        t.faults.table[i] = { s.faults.table[i] with
          record := some { r with lastReported := some st, lastReport := some s.now }
          forced := false, carried := none }) ∧
      Only [.line, .faults, .reports, .counters, .notices] s t)

/-- R140, R154, R156, R172: at the sample of the bit concerned (the next one falls a whole bit-time later), arbitration lost in
HEAD is counted in ARBITRATION_LOST and leaves the receiver taking over the winner's
HEAD, the bits read back so far; a collision is counted in LINE_FRAMES_BAD and leaves it SKIPPING. Either way the frame is not
sent: every carried mark and renewed flag is cleared and every due mark stays, and no W is raised (R150): one that is raised
returns to base only when its class holds no content. R152: before its start bit has begun a frame neither loses arbitration nor
collides, and another station's characters are received as if it had been given up uncounted (log entry 26). -/
def Obligations.LostFramesStayDue : Prop :=
  (∀ (f : TxFrame) (s : State), s.part = .run → s.line.inFlight = some f → f.begun = true → f.sent < 10 → f.bit = true →
    ∃ t, exec .arbitrationLost s = .next t ∧ t.line.inFlight = none ∧ t.line.bitAcc = 0 ∧ t.line.quiet = 0 ∧
      t.counters[(22 : Fin 32)] = s.counters[(22 : Fin 32)].bumped ∧
      (f.sent < 9 → t.line.rx = .assembling ∧ t.line.assembly = [] ∧
        t.line.headBits = ((bitsOfByte (f.chars.getD 0 0)).take (f.sent - 1)) ++ [false] ∧
        t.counters[(21 : Fin 32)] = s.counters[(21 : Fin 32)]) ∧
      (f.sent = 9 → t.line.rx = .skipping ∧ t.counters[(21 : Fin 32)] = s.counters[(21 : Fin 32)].bumped) ∧
      t.line.raisedAlarm = (s.line.raisedAlarm && t.holdsContent .alarm) ∧
      t.line.raisedState = (s.line.raisedState && t.holdsContent .state) ∧
      t.line.raisedRoutine = (s.line.raisedRoutine && t.holdsContent .routine) ∧
      (∀ i : Fin 32, t.faults.table[i] = { s.faults.table[i] with carried := none }) ∧
      t.reports = { s.reports with confirmRenewed := false, stateRenewed := false, healthRenewed := false } ∧
      Only [.line, .faults, .reports, .counters, .notices] s t) ∧
  (∀ (f : TxFrame) (s : State), s.part = .run → s.line.inFlight = some f → f.begun = true → f.sent < 10 * f.chars.length →
    (10 ≤ f.sent ∨ f.bit = false) →
    ∃ t, exec .collision s = .next t ∧ t.line.inFlight = none ∧ t.line.rx = .skipping ∧ t.line.bitAcc = 0 ∧
      t.line.quiet = (if f.bit = true ∨ f.sent % 10 = 0 then 0 else s.line.quiet + 1) ∧
      t.line.raisedAlarm = (s.line.raisedAlarm && t.holdsContent .alarm) ∧
      t.line.raisedState = (s.line.raisedState && t.holdsContent .state) ∧
      t.line.raisedRoutine = (s.line.raisedRoutine && t.holdsContent .routine) ∧
      t.counters[(21 : Fin 32)] = s.counters[(21 : Fin 32)].bumped ∧
      (∀ i : Fin 32, t.faults.table[i] = { s.faults.table[i] with carried := none }) ∧
      t.reports = { s.reports with confirmRenewed := false, stateRenewed := false, healthRenewed := false } ∧
      Only [.line, .faults, .reports, .counters, .notices] s t) ∧
  (∀ (f : TxFrame) (s : State), s.part = .run → s.line.rx = .idle → s.line.inFlight = some f → f.begun = false →
    let v := { s with line := { s.line with inFlight := none } }
    exec .arbitrationLost s = .next s ∧ exec .collision s = .next s ∧
    (∀ (c : Instr) (h : LineHead) (kind : Byte) (payload : List Byte), lineFrameOf c = some (h, kind, payload) →
      payload.length ≤ 24 → exec c s = exec c v) ∧
    (∀ (chars : List Byte) (err : Bool), chars ≠ [] ∨ err = true →
      exec (.lineFrameBad chars err) s = exec (.lineFrameBad chars err) v) ∧
    (∀ chars : List Byte, chars ≠ [] → exec (.lineGapAbort chars) s = exec (.lineGapAbort chars) v))

/-- R165: at its expiry the health timer stops and the health mark is set. R167: a record whose last report is T_repeat old is
forced due (an age of 2^31 ms and more, of a record acknowledged for that long, is taken modulo 2^32 by log entry 27). R166: the aged mark is set 65,535,000 ms after the last change. -/
def Obligations.ReportTimersExpire : Prop :=
  (∀ (e : Time) (s : State), s.part = .run → s.line.link = .active → s.reports.healthTimer = some e →
    atOrBefore e s.now = true →
    exec .healthTimerExpiry s = .next (lineSettle { s with reports := { s.reports with
      healthTimer := none, healthMark := true
      healthRenewed := s.reports.healthRenewed || s.line.sendingKind kindStatus } })) ∧
  (∀ (i : Fin 32) (r : FaultRecord) (l : Time) (s : State), s.part = .run → s.line.link = .active →
    s.faults.table[i].record = some r → r.state ≠ .activeAcked → s.faults.table[i].forced = false →
    s.faults.table[i].carried = none → r.lastReport = some l → s.line.tRepeat * 1000 ≤ elapsed s.now l →
    exec (.repeatInterval i) s = .next (lineSettle { s with faults := { s.faults with
      table := s.faults.table.set i { s.faults.table[i] with forced := true } } })) ∧
  (∀ (i : Fin 32) (r : FaultRecord) (s : State), s.part = .run → s.faults.table[i].record = some r →
    s.faults.table[i].aged = false → 65535000 ≤ elapsed s.now r.last →
    exec (.agedMark i) s = .next { s with faults := { s.faults with
      table := s.faults.table.set i { s.faults.table[i] with aged := true } } })

/-- R150, R151, R168: in RUN a raised wait of a class without content returns to base, and with the link ACTIVE, the receiver
IDLE and neither a wait nor a frame of the part in progress a wait begins for the highest class that has content, its W
tested at once. In CONFIG the line is left alone. -/
def Obligations.AccessWaitFollowsTheContent : Prop :=
  ∀ s : State, Only [.line] s (lineSettle s) ∧
    (s.part = .config → lineSettle s = s) ∧
    (s.part = .run →
      let begins : Prop := s.line.link = .active ∧ s.line.rx = .idle ∧ s.line.inFlight = none ∧ s.line.wait = none
      let top : Option LineClass :=
        if s.holdsContent .alarm then some .alarm
        else if s.holdsContent .state then some .state
        else if s.holdsContent .routine then some .routine
        else none
      (lineSettle s).line = { s.line with
        raisedAlarm := s.line.raisedAlarm && s.holdsContent .alarm
        raisedState := s.line.raisedState && s.holdsContent .state
        raisedRoutine := s.line.raisedRoutine && s.holdsContent .routine
        wait := if begins then top else s.line.wait
        waitTest := s.line.waitTest || decide (begins ∧ top ≠ none) })

/-! ### The fault table -/

/-- R123, R124, R130: a raise of a kind and object on record makes that record ACTIVE_UNACKED with the new detail and one more
occurrence; one not on record takes the lowest free general slot, or with none free replaces the CLEARED_UNACKED record of
class NOTICE, else of class MINOR, changed earliest. R125: with none of those it is lost: TABLE_FULL is raised in slot 31 with the
kind for its detail, and the latch is set. R127: the end of a condition makes an ACTIVE_UNACKED record CLEARED_UNACKED and
removes an ACTIVE_ACKED one; an event kind has no end. R126: with at least 4 general slots free after that, an active
TABLE_FULL ends; an end and a raise in one step (R114) are both applied before the test, and without an active TABLE_FULL they
are an end and then a raise (of a table that R122 allows, `Obligations.FaultTableKeepsItsLaws`). R131: the mode is derived after
each. R137: each change of a record is told (`faultTold`): one FAULT record and one FAULT notice, RAISED, NEW, REPLACED before
its successor's NEW, LOST (its count: log entry 5) before TABLE_FULL's NEW or RAISED, CLEARED or REMOVED. R133: a change of mode
writes one MODE record, queues one STATE notice and makes a STATUS due. -/
def Obligations.RaisesAndEndsChangeOneRecord : Prop :=
  (∀ (k : FaultKind) (o d : Nat) (i : Fin 32) (r : FaultRecord) (s : State), s.faults.find k o = some i →
    s.faults.table[i].record = some r →
    (raise k o d s).faults.table = s.faults.table.set i { s.faults.table[i] with
      record := some { r with state := .activeUnacked, detail := d, count := min 255 (r.count + 1), last := s.now }
      aged := false } ∧
    (raise k o d s).faults.latch = (s.faults.latch || decide (r.cls = .severe)) ∧
    (let q : FaultRecord := { r with state := .activeUnacked, detail := d, count := min 255 (r.count + 1), last := s.now }
    raise k o d s = deriveMode .raised (faultTold q 2 (byte q.count) 0 (byte i.val) 0 { s with faults := { s.faults with
      table := s.faults.table.set i { s.faults.table[i] with record := some q, aged := false }
      latch := s.faults.latch || decide (r.cls = .severe) } })) ∧
    Only faultBlocks s (raise k o d s)) ∧
  (∀ (k : FaultKind) (o d : Nat) (i : Fin 32) (s : State), k ≠ .tableFull → s.faults.find k o = none → i ≠ 31 →
    ((s.faults.table[i].record = none ∧ ∀ j : Fin 32, j < i → s.faults.table[j].record.isSome = true) ∨
      ((∀ j : Fin 32, j ≠ 31 → s.faults.table[j].record.isSome = true) ∧
        (EarliestCleared s .notice i ∨
          (EarliestCleared s .minor i ∧ ∀ j : Fin 32, j ≠ 31 → clearedOf s .notice j = false)))) →
    (raise k o d s).faults.table = s.faults.table.set i
      ⟨some ⟨k, o, k.cls, .activeUnacked, d, 1, s.now, s.now, none, none⟩, false, none, false⟩ ∧
    (raise k o d s).faults.latch = (s.faults.latch || decide (k.cls = .severe)) ∧
    (let new : FaultRecord := ⟨k, o, k.cls, .activeUnacked, d, 1, s.now, s.now, none, none⟩
    let w := { s with faults := { s.faults with
      table := s.faults.table.set i ⟨some new, false, none, false⟩
      latch := s.faults.latch || decide (k.cls = .severe) } }
    raise k o d s = deriveMode .raised (faultTold new 0 1 0 (byte i.val) 0
      (match s.faults.table[i].record with
        | none => w
        | some q => faultTold q 1 (byte q.count) 0xFF (byte i.val) 0 w))) ∧
    Only faultBlocks s (raise k o d s)) ∧
  (∀ (k : FaultKind) (o d : Nat) (s : State), k ≠ .tableFull → s.faults.find k o = none →
    (∀ j : Fin 32, j ≠ 31 → s.faults.table[j].record.isSome = true ∧ clearedOf s .notice j = false ∧
      clearedOf s .minor j = false) →
    let x := s.faults.table[(31 : Fin 32)]
    (raise k o d s).faults.table = s.faults.table.set 31
      (match x.record with
        | none => ⟨some ⟨.tableFull, 0, .severe, .activeUnacked, k.code, 1, s.now, s.now, none, none⟩, false, none, false⟩
        | some r => { x with
            record := some { r with
              state := .activeUnacked, detail := k.code, count := min 255 (r.count + 1), last := s.now }
            aged := false }) ∧
    ((∀ r, x.record = some r → r.cls = .severe) → (raise k o d s).faults.latch = true) ∧
    (∃ (full : FaultRecord) (n : Byte) (w : State),
      w.faults.table = s.faults.table.set 31 ⟨some full, x.forced && x.record.isSome, x.record.bind fun _ => x.carried, false⟩ ∧
      (x.record = none → full = ⟨.tableFull, 0, .severe, .activeUnacked, k.code, 1, s.now, s.now, none, none⟩) ∧
      (∀ r, x.record = some r → full = { r with
        state := .activeUnacked, detail := k.code, count := min 255 (r.count + 1), last := s.now }) ∧
      w.faults.latch = (s.faults.latch || decide (full.cls = .severe)) ∧ w.faults.mode = s.faults.mode ∧
      w.free = s.free + 1 ∧ Only [.faults, .free] s w ∧
      raise k o d s = deriveMode .raised (faultTold full (if x.record.isSome then 2 else 0) (byte full.count) 0 31 0
        (faultTold ⟨k, o, k.cls, .activeUnacked, d, 1, s.now, s.now, none, none⟩ 6 n 0xFF 0xFF 0 w))) ∧
    Only faultBlocks s (raise k o d s)) ∧
  (∀ (k : FaultKind) (o d : Nat) (s : State),
    (raise k o d s).faults.mode = some (raise k o d s).faults.derived ∧
    (endCondition k o s).faults.mode = some (endCondition k o s).faults.derived ∧
    (endCondition k o s).faults.latch = s.faults.latch) ∧
  (∀ (cause : ModeCause) (s : State),
    s.faults.derived = (if s.faults.latch then .failed
      else if ∃ i : Fin 32, s.faults.table[i].record.any (fun r => r.cls == .minor && r.state != .clearedUnacked) = true
        then .degraded else .auto) ∧
    (s.faults.mode = some s.faults.derived → deriveMode cause s = s) ∧
    (s.faults.mode ≠ some s.faults.derived →
      let m := s.faults.derived
      let v := queueNotice ⟨.state, [codeOrFF (s.seq.state.map SeqState.code), byte m.code, byte (flag s.faults.latch),
          byte (flag s.seq.holdSignaller + 2 * flag s.seq.holdLocal)]⟩
        (writeLog .mode 0 [codeOrFF (s.faults.mode.map Mode.code), byte m.code, byte (flag s.faults.latch), byte cause.code]
          { s with faults := { s.faults with mode := some m } })
      deriveMode cause s = { v with reports := { v.reports with
        stateMark := true, stateRenewed := v.reports.stateRenewed || v.line.sendingKind 0x41 } })) ∧
  (∀ (k : FaultKind) (o : Nat) (s : State),
    (k.isEvent = true ∨ s.faults.find k o = none → endCondition k o s = deriveMode .ended s) ∧
    (∀ i, k.isEvent = false → s.faults.find k o = some i →
      endCondition k o s = deriveMode .ended (tableFullTested (endAtSlot i s)))) ∧
  (∀ (k : FaultKind) (o : Nat) (i : Fin 32) (r : FaultRecord) (s : State), k.isEvent = false →
    s.faults.find k o = some i → i ≠ 31 → s.faults.table[i].record = some r →
    let t := endCondition k o s
    let free := (allGeneral.filter fun j => t.faults.table[j].record.isNone).length
    t.faults.table[i] =
      (match r.state with
        | .activeUnacked => { s.faults.table[i] with
            record := some { r with state := .clearedUnacked, last := s.now }, aged := false }
        | .activeAcked => ⟨none, false, none, false⟩
        | .clearedUnacked => s.faults.table[i]) ∧
    (∀ j : Fin 32, j ≠ i → j ≠ 31 → t.faults.table[j] = s.faults.table[j]) ∧
    t.faults.table[(31 : Fin 32)] =
      (match s.faults.table[(31 : Fin 32)].record with
        | none => s.faults.table[(31 : Fin 32)]
        | some q =>
          if free < 4 then s.faults.table[(31 : Fin 32)]
          else match q.state with
            | .activeUnacked => { s.faults.table[(31 : Fin 32)] with
                record := some { q with state := .clearedUnacked, last := s.now }, aged := false }
            | .activeAcked => ⟨none, false, none, false⟩
            | .clearedUnacked => s.faults.table[(31 : Fin 32)]) ∧
    Only faultBlocks s t) ∧
  (∀ (k : FaultKind) (o : Nat) (s : State), k.isEvent = true → (endCondition k o s).faults.table = s.faults.table) ∧
  (∀ (e k : FaultKind) (o d : Nat) (s : State), endThenRaise none k o d s = raise k o d s ∧
    endThenRaise (some e) k o d s = deriveMode .ended (tableFullTested (raise k o d (deriveMode .ended
      (match s.faults.find e o with
        | some i => if e.isEvent then s else endAtSlot i s
        | none => s)))) ∧
    (RecordsUnique s → (∀ q, s.faults.table[(31 : Fin 32)].record = some q → q.state = .clearedUnacked) → k ≠ .tableFull →
      s.faults.find k o ≠ some 31 → endThenRaise (some e) k o d s = raise k o d (endCondition e o s))) ∧
  (∀ (b : Fin 4) (d : Nat) (i : Fin 32) (r q : FaultRecord) (s : State), i ≠ 31 →
    s.faults.find .barrierDisturbed b.val = some i → s.faults.table[i].record = some r → r.state = .activeAcked →
    s.faults.find .barrierFail b.val = none → (∀ j : Fin 32, j < i → s.faults.table[j].record.isSome = true) →
    s.faults.table[(31 : Fin 32)].record = some q → q.state = .activeUnacked →
    (allGeneral.filter fun j => s.faults.table[j].record.isNone).length ≤ 3 →
    (endThenRaise (some .barrierDisturbed) .barrierFail b.val d s).faults.table = s.faults.table.set i
      ⟨some ⟨.barrierFail, b.val, .severe, .activeUnacked, d, 1, s.now, s.now, none, none⟩, false, none, false⟩)

/-! ### Rules of the whole part, kept by every step -/

/-- Every rule below holds of the state after a reset (R204). -/
def Obligations.RulesHoldAtReset : Prop :=
  BarrierOutputs State.reset ∧ RedsFlash State.reset ∧ BarriersUpWhenOpen State.reset ∧ CountersBounded State.reset ∧
  SilentUnlessActive State.reset ∧ LayoutFits State.reset ∧ LogNumbered State.reset ∧ PassagesFit State.reset ∧
  NoticesFit State.reset ∧ RecordsUnique State.reset ∧ RecordsFit State.reset ∧ SequencerInRun State.reset ∧
  ModeDerived State.reset ∧ RoadOpenOnlyUndemanded State.reset ∧ SectionCounts State.reset ∧ SectionsLive State.reset ∧
  RecordsConsistent State.reset ∧ StartsAhead State.reset

/-- R65's law, with R104: the outputs of every barrier are those of its state, and whenever the HOLD of a barrier is released
or its RAISE motor driven the reds are being flashed. -/
def Obligations.RedsFlashWhileBarriersMove : Prop :=
  (∀ s t : State, BarrierOutputs s ∧ RedsFlash s ∧ BarriersUpWhenOpen s → step s = .next t →
    BarrierOutputs t ∧ RedsFlash t ∧ BarriersUpWhenOpen t) ∧
  (∀ s : State, BarrierOutputs s ∧ RedsFlash s ∧ BarriersUpWhenOpen s → RedsBeforeBarriers s)

/-- R187, with R188: an increment raises one counter by one unless it is saturated; no counter exceeds 4,294,967,295, its
flags are those of the marks it has passed, and none decreases except when it is read with clear or at a cold reset, be the
request a command of its own or found in a run of raw bytes (R192, R193). -/
def Obligations.CountersOnlyRise : Prop :=
  (∀ (i j : Fin 32) (s : State), s.counters[i].value ≤ 4294967295 →
    (bump i s).counters[j].value =
      if j = i then (if s.counters[i].value = 4294967295 then 4294967295 else s.counters[i].value + 1)
      else s.counters[j].value) ∧
  (∀ s t : State, CountersBounded s → step s = .next t → CountersBounded t) ∧
  (∀ (c : Instr) (i : Fin 32) (s t : State), exec c s = .next t → (∀ l h, c ≠ .coldReset l h) →
    (∀ kind tag payload, Brings c s kind tag payload → ¬(kind = 0x1F ∧ payload = [0]) ∧ ¬Clears i kind payload) →
    s.counters[i].value ≤ t.counters[i].value)

/-- R153's law: the part drives the line, and waits to, only while the link state is ACTIVE. -/
def Obligations.LineIsSilentUnlessActive : Prop :=
  ∀ s t : State, SilentUnlessActive s → step s = .next t → SilentUnlessActive t

/-- R176's and R179's laws, with R177, R180, R184 and R200: the layout in use never exceeds 128 granules; the log's records are
numbered one after another and never exceed its capacity; the passage store and the notice queue never exceed theirs. R177 to
R180, R182: a record written in RUN stands as the newest with the next sequence number, its time now, its kind, its object and
its data filled up to eight bytes; with 4 × L records held the oldest is discarded; the write that brings an armed log to 3 × L
records disarms the level flag and queues a LOG_LEVEL notice with the records held and the capacity. In CONFIG none is
written. -/
def Obligations.RecordMemoryKeepsItsLaws : Prop :=
  (∀ s t : State, LayoutFits s ∧ LogNumbered s ∧ PassagesFit s ∧ NoticesFit s → step s = .next t →
    LayoutFits t ∧ LogNumbered t ∧ PassagesFit t ∧ NoticesFit t) ∧
  (∀ (m : RecordMemory) (now : Time) (k : LogKind) (o : Nat) (d : List Byte),
    let log := (if 4 * m.layout.log ≤ m.log.length then m.log.drop 1 else m.log) ++
      [⟨m.nextSeq, now, k, o, (d ++ [0, 0, 0, 0, 0, 0, 0, 0]).take 8⟩]
    m.append now k o d = { m with
      log := log, nextSeq := m.nextSeq + 1, armed := m.armed && decide (log.length ≠ 3 * m.layout.log) }) ∧
  (∀ (k : LogKind) (o : Nat) (d : List Byte) (s : State),
    (s.part = .config → writeLog k o d s = s) ∧
    (s.part = .run →
      let m := s.memory.append s.now k o d
      writeLog k o d s =
        if s.memory.armed = true ∧ m.log.length = 3 * m.layout.log then
          queueNotice ⟨.logLevel, be16 m.log.length ++ be16 (4 * m.layout.log)⟩ { s with memory := m }
        else { s with memory := m }))

/-- R122's and R132's laws, with R131: no kind and object has two records, slot 31 alone holds TABLE_FULL, and the mode is the
one derived, FAILED while a SEVERE record is active. -/
def Obligations.FaultTableKeepsItsLaws : Prop :=
  (∀ s t : State, RecordsUnique s ∧ RecordsFit s ∧ SequencerInRun s ∧ ModeDerived s → step s = .next t →
    RecordsUnique t ∧ RecordsFit t ∧ SequencerInRun t ∧ ModeDerived t) ∧
  (∀ s : State, ModeDerived s → s.part = .run → s.faults.anyActive .severe = true → s.faults.mode = some .failed)

/-- R66's law: in RUN the Sequencer is in OPEN only when every island section is CLEAR or PREPARED, no record is committed, the
hold set is empty and the mode is not FAILED. -/
def Obligations.RoadIsOpenOnlyWithoutDemand : Prop :=
  (∀ s t : State, SequencerInRun s ∧ ModeDerived s ∧ SectionsLive s ∧ RoadOpenOnlyUndemanded s → step s = .next t →
    SequencerInRun t ∧ ModeDerived t ∧ SectionsLive t ∧ RoadOpenOnlyUndemanded t) ∧
  (∀ s : State, SectionsLive s → RoadOpenOnlyUndemanded s → s.part = .run → s.seq.state = some .roadOpen →
    (∀ i : Fin 10, s.sections[i].track.isSome = true → s.sections[i].role = .island →
      s.sections[i].state = some .clear ∨ s.sections[i].state = some .prepared) ∧
    (∀ (k : Fin 4) (r : TrainRecord), s.slots[k].record = some r → r.committed = false) ∧
    s.seq.holdSignaller = false ∧ s.seq.holdLocal = false ∧ s.faults.mode ≠ some .failed)

/-- R22, and R52's law with R39 and R55: a section's count and sweep-entered flag are those of its state; a record's times and
timer are those of its commit, and no uncommitted record has a warning start before the present time, nor at it once nothing
is due (log entry 1). -/
def Obligations.SectionsAndTrainsKeepTheirLaws : Prop :=
  (∀ s t : State, SectionCounts s ∧ RecordsConsistent s ∧ StartsAhead s → step s = .next t →
    SectionCounts t ∧ RecordsConsistent t ∧ StartsAhead t) ∧
  (∀ s : State, RecordsConsistent s ∧ StartsAhead s → dueCommands s = [] →
    ∀ (k : Fin 4) (r : TrainRecord) (w : Time), s.slots[k].record = some r → r.committed = false →
      r.warningS = some w → atOrBefore w s.now = false)

/-- R195 step 5 with section 11.4, R176 and R205: nothing that happens in RUN changes a configured value, the layout in use or
the captured straps, short of a cold reset; of a run of raw bytes this is said where no RESTART COLD is found in it (R192,
R193). -/
def Obligations.ConfigurationStandsInRun : Prop :=
  ∀ (c : Instr) (s t : State),
    (∀ (bytes : List Byte) (tag : Byte), (∃ e, c = .hostFrameDiscarded bytes e) ∨ c = .hostGap bytes →
      HostEvent.frame 0x1F tag [0] ∉ (scanHost (s.host.assembly ++ bytes).length (s.host.assembly ++ bytes)).1) →
    s.part = .run → exec c s = .next t → t.part = .run →
    t.configuration = s.configuration ∧ t.memory.layout = s.memory.layout ∧ t.lrate = s.lrate ∧ t.hrate = s.hrate
end

