-- ==== Sys2Proof/Laws/State.lean ====
section
/-! SUPPORT. Each single-entry update of the state, field by field: the field it writes takes the new value, every other
field stands. -/

namespace Sys2Proof.Machine

/-- An entry after an update of one entry. -/
@[simp] theorem upd_getElem {α : Type} {n : Nat} (v : Vector α n) (i : Fin n) (f : α → α) (j : Nat) (h : j < n) :
    (upd v i f)[j] = if i.val = j then f v[j] else v[j] := by
  unfold upd
  by_cases e : i.val = j
  · subst e; simp
  · simp [e]

/-- An entry of a table remade entry by entry. -/
@[simp] theorem remake_getElem {α β : Type} {n : Nat} (v : Vector α n) (f : Fin n → α → β) (j : Nat) (h : j < n) :
    (remake v f)[j] = f ⟨j, h⟩ v[j] := by
  simp [remake]

variable (s : State)

@[simp] theorem State.setPoint_part (p : Fin 12) (f : Point → Point) : (s.setPoint p f).part = s.part := rfl
@[simp] theorem State.setPoint_now (p : Fin 12) (f : Point → Point) : (s.setPoint p f).now = s.now := rfl
@[simp] theorem State.setPoint_phase (p : Fin 12) (f : Point → Point) : (s.setPoint p f).phase = s.phase := rfl
@[simp] theorem State.setPoint_sample10 (p : Fin 12) (f : Point → Point) : (s.setPoint p f).sample10 = s.sample10 := rfl
@[simp] theorem State.setPoint_lrate (p : Fin 12) (f : Point → Point) : (s.setPoint p f).lrate = s.lrate := rfl
@[simp] theorem State.setPoint_hrate (p : Fin 12) (f : Point → Point) : (s.setPoint p f).hrate = s.hrate := rfl
@[simp] theorem State.setPoint_pins (p : Fin 12) (f : Point → Point) : (s.setPoint p f).pins = s.pins := rfl
@[simp] theorem State.setPoint_points (p : Fin 12) (f : Point → Point) : (s.setPoint p f).points = upd s.points p f := rfl
@[simp] theorem State.setPoint_tStuck (p : Fin 12) (f : Point → Point) : (s.setPoint p f).tStuck = s.tStuck := rfl
@[simp] theorem State.setPoint_sections (p : Fin 12) (f : Point → Point) : (s.setPoint p f).sections = s.sections := rfl
@[simp] theorem State.setPoint_slots (p : Fin 12) (f : Point → Point) : (s.setPoint p f).slots = s.slots := rfl
@[simp] theorem State.setPoint_rwt (p : Fin 12) (f : Point → Point) : (s.setPoint p f).rwt = s.rwt := rfl
@[simp] theorem State.setPoint_seq (p : Fin 12) (f : Point → Point) : (s.setPoint p f).seq = s.seq := rfl
@[simp] theorem State.setPoint_lamps (p : Fin 12) (f : Point → Point) : (s.setPoint p f).lamps = s.lamps := rfl
@[simp] theorem State.setPoint_barriers (p : Fin 12) (f : Point → Point) : (s.setPoint p f).barriers = s.barriers := rfl
@[simp] theorem State.setPoint_faults (p : Fin 12) (f : Point → Point) : (s.setPoint p f).faults = s.faults := rfl
@[simp] theorem State.setPoint_supply (p : Fin 12) (f : Point → Point) : (s.setPoint p f).supply = s.supply := rfl
@[simp] theorem State.setPoint_line (p : Fin 12) (f : Point → Point) : (s.setPoint p f).line = s.line := rfl
@[simp] theorem State.setPoint_reports (p : Fin 12) (f : Point → Point) : (s.setPoint p f).reports = s.reports := rfl
@[simp] theorem State.setPoint_memory (p : Fin 12) (f : Point → Point) : (s.setPoint p f).memory = s.memory := rfl
@[simp] theorem State.setPoint_counters (p : Fin 12) (f : Point → Point) : (s.setPoint p f).counters = s.counters := rfl
@[simp] theorem State.setPoint_host (p : Fin 12) (f : Point → Point) : (s.setPoint p f).host = s.host := rfl
@[simp] theorem State.setPoint_free (p : Fin 12) (f : Point → Point) : (s.setPoint p f).free = s.free := rfl
@[simp] theorem State.setPoint_pending (p : Fin 12) (f : Point → Point) : (s.setPoint p f).pending = s.pending := rfl

@[simp] theorem State.setSect_part (i : Fin 10) (f : Sect → Sect) : (s.setSect i f).part = s.part := rfl
@[simp] theorem State.setSect_now (i : Fin 10) (f : Sect → Sect) : (s.setSect i f).now = s.now := rfl
@[simp] theorem State.setSect_phase (i : Fin 10) (f : Sect → Sect) : (s.setSect i f).phase = s.phase := rfl
@[simp] theorem State.setSect_sample10 (i : Fin 10) (f : Sect → Sect) : (s.setSect i f).sample10 = s.sample10 := rfl
@[simp] theorem State.setSect_lrate (i : Fin 10) (f : Sect → Sect) : (s.setSect i f).lrate = s.lrate := rfl
@[simp] theorem State.setSect_hrate (i : Fin 10) (f : Sect → Sect) : (s.setSect i f).hrate = s.hrate := rfl
@[simp] theorem State.setSect_pins (i : Fin 10) (f : Sect → Sect) : (s.setSect i f).pins = s.pins := rfl
@[simp] theorem State.setSect_points (i : Fin 10) (f : Sect → Sect) : (s.setSect i f).points = s.points := rfl
@[simp] theorem State.setSect_tStuck (i : Fin 10) (f : Sect → Sect) : (s.setSect i f).tStuck = s.tStuck := rfl
@[simp] theorem State.setSect_sections (i : Fin 10) (f : Sect → Sect) : (s.setSect i f).sections = upd s.sections i f := rfl
@[simp] theorem State.setSect_slots (i : Fin 10) (f : Sect → Sect) : (s.setSect i f).slots = s.slots := rfl
@[simp] theorem State.setSect_rwt (i : Fin 10) (f : Sect → Sect) : (s.setSect i f).rwt = s.rwt := rfl
@[simp] theorem State.setSect_seq (i : Fin 10) (f : Sect → Sect) : (s.setSect i f).seq = s.seq := rfl
@[simp] theorem State.setSect_lamps (i : Fin 10) (f : Sect → Sect) : (s.setSect i f).lamps = s.lamps := rfl
@[simp] theorem State.setSect_barriers (i : Fin 10) (f : Sect → Sect) : (s.setSect i f).barriers = s.barriers := rfl
@[simp] theorem State.setSect_faults (i : Fin 10) (f : Sect → Sect) : (s.setSect i f).faults = s.faults := rfl
@[simp] theorem State.setSect_supply (i : Fin 10) (f : Sect → Sect) : (s.setSect i f).supply = s.supply := rfl
@[simp] theorem State.setSect_line (i : Fin 10) (f : Sect → Sect) : (s.setSect i f).line = s.line := rfl
@[simp] theorem State.setSect_reports (i : Fin 10) (f : Sect → Sect) : (s.setSect i f).reports = s.reports := rfl
@[simp] theorem State.setSect_memory (i : Fin 10) (f : Sect → Sect) : (s.setSect i f).memory = s.memory := rfl
@[simp] theorem State.setSect_counters (i : Fin 10) (f : Sect → Sect) : (s.setSect i f).counters = s.counters := rfl
@[simp] theorem State.setSect_host (i : Fin 10) (f : Sect → Sect) : (s.setSect i f).host = s.host := rfl
@[simp] theorem State.setSect_free (i : Fin 10) (f : Sect → Sect) : (s.setSect i f).free = s.free := rfl
@[simp] theorem State.setSect_pending (i : Fin 10) (f : Sect → Sect) : (s.setSect i f).pending = s.pending := rfl

@[simp] theorem State.setSlot_part (k : Fin 4) (f : Slot → Slot) : (s.setSlot k f).part = s.part := rfl
@[simp] theorem State.setSlot_now (k : Fin 4) (f : Slot → Slot) : (s.setSlot k f).now = s.now := rfl
@[simp] theorem State.setSlot_phase (k : Fin 4) (f : Slot → Slot) : (s.setSlot k f).phase = s.phase := rfl
@[simp] theorem State.setSlot_sample10 (k : Fin 4) (f : Slot → Slot) : (s.setSlot k f).sample10 = s.sample10 := rfl
@[simp] theorem State.setSlot_lrate (k : Fin 4) (f : Slot → Slot) : (s.setSlot k f).lrate = s.lrate := rfl
@[simp] theorem State.setSlot_hrate (k : Fin 4) (f : Slot → Slot) : (s.setSlot k f).hrate = s.hrate := rfl
@[simp] theorem State.setSlot_pins (k : Fin 4) (f : Slot → Slot) : (s.setSlot k f).pins = s.pins := rfl
@[simp] theorem State.setSlot_points (k : Fin 4) (f : Slot → Slot) : (s.setSlot k f).points = s.points := rfl
@[simp] theorem State.setSlot_tStuck (k : Fin 4) (f : Slot → Slot) : (s.setSlot k f).tStuck = s.tStuck := rfl
@[simp] theorem State.setSlot_sections (k : Fin 4) (f : Slot → Slot) : (s.setSlot k f).sections = s.sections := rfl
@[simp] theorem State.setSlot_slots (k : Fin 4) (f : Slot → Slot) : (s.setSlot k f).slots = upd s.slots k f := rfl
@[simp] theorem State.setSlot_rwt (k : Fin 4) (f : Slot → Slot) : (s.setSlot k f).rwt = s.rwt := rfl
@[simp] theorem State.setSlot_seq (k : Fin 4) (f : Slot → Slot) : (s.setSlot k f).seq = s.seq := rfl
@[simp] theorem State.setSlot_lamps (k : Fin 4) (f : Slot → Slot) : (s.setSlot k f).lamps = s.lamps := rfl
@[simp] theorem State.setSlot_barriers (k : Fin 4) (f : Slot → Slot) : (s.setSlot k f).barriers = s.barriers := rfl
@[simp] theorem State.setSlot_faults (k : Fin 4) (f : Slot → Slot) : (s.setSlot k f).faults = s.faults := rfl
@[simp] theorem State.setSlot_supply (k : Fin 4) (f : Slot → Slot) : (s.setSlot k f).supply = s.supply := rfl
@[simp] theorem State.setSlot_line (k : Fin 4) (f : Slot → Slot) : (s.setSlot k f).line = s.line := rfl
@[simp] theorem State.setSlot_reports (k : Fin 4) (f : Slot → Slot) : (s.setSlot k f).reports = s.reports := rfl
@[simp] theorem State.setSlot_memory (k : Fin 4) (f : Slot → Slot) : (s.setSlot k f).memory = s.memory := rfl
@[simp] theorem State.setSlot_counters (k : Fin 4) (f : Slot → Slot) : (s.setSlot k f).counters = s.counters := rfl
@[simp] theorem State.setSlot_host (k : Fin 4) (f : Slot → Slot) : (s.setSlot k f).host = s.host := rfl
@[simp] theorem State.setSlot_free (k : Fin 4) (f : Slot → Slot) : (s.setSlot k f).free = s.free := rfl
@[simp] theorem State.setSlot_pending (k : Fin 4) (f : Slot → Slot) : (s.setSlot k f).pending = s.pending := rfl

@[simp] theorem State.setBarrier_part (b : Fin 4) (f : Barrier → Barrier) : (s.setBarrier b f).part = s.part := rfl
@[simp] theorem State.setBarrier_now (b : Fin 4) (f : Barrier → Barrier) : (s.setBarrier b f).now = s.now := rfl
@[simp] theorem State.setBarrier_phase (b : Fin 4) (f : Barrier → Barrier) : (s.setBarrier b f).phase = s.phase := rfl
@[simp] theorem State.setBarrier_sample10 (b : Fin 4) (f : Barrier → Barrier) : (s.setBarrier b f).sample10 = s.sample10 := rfl
@[simp] theorem State.setBarrier_lrate (b : Fin 4) (f : Barrier → Barrier) : (s.setBarrier b f).lrate = s.lrate := rfl
@[simp] theorem State.setBarrier_hrate (b : Fin 4) (f : Barrier → Barrier) : (s.setBarrier b f).hrate = s.hrate := rfl
@[simp] theorem State.setBarrier_pins (b : Fin 4) (f : Barrier → Barrier) : (s.setBarrier b f).pins = s.pins := rfl
@[simp] theorem State.setBarrier_points (b : Fin 4) (f : Barrier → Barrier) : (s.setBarrier b f).points = s.points := rfl
@[simp] theorem State.setBarrier_tStuck (b : Fin 4) (f : Barrier → Barrier) : (s.setBarrier b f).tStuck = s.tStuck := rfl
@[simp] theorem State.setBarrier_sections (b : Fin 4) (f : Barrier → Barrier) : (s.setBarrier b f).sections = s.sections := rfl
@[simp] theorem State.setBarrier_slots (b : Fin 4) (f : Barrier → Barrier) : (s.setBarrier b f).slots = s.slots := rfl
@[simp] theorem State.setBarrier_rwt (b : Fin 4) (f : Barrier → Barrier) : (s.setBarrier b f).rwt = s.rwt := rfl
@[simp] theorem State.setBarrier_seq (b : Fin 4) (f : Barrier → Barrier) : (s.setBarrier b f).seq = s.seq := rfl
@[simp] theorem State.setBarrier_lamps (b : Fin 4) (f : Barrier → Barrier) : (s.setBarrier b f).lamps = s.lamps := rfl
@[simp] theorem State.setBarrier_barriers (b : Fin 4) (f : Barrier → Barrier) : (s.setBarrier b f).barriers = upd s.barriers b f := rfl
@[simp] theorem State.setBarrier_faults (b : Fin 4) (f : Barrier → Barrier) : (s.setBarrier b f).faults = s.faults := rfl
@[simp] theorem State.setBarrier_supply (b : Fin 4) (f : Barrier → Barrier) : (s.setBarrier b f).supply = s.supply := rfl
@[simp] theorem State.setBarrier_line (b : Fin 4) (f : Barrier → Barrier) : (s.setBarrier b f).line = s.line := rfl
@[simp] theorem State.setBarrier_reports (b : Fin 4) (f : Barrier → Barrier) : (s.setBarrier b f).reports = s.reports := rfl
@[simp] theorem State.setBarrier_memory (b : Fin 4) (f : Barrier → Barrier) : (s.setBarrier b f).memory = s.memory := rfl
@[simp] theorem State.setBarrier_counters (b : Fin 4) (f : Barrier → Barrier) : (s.setBarrier b f).counters = s.counters := rfl
@[simp] theorem State.setBarrier_host (b : Fin 4) (f : Barrier → Barrier) : (s.setBarrier b f).host = s.host := rfl
@[simp] theorem State.setBarrier_free (b : Fin 4) (f : Barrier → Barrier) : (s.setBarrier b f).free = s.free := rfl
@[simp] theorem State.setBarrier_pending (b : Fin 4) (f : Barrier → Barrier) : (s.setBarrier b f).pending = s.pending := rfl

@[simp] theorem State.setLamp_part (c : Fin 10) (f : Lamp → Lamp) : (s.setLamp c f).part = s.part := rfl
@[simp] theorem State.setLamp_now (c : Fin 10) (f : Lamp → Lamp) : (s.setLamp c f).now = s.now := rfl
@[simp] theorem State.setLamp_phase (c : Fin 10) (f : Lamp → Lamp) : (s.setLamp c f).phase = s.phase := rfl
@[simp] theorem State.setLamp_sample10 (c : Fin 10) (f : Lamp → Lamp) : (s.setLamp c f).sample10 = s.sample10 := rfl
@[simp] theorem State.setLamp_lrate (c : Fin 10) (f : Lamp → Lamp) : (s.setLamp c f).lrate = s.lrate := rfl
@[simp] theorem State.setLamp_hrate (c : Fin 10) (f : Lamp → Lamp) : (s.setLamp c f).hrate = s.hrate := rfl
@[simp] theorem State.setLamp_pins (c : Fin 10) (f : Lamp → Lamp) : (s.setLamp c f).pins = s.pins := rfl
@[simp] theorem State.setLamp_points (c : Fin 10) (f : Lamp → Lamp) : (s.setLamp c f).points = s.points := rfl
@[simp] theorem State.setLamp_tStuck (c : Fin 10) (f : Lamp → Lamp) : (s.setLamp c f).tStuck = s.tStuck := rfl
@[simp] theorem State.setLamp_sections (c : Fin 10) (f : Lamp → Lamp) : (s.setLamp c f).sections = s.sections := rfl
@[simp] theorem State.setLamp_slots (c : Fin 10) (f : Lamp → Lamp) : (s.setLamp c f).slots = s.slots := rfl
@[simp] theorem State.setLamp_rwt (c : Fin 10) (f : Lamp → Lamp) : (s.setLamp c f).rwt = s.rwt := rfl
@[simp] theorem State.setLamp_seq (c : Fin 10) (f : Lamp → Lamp) : (s.setLamp c f).seq = s.seq := rfl
@[simp] theorem State.setLamp_lamps (c : Fin 10) (f : Lamp → Lamp) : (s.setLamp c f).lamps = { s.lamps with lamps := upd s.lamps.lamps c f } := rfl
@[simp] theorem State.setLamp_barriers (c : Fin 10) (f : Lamp → Lamp) : (s.setLamp c f).barriers = s.barriers := rfl
@[simp] theorem State.setLamp_faults (c : Fin 10) (f : Lamp → Lamp) : (s.setLamp c f).faults = s.faults := rfl
@[simp] theorem State.setLamp_supply (c : Fin 10) (f : Lamp → Lamp) : (s.setLamp c f).supply = s.supply := rfl
@[simp] theorem State.setLamp_line (c : Fin 10) (f : Lamp → Lamp) : (s.setLamp c f).line = s.line := rfl
@[simp] theorem State.setLamp_reports (c : Fin 10) (f : Lamp → Lamp) : (s.setLamp c f).reports = s.reports := rfl
@[simp] theorem State.setLamp_memory (c : Fin 10) (f : Lamp → Lamp) : (s.setLamp c f).memory = s.memory := rfl
@[simp] theorem State.setLamp_counters (c : Fin 10) (f : Lamp → Lamp) : (s.setLamp c f).counters = s.counters := rfl
@[simp] theorem State.setLamp_host (c : Fin 10) (f : Lamp → Lamp) : (s.setLamp c f).host = s.host := rfl
@[simp] theorem State.setLamp_free (c : Fin 10) (f : Lamp → Lamp) : (s.setLamp c f).free = s.free := rfl
@[simp] theorem State.setLamp_pending (c : Fin 10) (f : Lamp → Lamp) : (s.setLamp c f).pending = s.pending := rfl

@[simp] theorem State.setSeq_part (f : Sequencer → Sequencer) : (s.setSeq f).part = s.part := rfl
@[simp] theorem State.setSeq_now (f : Sequencer → Sequencer) : (s.setSeq f).now = s.now := rfl
@[simp] theorem State.setSeq_phase (f : Sequencer → Sequencer) : (s.setSeq f).phase = s.phase := rfl
@[simp] theorem State.setSeq_sample10 (f : Sequencer → Sequencer) : (s.setSeq f).sample10 = s.sample10 := rfl
@[simp] theorem State.setSeq_lrate (f : Sequencer → Sequencer) : (s.setSeq f).lrate = s.lrate := rfl
@[simp] theorem State.setSeq_hrate (f : Sequencer → Sequencer) : (s.setSeq f).hrate = s.hrate := rfl
@[simp] theorem State.setSeq_pins (f : Sequencer → Sequencer) : (s.setSeq f).pins = s.pins := rfl
@[simp] theorem State.setSeq_points (f : Sequencer → Sequencer) : (s.setSeq f).points = s.points := rfl
@[simp] theorem State.setSeq_tStuck (f : Sequencer → Sequencer) : (s.setSeq f).tStuck = s.tStuck := rfl
@[simp] theorem State.setSeq_sections (f : Sequencer → Sequencer) : (s.setSeq f).sections = s.sections := rfl
@[simp] theorem State.setSeq_slots (f : Sequencer → Sequencer) : (s.setSeq f).slots = s.slots := rfl
@[simp] theorem State.setSeq_rwt (f : Sequencer → Sequencer) : (s.setSeq f).rwt = s.rwt := rfl
@[simp] theorem State.setSeq_seq (f : Sequencer → Sequencer) : (s.setSeq f).seq = f s.seq := rfl
@[simp] theorem State.setSeq_lamps (f : Sequencer → Sequencer) : (s.setSeq f).lamps = s.lamps := rfl
@[simp] theorem State.setSeq_barriers (f : Sequencer → Sequencer) : (s.setSeq f).barriers = s.barriers := rfl
@[simp] theorem State.setSeq_faults (f : Sequencer → Sequencer) : (s.setSeq f).faults = s.faults := rfl
@[simp] theorem State.setSeq_supply (f : Sequencer → Sequencer) : (s.setSeq f).supply = s.supply := rfl
@[simp] theorem State.setSeq_line (f : Sequencer → Sequencer) : (s.setSeq f).line = s.line := rfl
@[simp] theorem State.setSeq_reports (f : Sequencer → Sequencer) : (s.setSeq f).reports = s.reports := rfl
@[simp] theorem State.setSeq_memory (f : Sequencer → Sequencer) : (s.setSeq f).memory = s.memory := rfl
@[simp] theorem State.setSeq_counters (f : Sequencer → Sequencer) : (s.setSeq f).counters = s.counters := rfl
@[simp] theorem State.setSeq_host (f : Sequencer → Sequencer) : (s.setSeq f).host = s.host := rfl
@[simp] theorem State.setSeq_free (f : Sequencer → Sequencer) : (s.setSeq f).free = s.free := rfl
@[simp] theorem State.setSeq_pending (f : Sequencer → Sequencer) : (s.setSeq f).pending = s.pending := rfl

@[simp] theorem State.setLamps_part (f : LampDriver → LampDriver) : (s.setLamps f).part = s.part := rfl
@[simp] theorem State.setLamps_now (f : LampDriver → LampDriver) : (s.setLamps f).now = s.now := rfl
@[simp] theorem State.setLamps_phase (f : LampDriver → LampDriver) : (s.setLamps f).phase = s.phase := rfl
@[simp] theorem State.setLamps_sample10 (f : LampDriver → LampDriver) : (s.setLamps f).sample10 = s.sample10 := rfl
@[simp] theorem State.setLamps_lrate (f : LampDriver → LampDriver) : (s.setLamps f).lrate = s.lrate := rfl
@[simp] theorem State.setLamps_hrate (f : LampDriver → LampDriver) : (s.setLamps f).hrate = s.hrate := rfl
@[simp] theorem State.setLamps_pins (f : LampDriver → LampDriver) : (s.setLamps f).pins = s.pins := rfl
@[simp] theorem State.setLamps_points (f : LampDriver → LampDriver) : (s.setLamps f).points = s.points := rfl
@[simp] theorem State.setLamps_tStuck (f : LampDriver → LampDriver) : (s.setLamps f).tStuck = s.tStuck := rfl
@[simp] theorem State.setLamps_sections (f : LampDriver → LampDriver) : (s.setLamps f).sections = s.sections := rfl
@[simp] theorem State.setLamps_slots (f : LampDriver → LampDriver) : (s.setLamps f).slots = s.slots := rfl
@[simp] theorem State.setLamps_rwt (f : LampDriver → LampDriver) : (s.setLamps f).rwt = s.rwt := rfl
@[simp] theorem State.setLamps_seq (f : LampDriver → LampDriver) : (s.setLamps f).seq = s.seq := rfl
@[simp] theorem State.setLamps_lamps (f : LampDriver → LampDriver) : (s.setLamps f).lamps = f s.lamps := rfl
@[simp] theorem State.setLamps_barriers (f : LampDriver → LampDriver) : (s.setLamps f).barriers = s.barriers := rfl
@[simp] theorem State.setLamps_faults (f : LampDriver → LampDriver) : (s.setLamps f).faults = s.faults := rfl
@[simp] theorem State.setLamps_supply (f : LampDriver → LampDriver) : (s.setLamps f).supply = s.supply := rfl
@[simp] theorem State.setLamps_line (f : LampDriver → LampDriver) : (s.setLamps f).line = s.line := rfl
@[simp] theorem State.setLamps_reports (f : LampDriver → LampDriver) : (s.setLamps f).reports = s.reports := rfl
@[simp] theorem State.setLamps_memory (f : LampDriver → LampDriver) : (s.setLamps f).memory = s.memory := rfl
@[simp] theorem State.setLamps_counters (f : LampDriver → LampDriver) : (s.setLamps f).counters = s.counters := rfl
@[simp] theorem State.setLamps_host (f : LampDriver → LampDriver) : (s.setLamps f).host = s.host := rfl
@[simp] theorem State.setLamps_free (f : LampDriver → LampDriver) : (s.setLamps f).free = s.free := rfl
@[simp] theorem State.setLamps_pending (f : LampDriver → LampDriver) : (s.setLamps f).pending = s.pending := rfl

@[simp] theorem State.setFaults_part (f : FaultManager → FaultManager) : (s.setFaults f).part = s.part := rfl
@[simp] theorem State.setFaults_now (f : FaultManager → FaultManager) : (s.setFaults f).now = s.now := rfl
@[simp] theorem State.setFaults_phase (f : FaultManager → FaultManager) : (s.setFaults f).phase = s.phase := rfl
@[simp] theorem State.setFaults_sample10 (f : FaultManager → FaultManager) : (s.setFaults f).sample10 = s.sample10 := rfl
@[simp] theorem State.setFaults_lrate (f : FaultManager → FaultManager) : (s.setFaults f).lrate = s.lrate := rfl
@[simp] theorem State.setFaults_hrate (f : FaultManager → FaultManager) : (s.setFaults f).hrate = s.hrate := rfl
@[simp] theorem State.setFaults_pins (f : FaultManager → FaultManager) : (s.setFaults f).pins = s.pins := rfl
@[simp] theorem State.setFaults_points (f : FaultManager → FaultManager) : (s.setFaults f).points = s.points := rfl
@[simp] theorem State.setFaults_tStuck (f : FaultManager → FaultManager) : (s.setFaults f).tStuck = s.tStuck := rfl
@[simp] theorem State.setFaults_sections (f : FaultManager → FaultManager) : (s.setFaults f).sections = s.sections := rfl
@[simp] theorem State.setFaults_slots (f : FaultManager → FaultManager) : (s.setFaults f).slots = s.slots := rfl
@[simp] theorem State.setFaults_rwt (f : FaultManager → FaultManager) : (s.setFaults f).rwt = s.rwt := rfl
@[simp] theorem State.setFaults_seq (f : FaultManager → FaultManager) : (s.setFaults f).seq = s.seq := rfl
@[simp] theorem State.setFaults_lamps (f : FaultManager → FaultManager) : (s.setFaults f).lamps = s.lamps := rfl
@[simp] theorem State.setFaults_barriers (f : FaultManager → FaultManager) : (s.setFaults f).barriers = s.barriers := rfl
@[simp] theorem State.setFaults_faults (f : FaultManager → FaultManager) : (s.setFaults f).faults = f s.faults := rfl
@[simp] theorem State.setFaults_supply (f : FaultManager → FaultManager) : (s.setFaults f).supply = s.supply := rfl
@[simp] theorem State.setFaults_line (f : FaultManager → FaultManager) : (s.setFaults f).line = s.line := rfl
@[simp] theorem State.setFaults_reports (f : FaultManager → FaultManager) : (s.setFaults f).reports = s.reports := rfl
@[simp] theorem State.setFaults_memory (f : FaultManager → FaultManager) : (s.setFaults f).memory = s.memory := rfl
@[simp] theorem State.setFaults_counters (f : FaultManager → FaultManager) : (s.setFaults f).counters = s.counters := rfl
@[simp] theorem State.setFaults_host (f : FaultManager → FaultManager) : (s.setFaults f).host = s.host := rfl
@[simp] theorem State.setFaults_free (f : FaultManager → FaultManager) : (s.setFaults f).free = s.free := rfl
@[simp] theorem State.setFaults_pending (f : FaultManager → FaultManager) : (s.setFaults f).pending = s.pending := rfl

@[simp] theorem State.setSupply_part (f : Supply → Supply) : (s.setSupply f).part = s.part := rfl
@[simp] theorem State.setSupply_now (f : Supply → Supply) : (s.setSupply f).now = s.now := rfl
@[simp] theorem State.setSupply_phase (f : Supply → Supply) : (s.setSupply f).phase = s.phase := rfl
@[simp] theorem State.setSupply_sample10 (f : Supply → Supply) : (s.setSupply f).sample10 = s.sample10 := rfl
@[simp] theorem State.setSupply_lrate (f : Supply → Supply) : (s.setSupply f).lrate = s.lrate := rfl
@[simp] theorem State.setSupply_hrate (f : Supply → Supply) : (s.setSupply f).hrate = s.hrate := rfl
@[simp] theorem State.setSupply_pins (f : Supply → Supply) : (s.setSupply f).pins = s.pins := rfl
@[simp] theorem State.setSupply_points (f : Supply → Supply) : (s.setSupply f).points = s.points := rfl
@[simp] theorem State.setSupply_tStuck (f : Supply → Supply) : (s.setSupply f).tStuck = s.tStuck := rfl
@[simp] theorem State.setSupply_sections (f : Supply → Supply) : (s.setSupply f).sections = s.sections := rfl
@[simp] theorem State.setSupply_slots (f : Supply → Supply) : (s.setSupply f).slots = s.slots := rfl
@[simp] theorem State.setSupply_rwt (f : Supply → Supply) : (s.setSupply f).rwt = s.rwt := rfl
@[simp] theorem State.setSupply_seq (f : Supply → Supply) : (s.setSupply f).seq = s.seq := rfl
@[simp] theorem State.setSupply_lamps (f : Supply → Supply) : (s.setSupply f).lamps = s.lamps := rfl
@[simp] theorem State.setSupply_barriers (f : Supply → Supply) : (s.setSupply f).barriers = s.barriers := rfl
@[simp] theorem State.setSupply_faults (f : Supply → Supply) : (s.setSupply f).faults = s.faults := rfl
@[simp] theorem State.setSupply_supply (f : Supply → Supply) : (s.setSupply f).supply = f s.supply := rfl
@[simp] theorem State.setSupply_line (f : Supply → Supply) : (s.setSupply f).line = s.line := rfl
@[simp] theorem State.setSupply_reports (f : Supply → Supply) : (s.setSupply f).reports = s.reports := rfl
@[simp] theorem State.setSupply_memory (f : Supply → Supply) : (s.setSupply f).memory = s.memory := rfl
@[simp] theorem State.setSupply_counters (f : Supply → Supply) : (s.setSupply f).counters = s.counters := rfl
@[simp] theorem State.setSupply_host (f : Supply → Supply) : (s.setSupply f).host = s.host := rfl
@[simp] theorem State.setSupply_free (f : Supply → Supply) : (s.setSupply f).free = s.free := rfl
@[simp] theorem State.setSupply_pending (f : Supply → Supply) : (s.setSupply f).pending = s.pending := rfl

@[simp] theorem State.setLine_part (f : LineController → LineController) : (s.setLine f).part = s.part := rfl
@[simp] theorem State.setLine_now (f : LineController → LineController) : (s.setLine f).now = s.now := rfl
@[simp] theorem State.setLine_phase (f : LineController → LineController) : (s.setLine f).phase = s.phase := rfl
@[simp] theorem State.setLine_sample10 (f : LineController → LineController) : (s.setLine f).sample10 = s.sample10 := rfl
@[simp] theorem State.setLine_lrate (f : LineController → LineController) : (s.setLine f).lrate = s.lrate := rfl
@[simp] theorem State.setLine_hrate (f : LineController → LineController) : (s.setLine f).hrate = s.hrate := rfl
@[simp] theorem State.setLine_pins (f : LineController → LineController) : (s.setLine f).pins = s.pins := rfl
@[simp] theorem State.setLine_points (f : LineController → LineController) : (s.setLine f).points = s.points := rfl
@[simp] theorem State.setLine_tStuck (f : LineController → LineController) : (s.setLine f).tStuck = s.tStuck := rfl
@[simp] theorem State.setLine_sections (f : LineController → LineController) : (s.setLine f).sections = s.sections := rfl
@[simp] theorem State.setLine_slots (f : LineController → LineController) : (s.setLine f).slots = s.slots := rfl
@[simp] theorem State.setLine_rwt (f : LineController → LineController) : (s.setLine f).rwt = s.rwt := rfl
@[simp] theorem State.setLine_seq (f : LineController → LineController) : (s.setLine f).seq = s.seq := rfl
@[simp] theorem State.setLine_lamps (f : LineController → LineController) : (s.setLine f).lamps = s.lamps := rfl
@[simp] theorem State.setLine_barriers (f : LineController → LineController) : (s.setLine f).barriers = s.barriers := rfl
@[simp] theorem State.setLine_faults (f : LineController → LineController) : (s.setLine f).faults = s.faults := rfl
@[simp] theorem State.setLine_supply (f : LineController → LineController) : (s.setLine f).supply = s.supply := rfl
@[simp] theorem State.setLine_line (f : LineController → LineController) : (s.setLine f).line = f s.line := rfl
@[simp] theorem State.setLine_reports (f : LineController → LineController) : (s.setLine f).reports = s.reports := rfl
@[simp] theorem State.setLine_memory (f : LineController → LineController) : (s.setLine f).memory = s.memory := rfl
@[simp] theorem State.setLine_counters (f : LineController → LineController) : (s.setLine f).counters = s.counters := rfl
@[simp] theorem State.setLine_host (f : LineController → LineController) : (s.setLine f).host = s.host := rfl
@[simp] theorem State.setLine_free (f : LineController → LineController) : (s.setLine f).free = s.free := rfl
@[simp] theorem State.setLine_pending (f : LineController → LineController) : (s.setLine f).pending = s.pending := rfl

@[simp] theorem State.setReports_part (f : ReportScheduler → ReportScheduler) : (s.setReports f).part = s.part := rfl
@[simp] theorem State.setReports_now (f : ReportScheduler → ReportScheduler) : (s.setReports f).now = s.now := rfl
@[simp] theorem State.setReports_phase (f : ReportScheduler → ReportScheduler) : (s.setReports f).phase = s.phase := rfl
@[simp] theorem State.setReports_sample10 (f : ReportScheduler → ReportScheduler) : (s.setReports f).sample10 = s.sample10 := rfl
@[simp] theorem State.setReports_lrate (f : ReportScheduler → ReportScheduler) : (s.setReports f).lrate = s.lrate := rfl
@[simp] theorem State.setReports_hrate (f : ReportScheduler → ReportScheduler) : (s.setReports f).hrate = s.hrate := rfl
@[simp] theorem State.setReports_pins (f : ReportScheduler → ReportScheduler) : (s.setReports f).pins = s.pins := rfl
@[simp] theorem State.setReports_points (f : ReportScheduler → ReportScheduler) : (s.setReports f).points = s.points := rfl
@[simp] theorem State.setReports_tStuck (f : ReportScheduler → ReportScheduler) : (s.setReports f).tStuck = s.tStuck := rfl
@[simp] theorem State.setReports_sections (f : ReportScheduler → ReportScheduler) : (s.setReports f).sections = s.sections := rfl
@[simp] theorem State.setReports_slots (f : ReportScheduler → ReportScheduler) : (s.setReports f).slots = s.slots := rfl
@[simp] theorem State.setReports_rwt (f : ReportScheduler → ReportScheduler) : (s.setReports f).rwt = s.rwt := rfl
@[simp] theorem State.setReports_seq (f : ReportScheduler → ReportScheduler) : (s.setReports f).seq = s.seq := rfl
@[simp] theorem State.setReports_lamps (f : ReportScheduler → ReportScheduler) : (s.setReports f).lamps = s.lamps := rfl
@[simp] theorem State.setReports_barriers (f : ReportScheduler → ReportScheduler) : (s.setReports f).barriers = s.barriers := rfl
@[simp] theorem State.setReports_faults (f : ReportScheduler → ReportScheduler) : (s.setReports f).faults = s.faults := rfl
@[simp] theorem State.setReports_supply (f : ReportScheduler → ReportScheduler) : (s.setReports f).supply = s.supply := rfl
@[simp] theorem State.setReports_line (f : ReportScheduler → ReportScheduler) : (s.setReports f).line = s.line := rfl
@[simp] theorem State.setReports_reports (f : ReportScheduler → ReportScheduler) : (s.setReports f).reports = f s.reports := rfl
@[simp] theorem State.setReports_memory (f : ReportScheduler → ReportScheduler) : (s.setReports f).memory = s.memory := rfl
@[simp] theorem State.setReports_counters (f : ReportScheduler → ReportScheduler) : (s.setReports f).counters = s.counters := rfl
@[simp] theorem State.setReports_host (f : ReportScheduler → ReportScheduler) : (s.setReports f).host = s.host := rfl
@[simp] theorem State.setReports_free (f : ReportScheduler → ReportScheduler) : (s.setReports f).free = s.free := rfl
@[simp] theorem State.setReports_pending (f : ReportScheduler → ReportScheduler) : (s.setReports f).pending = s.pending := rfl

@[simp] theorem State.setMemory_part (f : RecordMemory → RecordMemory) : (s.setMemory f).part = s.part := rfl
@[simp] theorem State.setMemory_now (f : RecordMemory → RecordMemory) : (s.setMemory f).now = s.now := rfl
@[simp] theorem State.setMemory_phase (f : RecordMemory → RecordMemory) : (s.setMemory f).phase = s.phase := rfl
@[simp] theorem State.setMemory_sample10 (f : RecordMemory → RecordMemory) : (s.setMemory f).sample10 = s.sample10 := rfl
@[simp] theorem State.setMemory_lrate (f : RecordMemory → RecordMemory) : (s.setMemory f).lrate = s.lrate := rfl
@[simp] theorem State.setMemory_hrate (f : RecordMemory → RecordMemory) : (s.setMemory f).hrate = s.hrate := rfl
@[simp] theorem State.setMemory_pins (f : RecordMemory → RecordMemory) : (s.setMemory f).pins = s.pins := rfl
@[simp] theorem State.setMemory_points (f : RecordMemory → RecordMemory) : (s.setMemory f).points = s.points := rfl
@[simp] theorem State.setMemory_tStuck (f : RecordMemory → RecordMemory) : (s.setMemory f).tStuck = s.tStuck := rfl
@[simp] theorem State.setMemory_sections (f : RecordMemory → RecordMemory) : (s.setMemory f).sections = s.sections := rfl
@[simp] theorem State.setMemory_slots (f : RecordMemory → RecordMemory) : (s.setMemory f).slots = s.slots := rfl
@[simp] theorem State.setMemory_rwt (f : RecordMemory → RecordMemory) : (s.setMemory f).rwt = s.rwt := rfl
@[simp] theorem State.setMemory_seq (f : RecordMemory → RecordMemory) : (s.setMemory f).seq = s.seq := rfl
@[simp] theorem State.setMemory_lamps (f : RecordMemory → RecordMemory) : (s.setMemory f).lamps = s.lamps := rfl
@[simp] theorem State.setMemory_barriers (f : RecordMemory → RecordMemory) : (s.setMemory f).barriers = s.barriers := rfl
@[simp] theorem State.setMemory_faults (f : RecordMemory → RecordMemory) : (s.setMemory f).faults = s.faults := rfl
@[simp] theorem State.setMemory_supply (f : RecordMemory → RecordMemory) : (s.setMemory f).supply = s.supply := rfl
@[simp] theorem State.setMemory_line (f : RecordMemory → RecordMemory) : (s.setMemory f).line = s.line := rfl
@[simp] theorem State.setMemory_reports (f : RecordMemory → RecordMemory) : (s.setMemory f).reports = s.reports := rfl
@[simp] theorem State.setMemory_memory (f : RecordMemory → RecordMemory) : (s.setMemory f).memory = f s.memory := rfl
@[simp] theorem State.setMemory_counters (f : RecordMemory → RecordMemory) : (s.setMemory f).counters = s.counters := rfl
@[simp] theorem State.setMemory_host (f : RecordMemory → RecordMemory) : (s.setMemory f).host = s.host := rfl
@[simp] theorem State.setMemory_free (f : RecordMemory → RecordMemory) : (s.setMemory f).free = s.free := rfl
@[simp] theorem State.setMemory_pending (f : RecordMemory → RecordMemory) : (s.setMemory f).pending = s.pending := rfl

@[simp] theorem State.setHost_part (f : HostPort → HostPort) : (s.setHost f).part = s.part := rfl
@[simp] theorem State.setHost_now (f : HostPort → HostPort) : (s.setHost f).now = s.now := rfl
@[simp] theorem State.setHost_phase (f : HostPort → HostPort) : (s.setHost f).phase = s.phase := rfl
@[simp] theorem State.setHost_sample10 (f : HostPort → HostPort) : (s.setHost f).sample10 = s.sample10 := rfl
@[simp] theorem State.setHost_lrate (f : HostPort → HostPort) : (s.setHost f).lrate = s.lrate := rfl
@[simp] theorem State.setHost_hrate (f : HostPort → HostPort) : (s.setHost f).hrate = s.hrate := rfl
@[simp] theorem State.setHost_pins (f : HostPort → HostPort) : (s.setHost f).pins = s.pins := rfl
@[simp] theorem State.setHost_points (f : HostPort → HostPort) : (s.setHost f).points = s.points := rfl
@[simp] theorem State.setHost_tStuck (f : HostPort → HostPort) : (s.setHost f).tStuck = s.tStuck := rfl
@[simp] theorem State.setHost_sections (f : HostPort → HostPort) : (s.setHost f).sections = s.sections := rfl
@[simp] theorem State.setHost_slots (f : HostPort → HostPort) : (s.setHost f).slots = s.slots := rfl
@[simp] theorem State.setHost_rwt (f : HostPort → HostPort) : (s.setHost f).rwt = s.rwt := rfl
@[simp] theorem State.setHost_seq (f : HostPort → HostPort) : (s.setHost f).seq = s.seq := rfl
@[simp] theorem State.setHost_lamps (f : HostPort → HostPort) : (s.setHost f).lamps = s.lamps := rfl
@[simp] theorem State.setHost_barriers (f : HostPort → HostPort) : (s.setHost f).barriers = s.barriers := rfl
@[simp] theorem State.setHost_faults (f : HostPort → HostPort) : (s.setHost f).faults = s.faults := rfl
@[simp] theorem State.setHost_supply (f : HostPort → HostPort) : (s.setHost f).supply = s.supply := rfl
@[simp] theorem State.setHost_line (f : HostPort → HostPort) : (s.setHost f).line = s.line := rfl
@[simp] theorem State.setHost_reports (f : HostPort → HostPort) : (s.setHost f).reports = s.reports := rfl
@[simp] theorem State.setHost_memory (f : HostPort → HostPort) : (s.setHost f).memory = s.memory := rfl
@[simp] theorem State.setHost_counters (f : HostPort → HostPort) : (s.setHost f).counters = s.counters := rfl
@[simp] theorem State.setHost_host (f : HostPort → HostPort) : (s.setHost f).host = f s.host := rfl
@[simp] theorem State.setHost_free (f : HostPort → HostPort) : (s.setHost f).free = s.free := rfl
@[simp] theorem State.setHost_pending (f : HostPort → HostPort) : (s.setHost f).pending = s.pending := rfl

@[simp] theorem State.setPins_part (f : Pins → Pins) : (s.setPins f).part = s.part := rfl
@[simp] theorem State.setPins_now (f : Pins → Pins) : (s.setPins f).now = s.now := rfl
@[simp] theorem State.setPins_phase (f : Pins → Pins) : (s.setPins f).phase = s.phase := rfl
@[simp] theorem State.setPins_sample10 (f : Pins → Pins) : (s.setPins f).sample10 = s.sample10 := rfl
@[simp] theorem State.setPins_lrate (f : Pins → Pins) : (s.setPins f).lrate = s.lrate := rfl
@[simp] theorem State.setPins_hrate (f : Pins → Pins) : (s.setPins f).hrate = s.hrate := rfl
@[simp] theorem State.setPins_pins (f : Pins → Pins) : (s.setPins f).pins = f s.pins := rfl
@[simp] theorem State.setPins_points (f : Pins → Pins) : (s.setPins f).points = s.points := rfl
@[simp] theorem State.setPins_tStuck (f : Pins → Pins) : (s.setPins f).tStuck = s.tStuck := rfl
@[simp] theorem State.setPins_sections (f : Pins → Pins) : (s.setPins f).sections = s.sections := rfl
@[simp] theorem State.setPins_slots (f : Pins → Pins) : (s.setPins f).slots = s.slots := rfl
@[simp] theorem State.setPins_rwt (f : Pins → Pins) : (s.setPins f).rwt = s.rwt := rfl
@[simp] theorem State.setPins_seq (f : Pins → Pins) : (s.setPins f).seq = s.seq := rfl
@[simp] theorem State.setPins_lamps (f : Pins → Pins) : (s.setPins f).lamps = s.lamps := rfl
@[simp] theorem State.setPins_barriers (f : Pins → Pins) : (s.setPins f).barriers = s.barriers := rfl
@[simp] theorem State.setPins_faults (f : Pins → Pins) : (s.setPins f).faults = s.faults := rfl
@[simp] theorem State.setPins_supply (f : Pins → Pins) : (s.setPins f).supply = s.supply := rfl
@[simp] theorem State.setPins_line (f : Pins → Pins) : (s.setPins f).line = s.line := rfl
@[simp] theorem State.setPins_reports (f : Pins → Pins) : (s.setPins f).reports = s.reports := rfl
@[simp] theorem State.setPins_memory (f : Pins → Pins) : (s.setPins f).memory = s.memory := rfl
@[simp] theorem State.setPins_counters (f : Pins → Pins) : (s.setPins f).counters = s.counters := rfl
@[simp] theorem State.setPins_host (f : Pins → Pins) : (s.setPins f).host = s.host := rfl
@[simp] theorem State.setPins_free (f : Pins → Pins) : (s.setPins f).free = s.free := rfl
@[simp] theorem State.setPins_pending (f : Pins → Pins) : (s.setPins f).pending = s.pending := rfl

@[simp] theorem State.setCounter_part (i : Fin 32) (f : Counter → Counter) : (s.setCounter i f).part = s.part := rfl
@[simp] theorem State.setCounter_now (i : Fin 32) (f : Counter → Counter) : (s.setCounter i f).now = s.now := rfl
@[simp] theorem State.setCounter_phase (i : Fin 32) (f : Counter → Counter) : (s.setCounter i f).phase = s.phase := rfl
@[simp] theorem State.setCounter_sample10 (i : Fin 32) (f : Counter → Counter) : (s.setCounter i f).sample10 = s.sample10 := rfl
@[simp] theorem State.setCounter_lrate (i : Fin 32) (f : Counter → Counter) : (s.setCounter i f).lrate = s.lrate := rfl
@[simp] theorem State.setCounter_hrate (i : Fin 32) (f : Counter → Counter) : (s.setCounter i f).hrate = s.hrate := rfl
@[simp] theorem State.setCounter_pins (i : Fin 32) (f : Counter → Counter) : (s.setCounter i f).pins = s.pins := rfl
@[simp] theorem State.setCounter_points (i : Fin 32) (f : Counter → Counter) : (s.setCounter i f).points = s.points := rfl
@[simp] theorem State.setCounter_tStuck (i : Fin 32) (f : Counter → Counter) : (s.setCounter i f).tStuck = s.tStuck := rfl
@[simp] theorem State.setCounter_sections (i : Fin 32) (f : Counter → Counter) : (s.setCounter i f).sections = s.sections := rfl
@[simp] theorem State.setCounter_slots (i : Fin 32) (f : Counter → Counter) : (s.setCounter i f).slots = s.slots := rfl
@[simp] theorem State.setCounter_rwt (i : Fin 32) (f : Counter → Counter) : (s.setCounter i f).rwt = s.rwt := rfl
@[simp] theorem State.setCounter_seq (i : Fin 32) (f : Counter → Counter) : (s.setCounter i f).seq = s.seq := rfl
@[simp] theorem State.setCounter_lamps (i : Fin 32) (f : Counter → Counter) : (s.setCounter i f).lamps = s.lamps := rfl
@[simp] theorem State.setCounter_barriers (i : Fin 32) (f : Counter → Counter) : (s.setCounter i f).barriers = s.barriers := rfl
@[simp] theorem State.setCounter_faults (i : Fin 32) (f : Counter → Counter) : (s.setCounter i f).faults = s.faults := rfl
@[simp] theorem State.setCounter_supply (i : Fin 32) (f : Counter → Counter) : (s.setCounter i f).supply = s.supply := rfl
@[simp] theorem State.setCounter_line (i : Fin 32) (f : Counter → Counter) : (s.setCounter i f).line = s.line := rfl
@[simp] theorem State.setCounter_reports (i : Fin 32) (f : Counter → Counter) : (s.setCounter i f).reports = s.reports := rfl
@[simp] theorem State.setCounter_memory (i : Fin 32) (f : Counter → Counter) : (s.setCounter i f).memory = s.memory := rfl
@[simp] theorem State.setCounter_counters (i : Fin 32) (f : Counter → Counter) : (s.setCounter i f).counters = upd s.counters i f := rfl
@[simp] theorem State.setCounter_host (i : Fin 32) (f : Counter → Counter) : (s.setCounter i f).host = s.host := rfl
@[simp] theorem State.setCounter_free (i : Fin 32) (f : Counter → Counter) : (s.setCounter i f).free = s.free := rfl
@[simp] theorem State.setCounter_pending (i : Fin 32) (f : Counter → Counter) : (s.setCounter i f).pending = s.pending := rfl

@[simp] theorem State.tookFree_part : (s.tookFree).part = s.part := rfl
@[simp] theorem State.tookFree_now : (s.tookFree).now = s.now := rfl
@[simp] theorem State.tookFree_phase : (s.tookFree).phase = s.phase := rfl
@[simp] theorem State.tookFree_sample10 : (s.tookFree).sample10 = s.sample10 := rfl
@[simp] theorem State.tookFree_lrate : (s.tookFree).lrate = s.lrate := rfl
@[simp] theorem State.tookFree_hrate : (s.tookFree).hrate = s.hrate := rfl
@[simp] theorem State.tookFree_pins : (s.tookFree).pins = s.pins := rfl
@[simp] theorem State.tookFree_points : (s.tookFree).points = s.points := rfl
@[simp] theorem State.tookFree_tStuck : (s.tookFree).tStuck = s.tStuck := rfl
@[simp] theorem State.tookFree_sections : (s.tookFree).sections = s.sections := rfl
@[simp] theorem State.tookFree_slots : (s.tookFree).slots = s.slots := rfl
@[simp] theorem State.tookFree_rwt : (s.tookFree).rwt = s.rwt := rfl
@[simp] theorem State.tookFree_seq : (s.tookFree).seq = s.seq := rfl
@[simp] theorem State.tookFree_lamps : (s.tookFree).lamps = s.lamps := rfl
@[simp] theorem State.tookFree_barriers : (s.tookFree).barriers = s.barriers := rfl
@[simp] theorem State.tookFree_faults : (s.tookFree).faults = s.faults := rfl
@[simp] theorem State.tookFree_supply : (s.tookFree).supply = s.supply := rfl
@[simp] theorem State.tookFree_line : (s.tookFree).line = s.line := rfl
@[simp] theorem State.tookFree_reports : (s.tookFree).reports = s.reports := rfl
@[simp] theorem State.tookFree_memory : (s.tookFree).memory = s.memory := rfl
@[simp] theorem State.tookFree_counters : (s.tookFree).counters = s.counters := rfl
@[simp] theorem State.tookFree_host : (s.tookFree).host = s.host := rfl
@[simp] theorem State.tookFree_free : (s.tookFree).free = s.free + 1 := rfl
@[simp] theorem State.tookFree_pending : (s.tookFree).pending = s.pending := rfl

end Sys2Proof.Machine
end

