-- ==== Sys2Proof/Laws/Frames.lean ====
section
/-! SUPPORT. What each shared operation may change: one frame lemma for each, in the order of the Machine files. A proof
cites these in place of unfolding an operation. -/

namespace Sys2Proof.Machine

/-! ### Frames -/

theorem Same.refl (b : Block) (s : State) : Same b s s := by cases b <;> simp [Same]

theorem Same.trans {b : Block} {s t u : State} (h : Same b s t) (h' : Same b t u) : Same b s u := by
  cases b <;> simp_all [Same]

theorem Only.refl (bs : List Block) (s : State) : Only bs s s := fun b _ => Same.refl b s

theorem Only.trans {bs : List Block} {s t u : State} (h : Only bs s t) (h' : Only bs t u) : Only bs s u :=
  fun b hb => (h b hb).trans (h' b hb)

theorem Only.mono {as bs : List Block} {s t : State} (h : Only as s t) (sub : ∀ b ∈ as, b ∈ bs) : Only bs s t :=
  fun b hb => h b fun hm => hb (sub b hm)

/-- One frame after another, both within the larger. -/
theorem Only.seq {as bs cs : List Block} {s t u : State} (h : Only as s t) (h' : Only bs t u)
    (ha : ∀ b ∈ as, b ∈ cs) (hb : ∀ b ∈ bs, b ∈ cs) : Only cs s u :=
  (h.mono ha).trans (h'.mono hb)

/-- A fold of steps that each keep a frame keeps it. -/
theorem Only.foldl {α : Type} {bs : List Block} {f : State → α → State} (hf : ∀ s a, Only bs s (f s a)) (l : List α)
    (s : State) : Only bs s (l.foldl f s) := by
  induction l generalizing s with
  | nil => exact Only.refl bs s
  | cons a l ih => exact (hf s a).trans (ih (f s a))

theorem Only.ite {bs : List Block} {s t u : State} {c : Prop} [Decidable c] (ht : Only bs s t) (hu : Only bs s u) :
    Only bs s (if c then t else u) := by
  split
  · exact ht
  · exact hu

/-! ### The single-entry updates -/

theorem setHost_only (s : State) (f : HostPort → HostPort) : Only [.port, .notices] s (s.setHost f) := by
  intro b hb; cases b <;> simp_all [Same, State.configuration]

theorem setReports_only (s : State) (f : ReportScheduler → ReportScheduler) : Only [.reports] s (s.setReports f) := by
  intro b hb; cases b <;> simp_all [Same, State.configuration]

theorem setFaults_only (s : State) (f : FaultManager → FaultManager) : Only [.faults] s (s.setFaults f) := by
  intro b hb; cases b <;> simp_all [Same, State.configuration]

theorem setPins_only (s : State) (f : Pins → Pins) : Only [.pins] s (s.setPins f) := by
  intro b hb; cases b <;> simp_all [Same, State.configuration]

theorem setCounter_only (s : State) (i : Fin 32) (f : Counter → Counter) : Only [.counters] s (s.setCounter i f) := by
  intro b hb; cases b <;> simp_all [Same, State.configuration]

theorem setSupply_only (s : State) (f : Supply → Supply) : Only [.supply] s (s.setSupply f) := by
  intro b hb; cases b <;> simp_all [Same, State.configuration]

theorem tookFree_only (s : State) : Only [.free] s s.tookFree := by
  intro b hb; cases b <;> simp_all [Same, State.configuration]

theorem remake_eq_of {α β : Type} {n : Nat} {v w : Vector α n} {f : Fin n → α → β}
    (h : ∀ i : Fin n, f i w[i] = f i v[i]) : remake w f = remake v f := by
  ext j hj
  simpa using h ⟨j, hj⟩

theorem remake_upd {α β : Type} {n : Nat} (v : Vector α n) (i : Fin n) (g : α → α) (f : Fin n → α → β)
    (h : f i (g v[i]) = f i v[i]) : remake (upd v i g) f = remake v f := by
  apply remake_eq_of
  intro j
  have := upd_getElem v i g j.val j.isLt
  simp only [Fin.getElem_fin] at h ⊢
  rw [this]
  split
  · next e => cases Fin.ext e; exact h
  · rfl

/-- A point keeps its configuration. -/
theorem setPoint_only (s : State) (p : Fin 12) (f : Point → Point)
    (h : ∀ x, ((f x).track, (f x).position, (f x).spacing) = (x.track, x.position, x.spacing)) :
    Only [.points] s (s.setPoint p f) := by
  intro b hb; cases b <;> simp_all [Same, State.configuration]
  exact remake_upd _ _ _ _ (by simpa using h _)

theorem setSect_only (s : State) (i : Fin 10) (f : Sect → Sect)
    (h : ((f s.sections[i]).track, (f s.sections[i]).aEnd, (f s.sections[i]).bEnd, (f s.sections[i]).role) =
      (s.sections[i].track, s.sections[i].aEnd, s.sections[i].bEnd, s.sections[i].role)) :
    Only [.sections] s (s.setSect i f) := by
  intro b hb; cases b <;> simp_all [Same, State.configuration]
  exact remake_upd _ _ _ _ (by simpa using h)

theorem setSlot_only (s : State) (k : Fin 4) (f : Slot → Slot)
    (h : ∀ x, ((f x).vLine, (f x).vFloor, (f x).accel) = (x.vLine, x.vFloor, x.accel)) :
    Only [.slots] s (s.setSlot k f) := by
  intro b hb; cases b <;> simp_all [Same, State.configuration]
  exact remake_upd _ _ _ _ (by simpa using h _)

theorem setBarrier_only (s : State) (b : Fin 4) (f : Barrier → Barrier)
    (h : ((f s.barriers[b]).configured, (f s.barriers[b]).role, (f s.barriers[b]).side, (f s.barriers[b]).lower,
        (f s.barriers[b]).raise) =
      (s.barriers[b].configured, s.barriers[b].role, s.barriers[b].side, s.barriers[b].lower, s.barriers[b].raise)) :
    Only [.barriers] s (s.setBarrier b f) := by
  intro b hb; cases b <;> simp_all [Same, State.configuration]
  exact remake_upd _ _ _ _ (by simpa using h)

theorem setLamp_only (s : State) (c : Fin 10) (f : Lamp → Lamp)
    (h : ∀ l, ((f l).enabled, (f l).iMin, (f l).iMax, (f l).iOff) = (l.enabled, l.iMin, l.iMax, l.iOff)) :
    Only [.lamps] s (s.setLamp c f) := by
  intro b hb; cases b <;> simp_all [Same, State.configuration]
  exact remake_upd _ _ _ _ (by simpa using h _)

/-- What of the Lamp Driver is configured. -/
def LampDriver.settings (d : LampDriver) : Vector (Bool × Nat × Nat × Nat) 10 × FlashConfig :=
  (remake d.lamps fun _ l => (l.enabled, l.iMin, l.iMax, l.iOff), d.flash)

theorem setLamps_only (s : State) (f : LampDriver → LampDriver) (h : (f s.lamps).settings = s.lamps.settings) :
    Only [.lamps] s (s.setLamps f) := by
  intro b hb; cases b <;> simp_all [Same, State.configuration, LampDriver.settings]

/-- What of the Sequencer is configured. -/
def Sequencer.times (q : Sequencer) : List Nat := [q.tAmber, q.tPrelower, q.tExitDelay, q.tMinOpen, q.tLong]

theorem setSeq_only (s : State) (f : Sequencer → Sequencer) (h : (f s.seq).times = s.seq.times)
    (hs : (f s.seq).holdSignaller = s.seq.holdSignaller) (hl : (f s.seq).holdLocal = s.seq.holdLocal) :
    Only [.seq] s (s.setSeq f) := by
  intro b hb; cases b <;> simp_all [Same, State.configuration, Sequencer.times]

/-- What of the Line Controller is configured. -/
def LineController.settings (l : LineController) :
    Option (BitVec 6) × Vector (Option (BitVec 6)) 4 × Nat × Nat × Nat :=
  (l.own, l.groups, l.beaconMs, l.tHealth, l.tRepeat)

theorem setLine_only (s : State) (f : LineController → LineController)
    (h : (f s.line).settings = s.line.settings) (hs : (f s.line).supervision = s.line.supervision) :
    Only [.line] s (s.setLine f) := by
  intro b hb; cases b <;> simp_all [Same, State.configuration, LineController.settings, LineController.supervision]

theorem setLine_only_link (s : State) (f : LineController → LineController)
    (h : (f s.line).settings = s.line.settings) : Only [.link, .line] s (s.setLine f) := by
  intro b hb; cases b <;> simp_all [Same, State.configuration, LineController.settings]

/-! ### Notices, counters, log, status mark -/

theorem queueNotice_only (n : Notice) (s : State) : Only [.notices] s (queueNotice n s) := by
  unfold queueNotice
  split <;> (intro b hb; cases b <;> simp_all [Same, State.configuration, HostPort.ports])

theorem bump_only (i : Fin 32) (s : State) : Only [.counters, .notices] s (bump i s) := by
  unfold bump
  have h1 := (setCounter_only s i fun _ => s.counters[i].bumped).mono (bs := [.counters, .notices]) (by decide)
  have q := fun n t => (queueNotice_only n t).mono (bs := [.counters, .notices]) (by decide)
  dsimp only
  split <;> split
  · exact (h1.trans (q _ _)).trans (q _ _)
  · exact h1.trans (q _ _)
  · exact h1.trans (q _ _)
  · exact h1

theorem writeLog_only (k : LogKind) (o : Nat) (d : List Byte) (s : State) :
    Only [.log, .notices] s (writeLog k o d s) := by
  have h1 : Only [.log, .notices] s (s.setMemory fun _ => s.memory.append s.now k o d) := by
    intro b hb; cases b <;> simp_all [Same, State.configuration, RecordMemory.append]
  unfold writeLog
  dsimp only
  split
  · split
    · exact h1.trans ((queueNotice_only _ _).mono (by decide))
    · exact h1
  · exact Only.refl _ _

theorem statusDue_only (s : State) : Only [.reports] s (statusDue s) := setReports_only _ _

theorem emit1_only (s : State) (o : Output) : Only recordBlocks s (emit1 s o) := by
  cases o with
  | log k i d => exact (writeLog_only k i d s).mono (by decide)
  | notice n => exact (queueNotice_only n s).mono (by decide)
  | stateNotice => exact (queueNotice_only _ s).mono (by decide)
  | count i => exact (bump_only i s).mono (by decide)
  | statusDue => exact (statusDue_only s).mono (by decide)

theorem emit_only (os : List Output) (s : State) : Only recordBlocks s (emit os s) := Only.foldl emit1_only os s

/-! ### Faults -/

theorem applyFault_only (g : FaultManager → FaultStep) (s : State) :
    Only (.faults :: recordBlocks) s (applyFault g s) := by
  unfold applyFault
  have h : Only [.faults] s { s with faults := (g s.faults).1 } := setFaults_only s fun _ => (g s.faults).1
  exact h.seq (emit_only _ _) (by decide) (by decide)

theorem deriveMode_only (c : ModeCause) (s : State) : Only (.faults :: recordBlocks) s (deriveMode c s) := by
  unfold deriveMode
  split
  · exact Only.refl _ _
  · exact (setFaults_only s _).seq (emit_only _ _) (by decide) (by decide)

theorem endCondition_only (k : FaultKind) (o : Nat) (s : State) :
    Only (.faults :: recordBlocks) s (endCondition k o s) :=
  (applyFault_only _ _).trans (deriveMode_only _ _)

theorem raise_only (k : FaultKind) (o d : Nat) (s : State) : Only faultBlocks s (raise k o d s) := by
  unfold raise
  dsimp only
  refine ((applyFault_only (fun f => f.raised s.now (Config.freeByte s.free) k o d) s).mono (by decide)).trans ?_
  split
  · exact (tookFree_only _).seq (deriveMode_only _ _) (by decide) (by decide)
  · exact (deriveMode_only _ _).mono (by decide)

theorem endThenRaise_only (e : Option FaultKind) (k : FaultKind) (o d : Nat) (s : State) :
    Only faultBlocks s (endThenRaise e k o d s) := by
  have f := fun g c t => ((applyFault_only g t).trans (deriveMode_only c _)).mono (bs := faultBlocks) (by decide)
  unfold endThenRaise
  split
  · exact raise_only _ _ _ _
  · exact ((f _ _ _).trans (raise_only _ _ _ _)).trans (f _ _ _)

theorem acknowledge_only (r : Requester) (t : AckTarget) (s : State) :
    Only (.faults :: recordBlocks) s (acknowledge r t s).2 := by
  unfold acknowledge
  split
  · exact (applyFault_only _ _).trans (deriveMode_only _ _)
  · exact Only.refl _ _

theorem release_only (s : State) : Only (.faults :: recordBlocks) s (release s).2 := by
  unfold release
  split
  · exact Only.refl _ _
  · exact (setFaults_only s _).seq (deriveMode_only _ _) (by decide) (by decide)

/-! ### Trains -/

theorem setRecord_only (s : State) (k : Fin 4) (r : Option TrainRecord) : Only [.slots] s (s.setRecord k r) :=
  setSlot_only _ _ _ fun _ => rfl

theorem storePassage_only (p : PassageRecord) (s : State) : Only [.passages, .notices] s (storePassage p s) := by
  unfold storePassage
  have h1 : Only [.passages, .notices] s (s.setMemory fun _ => s.memory.store p) := by
    intro b hb; cases b <;> simp_all [Same, State.configuration, RecordMemory.store]
  exact h1.trans ((queueNotice_only _ _).mono (by decide))

theorem commitRecord_only (k : Fin 4) (c : CommitCause) (t : Time) (sh : Bool) (s : State) :
    Only (.slots :: recordBlocks) s (commitRecord k c t sh s) := by
  unfold commitRecord
  split
  · exact Only.refl _ _
  · split
    · exact Only.refl _ _
    · exact (setRecord_only _ _ _).seq (emit_only _ _) (by decide) (by decide)

theorem createRecord_only (k : Fin 4) (p : Fin 12) (s : State) :
    Only (.slots :: recordBlocks) s (createRecord k p s) :=
  (setRecord_only _ _ _).seq (emit_only _ _) (by decide) (by decide)

theorem testPrepared_only (k : Fin 4) (s : State) : Only (.slots :: recordBlocks) s (testPrepared k s) := by
  unfold testPrepared
  split
  · exact commitRecord_only _ _ _ _ _
  · exact Only.refl _ _

theorem guardCommit_only (g : Nat) (s : State) : Only (.slots :: recordBlocks) s (guardCommit g s) :=
  Only.foldl (fun s k => by split; exacts [commitRecord_only _ _ _ _ _, Only.refl _ _]) _ _

theorem speedChecks_only (k : Fin 4) (p : Fin 12) (n : Option Nat) (s : State) :
    Only faultBlocks s (speedChecks k p n s) := by
  have e := fun os s => (emit_only os s).mono (bs := faultBlocks) (by decide)
  unfold speedChecks
  split
  · exact e _ _
  · split
    · exact Only.refl _ _
    · split
      · exact (e _ _).trans (raise_only _ _ _ _)
      · exact Only.refl _ _

theorem commitTest_only (k : Fin 4) (t : Nat) (s : State) : Only (.slots :: faultBlocks) s (commitTest k t s) := by
  have c := fun k c t sh s => (commitRecord_only k c t sh s).mono (bs := .slots :: faultBlocks) (by decide)
  unfold commitTest
  split
  · exact Only.refl _ _
  · split
    · exact Only.refl _ _
    · split
      · split
        · exact ((c _ _ _ _ _).trans ((emit_only _ _).mono (by decide))).trans
            ((raise_only _ _ _ _).mono (by decide))
        · exact c _ _ _ _ _
      · exact Only.refl _ _

theorem predict_only (k : Fin 4) (p : Fin 12) (n : Option Nat) (s : State) :
    Only (.slots :: faultBlocks) s (predict k p n s) := by
  unfold predict
  split
  · exact Only.refl _ _
  · dsimp only
    refine Only.trans ?_ (commitTest_only _ _ _)
    refine Only.trans ?_ ((emit_only _ _).mono (by decide))
    refine Only.trans ?_ ((setRecord_only _ _ _).mono (by decide))
    exact (speedChecks_only _ _ _ _).mono (by decide)

theorem arriveRecord_only (k : Fin 4) (p : Fin 12) (s : State) :
    Only (.slots :: recordBlocks) s (arriveRecord k p s) := by
  unfold arriveRecord
  refine (commitRecord_only k .arrival s.now false s).trans ?_
  dsimp only
  split
  · exact Only.refl _ _
  · exact (setRecord_only _ _ _).seq (emit_only _ _) (by decide) (by decide)

theorem lateClosureTest_only (k : Fin 4) (s : State) : Only faultBlocks s (lateClosureTest k s) := by
  unfold lateClosureTest
  split
  · exact Only.refl _ _
  · exact ((emit_only _ _).mono (by decide)).trans (raise_only _ _ _ _)

theorem islandEntry_only (k : Fin 4) (s : State) : Only [.slots] s (islandEntry k s) := setSlot_only _ _ _ fun _ => rfl

theorem endRecord_only (k : Fin 4) (s : State) : Only ([.slots, .passages] ++ recordBlocks) s (endRecord k s) := by
  unfold endRecord
  split
  · exact Only.refl _ _
  · dsimp only
    refine Only.trans ?_ ((storePassage_only _ _).mono (by decide))
    refine Only.trans ?_ ((emit_only _ _).mono (by decide))
    exact (setRecord_only _ _ _).mono (by decide)

theorem endRecords_only (l : List (Fin 10)) (s : State) :
    Only ([.slots, .passages, .free] ++ recordBlocks) s (endRecords l s) := by
  have e := fun s k => (endRecord_only k s).mono (bs := [.slots, .passages, .free] ++ recordBlocks)
    (by decide)
  unfold endRecords
  dsimp only
  split
  · exact Only.refl _ _
  · exact e _ _
  · exact ((tookFree_only _).mono (by decide)).trans (Only.foldl e _ _)

/-! ### Sections -/

/-- What of a section is configured. -/
def Sect.settings (c : Sect) : Option Track × Fin 12 × Fin 12 × SectionRole := (c.track, c.aEnd, c.bEnd, c.role)

/-- An effect keeps its section's configuration. -/
def SectEffect.Keeps (s : State) (e : SectEffect) : Prop := e.change.new.settings = s.sections[e.index].settings

theorem Sect.enter_settings (c : Sect) : c.enter.new.settings = c.settings := by
  unfold Sect.enter; split <;> (try split) <;> rfl

theorem Sect.leave_settings (c : Sect) : c.leave.new.settings = c.settings := by
  unfold Sect.leave; split <;> (try split) <;> rfl

theorem Sect.skewed_settings (c : Sect) : c.skewed.new.settings = c.settings := by
  unfold Sect.skewed; split <;> rfl

theorem Sect.restored_settings (c : Sect) (m : RestoreMode) : (c.restored m).new.settings = c.settings := by
  cases m <;> rfl

theorem setEffects_only (es : List SectEffect) (s : State) (h : ∀ e ∈ es, e.Keeps s) :
    Only [.sections] s (es.foldl (fun s e => s.setSect e.index fun _ => e.change.new) s) := by
  induction es generalizing s with
  | nil => exact Only.refl _ _
  | cons e es ih =>
    have h1 := h e (by simp)
    refine (setSect_only s e.index (fun _ => e.change.new) ?_).trans (ih _ ?_)
    · simpa [SectEffect.Keeps, Sect.settings] using h1
    · intro e' he'
      have h2 := h e' (by simp [he'])
      unfold SectEffect.Keeps at *
      simp only [State.setSect_sections, Fin.getElem_fin, upd_getElem]
      split
      · next eq =>
        have : s.sections[e'.index] = s.sections[e.index] := by simp only [Fin.getElem_fin, eq]
        rw [h2, this]; exact h1.symm
      · exact h2

theorem SectEffect.raised_only (e : SectEffect) (s : State) : Only faultBlocks s (e.raised s) := by
  unfold SectEffect.raised
  split
  · exact Only.refl _ _
  · split
    · exact Only.refl _ _
    · exact raise_only _ _ _ _

theorem applyEffects_only (es : List SectEffect) (p : Option (Fin 12)) (s : State) (h : ∀ e ∈ es, e.Keeps s) :
    Only (.sections :: faultBlocks) s (applyEffects es p s) := by
  unfold applyEffects
  refine ((setEffects_only es s h).mono (by decide)).trans ?_
  exact ((emit_only _ _).mono (by decide)).trans
    ((Only.foldl (fun s e => e.raised_only s) _ _).mono (by decide))

theorem axleEffects_keep (s : State) (p : Fin 12) (d : Dir) : ∀ e ∈ s.axleEffects p d, e.Keeps s := by
  intro e he
  simp only [State.axleEffects, List.mem_append, Option.mem_toList, Option.map_eq_some_iff] at he
  rcases he with ⟨i, -, rfl⟩ | ⟨i, -, rfl⟩
  · exact Sect.leave_settings _
  · exact Sect.enter_settings _

theorem skewEffects_keep (s : State) (p : Fin 12) : ∀ e ∈ s.skewEffects p, e.Keeps s := by
  intro e he
  simp only [State.skewEffects, List.mem_append, Option.mem_toList, Option.map_eq_some_iff] at he
  rcases he with ⟨i, -, rfl⟩ | ⟨i, -, rfl⟩ <;> exact Sect.skewed_settings _

end Sys2Proof.Machine
end

