-- ==== Sys2Proof/Laws/Blocks.lean ====
section
/-! SUPPORT. What the Lamp Driver, the Barrier Controller, the Crossing Sequencer, the Point Monitor, the Report Scheduler and
the Line Controller may change: one frame lemma for each operation, up to `react` and a received frame. -/

namespace Sys2Proof.Machine

/-! ### Lamp Driver -/

theorem Lamp.light_limits (l : Lamp) (d : Option Time) :
    ((l.light d).enabled, (l.light d).iMin, (l.light d).iMax, (l.light d).iOff) = (l.enabled, l.iMin, l.iMax, l.iOff) := rfl

theorem Lamp.darken_limits (l : Lamp) (n : Time) (t : Nat) :
    ((l.darken n t).enabled, (l.darken n t).iMin, (l.darken n t).iMax, (l.darken n t).iOff) =
      (l.enabled, l.iMin, l.iMax, l.iOff) := by
  unfold Lamp.darken; split <;> rfl

theorem LampDriver.forEnabled_settings (d : LampDriver) (f : Fin 10 → Lamp → Lamp)
    (h : ∀ c l, ((f c l).enabled, (f c l).iMin, (f c l).iMax, (f c l).iOff) = (l.enabled, l.iMin, l.iMax, l.iOff)) :
    (d.forEnabled f).settings = d.settings := by
  unfold LampDriver.settings LampDriver.forEnabled
  simp only [Prod.mk.injEq, and_true]
  apply remake_eq_of
  intro i
  simp only [Fin.getElem_fin, remake_getElem]
  split
  · exact h _ _
  · rfl

theorem LampDriver.ambersDark_settings (d : LampDriver) (n : Time) : (d.ambersDark n).settings = d.settings :=
  d.forEnabled_settings _ fun c l => by split; exacts [l.darken_limits _ _, rfl]

theorem LampDriver.enterPart_settings (d : LampDriver) (x : FlashPart) (n : Time) :
    (d.enterPart x n).settings = d.settings := by
  unfold LampDriver.enterPart
  refine (d.forEnabled_settings (fun c l => if isAmber c then l
    else if x.lights c then l.light (some (later n d.flash.settle)) else l.darken n d.flash.settle) fun c l => ?_)
  split
  · rfl
  · split
    · exact l.light_limits _
    · exact l.darken_limits _ _

theorem LampDriver.command_settings (d : LampDriver) (c : LampCmd) (n : Time) : (d.command c n).settings = d.settings := by
  cases c with
  | dark => exact d.forEnabled_settings (fun _ l => l.darken n d.flash.settle) fun c l => l.darken_limits _ _
  | amber =>
    refine d.forEnabled_settings (fun c l =>
      if isAmber c then l.light (some (later n d.flash.settle)) else l.darken n d.flash.settle) fun c l => ?_
    split
    · exact l.light_limits _
    · exact l.darken_limits _ _
  | redStart => exact ((d.ambersDark n).enterPart_settings _ n).trans (d.ambersDark_settings n)
  | redContinue =>
    unfold LampDriver.command
    dsimp only
    split
    · exact d.ambersDark_settings n
    · exact ((d.ambersDark n).enterPart_settings _ n).trans (d.ambersDark_settings n)

theorem lampCommand_only (c : LampCmd) (s : State) : Only [.lamps] s (lampCommand c s) :=
  setLamps_only _ _ (s.lamps.command_settings c s.now)

theorem onChange_only (a b : Bool) (k : FaultKind) (o d : Nat) (s : State) : Only faultBlocks s (onChange a b k o d s) := by
  unfold onChange
  split
  · exact raise_only _ _ _ _
  · split
    · exact (endCondition_only _ _ _).mono (by decide)
    · exact Only.refl _ _

theorem sideChange_only (old : LampDriver) (x : Side) (s : State) : Only faultBlocks s (sideChange old x s) :=
  onChange_only _ _ _ _ _ _

theorem Lamp.proved_limits (l : Lamp) (m : Nat) :
    ((l.proved m).enabled, (l.proved m).iMin, (l.proved m).iMax, (l.proved m).iOff) = (l.enabled, l.iMin, l.iMax, l.iOff) := by
  unfold Lamp.proved; split <;> rfl

theorem Lamp.darkSampled_limits (l : Lamp) (m : Nat) :
    ((l.darkSampled m).enabled, (l.darkSampled m).iMin, (l.darkSampled m).iMax, (l.darkSampled m).iOff) =
      (l.enabled, l.iMin, l.iMax, l.iOff) := by
  unfold Lamp.darkSampled; split <;> (try split) <;> rfl

theorem litSample_only (c : Fin 10) (m : Nat) (s : State) : Only (.lamps :: faultBlocks) s (litSample c m s) := by
  have side := fun o x t => (sideChange_only o x t).mono (bs := .lamps :: faultBlocks) (by decide)
  have h1 := (setLamp_only s c (fun l => { l.proved m with litDue := l.nextProof c })
    fun l => l.proved_limits m).mono (bs := .lamps :: faultBlocks) (by decide)
  have h2 : ∀ (b : Bool) (t : State), Only (.lamps :: faultBlocks) t (if b then t else emit [.count cntLampProofFails] t) :=
    fun b t => by split; exacts [Only.refl _ _, (emit_only _ _).mono (by decide)]
  have h3 := fun a b k o d t => (onChange_only a b k o d t).mono (bs := .lamps :: faultBlocks) (by decide)
  unfold litSample
  dsimp only
  split
  · exact (h1.trans (h2 _ _)).trans (h3 _ _ _ _ _ _)
  · exact ((((h1.trans (h2 _ _)).trans (h3 _ _ _ _ _ _))).trans (side _ _ _)).trans (side _ _ _)

theorem darkSampleTaken_only (c : Fin 10) (m : Nat) (s : State) :
    Only (.lamps :: faultBlocks) s (darkSampleTaken c m s) := by
  unfold darkSampleTaken
  dsimp only
  refine Only.trans ?_ ((onChange_only _ _ _ _ _ _).mono (by decide))
  exact (setLamp_only s c (fun l => { l.darkSampled m with
    darkDue := l.darkDue.map fun t => later t Config.darkSampleMs }) fun l => l.darkSampled_limits m).mono (by decide)

theorem nextFlashPart_only (s : State) : Only [.lamps] s (nextFlashPart s) := by
  unfold nextFlashPart
  split
  · exact Only.refl _ _
  · exact setLamps_only _ _ (LampDriver.enterPart_settings _ _ _)

theorem nextStartUpHalf_only (s : State) : Only [.lamps] s (nextStartUpHalf s) := by
  unfold nextStartUpHalf
  split
  · exact Only.refl _ _
  · refine setLamps_only _ _ ?_
    unfold LampDriver.settings LampDriver.startUpHalf
    simp only [Prod.mk.injEq, and_true]
    exact remake_eq_of fun i => by simp

theorem endTest_only (n : Nat) (t : LampTest) (s : State) : Only [.lamps, .notices] s (endTest n t s) :=
  (setLamps_only s (fun d => { d with test := none }) rfl).seq (queueNotice_only _ _) (by decide) (by decide)

theorem testFrom_only (n : Nat) (t : LampTest) (s : State) : Only [.lamps, .notices] s (testFrom n t s) := by
  unfold testFrom
  split
  · exact endTest_only _ _ _
  · next c _ =>
    exact (setLamp_only s c (fun l => l.light none) fun l => l.light_limits none).seq
      (setLamps_only _ (fun d => { d with test := _ }) rfl) (by decide) (by decide)

theorem startTest_only (s : State) : Only [.lamps, .notices] s (startTest s) := testFrom_only _ _ _

theorem abortTest_only (s : State) : Only [.lamps, .notices] s (abortTest s) := by
  unfold abortTest
  split
  · exact Only.refl _ _
  · exact endTest_only _ _ _

theorem testSample_only (m : Nat) (s : State) : Only [.lamps] s (testSample m s) := by
  unfold testSample
  split
  · exact Only.refl _ _
  · exact setLamps_only s (fun d => { d with test := _ }) rfl

theorem testChannelEnd_only (s : State) : Only [.lamps, .notices] s (testChannelEnd s) := by
  unfold testChannelEnd
  split
  · exact Only.refl _ _
  · refine Only.trans ?_ (testFrom_only _ _ _)
    exact (setLamp_only s _ _ fun l => l.darken_limits _ _).mono (by decide)

/-! ### Barriers -/

/-- What of a barrier is configured. -/
def Barrier.settings (b : Barrier) : Bool × BarrierRole × Side × MotionLimits × MotionLimits :=
  (b.configured, b.role, b.side, b.lower, b.raise)

theorem Barrier.lowerFrom_settings (b : Barrier) (n : Time) : (b.lowerFrom n).settings = b.settings := by
  unfold Barrier.lowerFrom; split <;> rfl

theorem Barrier.released_settings (b : Barrier) (n : Time) : (b.released n).settings = b.settings := by
  unfold Barrier.released
  split
  · exact b.lowerFrom_settings n
  · split
    · rfl
    · exact b.lowerFrom_settings n
  · rfl

theorem Barrier.raised_settings (b : Barrier) (n : Time) : (b.raised n).settings = b.settings := by
  unfold Barrier.raised
  split
  · dsimp only; split <;> (try split) <;> rfl
  · rfl

theorem Barrier.settle_settings (b : Barrier) (n : Time) : (b.settle n).settings = b.settings := by
  unfold Barrier.settle; split <;> rfl

theorem Barrier.toFault_settings (b : Barrier) (n : Time) (d : Nat) : (b.toFault n d).settings = b.settings := by
  unfold Barrier.toFault
  exact Barrier.settle_settings (({ b with detail := d, settled := none }).enter .fault).still n

theorem Barrier.toTravel_settings (b : Barrier) (n : Time) : (b.toTravel n).settings = b.settings := by
  unfold Barrier.toTravel; split <;> rfl

theorem Barrier.judge_settings {b x : Barrier} {n : Time} (h : b.judge n = .keep x) : x.settings = b.settings := by
  unfold Barrier.judge at h
  split at h
  · cases h; rfl
  · cases h; exact b.settle_settings n
  · split at h
    · cases h
    · split at h <;> (try split at h) <;> (try split at h) <;> cases h <;>
        first | rfl | exact b.toTravel_settings n | exact b.settle_settings n

theorem setBarrier_only' (s : State) (b : Fin 4) (f : Barrier → Barrier)
    (h : (f s.barriers[b]).settings = s.barriers[b].settings) : Only [.barriers] s (s.setBarrier b f) :=
  setBarrier_only s b f h

theorem releaseBarrier_only (b : Fin 4) (s : State) : Only [.barriers] s (releaseBarrier b s) :=
  setBarrier_only' s b (fun x => x.released s.now) (Barrier.released_settings _ _)

theorem raiseBarrier_only (b : Fin 4) (s : State) :
    Only (.barriers :: .faults :: recordBlocks) s (raiseBarrier b s) := by
  unfold raiseBarrier
  dsimp only
  refine ((setBarrier_only' s b (fun x => x.raised s.now) (Barrier.raised_settings _ _)).mono (by decide)).trans ?_
  split
  · exact (endCondition_only _ _ _).mono (by decide)
  · exact Only.refl _ _

theorem toBarriers_only {bs : List Block} (p : Barrier → Bool) (f : Fin 4 → State → State)
    (h : ∀ b s, Only bs s (f b s)) (s : State) : Only bs s (toBarriers p f s) :=
  Only.foldl (fun s b => by split; exacts [h b s, Only.refl _ _]) _ _

/-! ### Sequencer -/

/-- What the Sequencer's transitions may change. -/
def seqBlocks : List Block := [.seq, .lamps, .barriers, .slots, .faults] ++ recordBlocks

theorem seqGo_only (x : SeqState) (c : SeqCause) (b : Bool) (n : Option Nat) (s : State) :
    Only (.seq :: recordBlocks) s (seqGo x c b n s) :=
  (setSeq_only s (fun q => { q with state := some x, entry := s.now }) rfl rfl rfl).seq (emit_only _ _) (by decide)
    (by decide)

theorem seqMove_only (x : SeqState) (c : SeqCause) (s : State) : Only (.seq :: recordBlocks) s (seqMove x c s) :=
  seqGo_only _ _ _ _ _

theorem enterOpen_only (s : State) : Only seqBlocks s (enterOpen s) := by
  have e := fun os t => (emit_only os t).mono (bs := seqBlocks) (by decide)
  have c := fun k o t => (endCondition_only k o t).mono (bs := seqBlocks) (by decide)
  have h1 := (setSeq_only s (fun q => { q with
    counted := false, longFlag := false, openMark := decide (q.tMinOpen = 0) }) rfl rfl rfl).mono (bs := seqBlocks)
    (by decide)
  have h2 := fun x b n t => (seqGo_only .roadOpen x b n t).mono (bs := seqBlocks) (by decide)
  have h3 := fun t => (lampCommand_only .dark t).mono (bs := seqBlocks) (by decide)
  unfold enterOpen
  dsimp only
  cases s.seq.counted
  · simp only [Bool.false_eq_true, if_false]
    split
    · exact ((h1.trans (h2 _ _ _ _)).trans (h3 _)).trans (c _ _ _)
    · exact (h1.trans (h2 _ _ _ _)).trans (h3 _)
  · simp only [if_true]
    split
    · exact (((h1.trans (h2 _ _ _ _)).trans (h3 _)).trans (e _ _)).trans (c _ _ _)
    · exact ((h1.trans (h2 _ _ _ _)).trans (h3 _)).trans (e _ _)

theorem leaveOpen_only (x : SeqState) (c : SeqCause) (l : LampCmd) (s : State) :
    Only (.seq :: .lamps :: recordBlocks) s (leaveOpen x c l s) := by
  unfold leaveOpen
  dsimp only
  refine Only.trans ?_ ((lampCommand_only _ _).mono (by decide))
  refine Only.trans ?_ ((abortTest_only _).mono (by decide))
  refine Only.trans ?_ ((seqGo_only _ _ _ _ _).mono (by decide))
  refine Only.trans ?_ ((emit_only _ _).mono (by decide))
  exact (setSeq_only s (fun q => { q with
    closureStart := s.now, counted := true, longBin := false, longFlag := false }) rfl rfl rfl).mono (by decide)

theorem testRaising_only (s : State) : Only seqBlocks s (testRaising s) :=
  Only.ite (enterOpen_only s) (Only.refl _ _)

theorem enterRaising_only (s : State) : Only seqBlocks s (enterRaising s) := by
  unfold enterRaising
  dsimp only
  refine Only.trans ?_ (testRaising_only _)
  refine Only.trans ?_ ((toBarriers_only _ _ raiseBarrier_only _).mono (by decide))
  refine Only.trans ?_ ((lampCommand_only _ _).mono (by decide))
  exact (seqMove_only _ _ _).mono (by decide)

theorem testClosed_only (s : State) : Only seqBlocks s (testClosed s) :=
  Only.ite (Only.ite ((guardCommit_only _ s).mono (by decide)) (enterRaising_only s)) (Only.refl _ _)

theorem enterClosed_only (s : State) : Only seqBlocks s (enterClosed s) := by
  unfold enterClosed
  dsimp only
  refine Only.trans ?_ (testClosed_only _)
  refine Only.trans ?_ ((toBarriers_only _ _ releaseBarrier_only _).mono (by decide))
  refine Only.trans ?_ ((lampCommand_only _ _).mono (by decide))
  exact (seqMove_only _ _ _).mono (by decide)

theorem testLowerExit_only (s : State) : Only seqBlocks s (testLowerExit s) :=
  Only.ite (enterClosed_only s) (Only.refl _ _)

theorem enterLowerExit_only (s : State) : Only seqBlocks s (enterLowerExit s) := by
  unfold enterLowerExit
  dsimp only
  refine Only.trans ?_ (testLowerExit_only _)
  refine Only.trans ?_ ((toBarriers_only _ _ releaseBarrier_only _).mono (by decide))
  refine Only.trans ?_ ((lampCommand_only _ _).mono (by decide))
  exact (seqMove_only _ _ _).mono (by decide)

theorem testLowerEntry_only (s : State) : Only seqBlocks s (testLowerEntry s) := by
  have h1 := (setSeq_only s (fun q => { q with exitMark := none }) rfl rfl rfl).mono (bs := seqBlocks) (by decide)
  unfold testLowerEntry
  refine Only.ite ?_ (Only.refl _ _)
  dsimp only
  split
  · exact h1.trans (enterLowerExit_only _)
  · exact h1.trans (enterClosed_only _)

theorem setExitMark_only (s : State) : Only [.seq] s (setExitMark s) :=
  setSeq_only s (fun q => { q with exitMark := some (later s.now q.tExitDelay) }) rfl rfl rfl

theorem enterLowerEntry_only (s : State) : Only seqBlocks s (enterLowerEntry s) := by
  unfold enterLowerEntry
  dsimp only
  refine Only.trans ?_ (testLowerEntry_only _)
  refine Only.trans ?_ ((setExitMark_only _).mono (by decide))
  refine Only.trans ?_ ((toBarriers_only _ _ releaseBarrier_only _).mono (by decide))
  refine Only.trans ?_ ((lampCommand_only _ _).mono (by decide))
  exact (seqMove_only _ _ _).mono (by decide)

theorem reclose_only (s : State) : Only seqBlocks s (reclose s) := by
  unfold reclose
  dsimp only
  refine Only.trans ?_ (testLowerEntry_only _)
  refine Only.trans ?_ ((setExitMark_only _).mono (by decide))
  refine Only.trans ?_ ((toBarriers_only _ _ releaseBarrier_only _).mono (by decide))
  refine Only.trans ?_ ((lampCommand_only _ _).mono (by decide))
  exact (seqMove_only _ _ _).mono (by decide)

theorem takeDemand_only (s : State) : Only seqBlocks s (takeDemand s) := by
  unfold takeDemand
  split
  · exact Only.ite ((leaveOpen_only _ _ _ _).mono (by decide)) (Only.refl _ _)
  · exact Only.ite (reclose_only _) (Only.refl _ _)
  · exact testClosed_only _
  · exact Only.refl _ _

theorem sweepCommits_only (i : Fin 10) (s : State) : Only (.slots :: recordBlocks) s (sweepCommits i s) :=
  Only.foldl (bs := .slots :: recordBlocks) (fun s k => Only.ite (testPrepared_only k s) (Only.refl _ s)) _ _

theorem carryOutRestore_only (i : Fin 10) (m : RestoreMode) (s : State) :
    Only ([.sections, .passages, .free] ++ seqBlocks) s (carryOutRestore i m s) := by
  have h1 := applyEffects_only [⟨i, s.sections[i], s.sections[i].restored m⟩] none s
    (by simpa [SectEffect.Keeps] using Sect.restored_settings _ m)
  unfold carryOutRestore
  dsimp only
  refine Only.trans ?_ ((endRecords_only _ _).mono (by decide))
  have h2 := (h1.mono (bs := [.sections, .passages, .free] ++ seqBlocks) (by decide)).trans
    ((endCondition_only .sectionDisturbed i.val _).mono (by decide))
  cases m
  · exact h2
  · exact h2.trans (((sweepCommits_only _ _).mono (by decide)).trans ((takeDemand_only _).mono (by decide)))

theorem restore_only (n m : Nat) (s : State) : Only ([.sections, .passages, .free] ++ seqBlocks) s (restore n m s).2 := by
  unfold restore
  split
  · split
    · split
      · exact carryOutRestore_only _ _ _
      · exact Only.refl _ _
    · exact Only.refl _ _
  · exact Only.refl _ _

theorem barrierChanged_only (s : State) : Only seqBlocks s (barrierChanged s) := by
  unfold barrierChanged
  split
  · exact testLowerEntry_only _
  · exact testLowerExit_only _
  · exact testClosed_only _
  · exact testRaising_only _
  · exact Only.refl _ _

theorem barrierFaultReport_only (s : State) : Only (.seq :: .lamps :: recordBlocks) s (barrierFaultReport s) := by
  unfold barrierFaultReport
  split
  · exact leaveOpen_only _ _ _ _
  · refine Only.trans ?_ ((lampCommand_only _ _).mono (by decide))
    exact (seqMove_only _ _ _).mono (by decide)
  · exact Only.refl _ _

theorem barrierFault_only (b : Fin 4) (d : Nat) (s : State) : Only (.free :: seqBlocks) s (barrierFault b d s) := by
  have r := fun t => (barrierFaultReport_only t).mono (bs := .free :: seqBlocks) (by decide)
  have td := fun t => (takeDemand_only t).mono (bs := .free :: seqBlocks) (by decide)
  have h1 := (setBarrier_only' s b (fun x => x.toFault s.now d) (Barrier.toFault_settings _ _ _)).mono
    (bs := .free :: seqBlocks) (by decide)
  have h3 := fun e t => (endThenRaise_only e .barrierFail b.val d t).mono (bs := .free :: seqBlocks) (by decide)
  have h4 := fun os t => (emit_only os t).mono (bs := .free :: seqBlocks) (by decide)
  have hf := fun t => (tookFree_only t).mono (bs := .free :: seqBlocks) (by decide)
  have h5 : ∀ t : State, Only (.free :: seqBlocks) t
      (if t.seq.state = some .roadOpen then
        barrierFaultReport (if t.order then takeDemand t.tookFree else t.tookFree)
      else barrierFaultReport t) :=
    fun t => Only.ite (((hf t).trans (Only.ite (td _) (Only.refl _ _))).trans (r _)) (r _)
  unfold barrierFault
  refine Only.trans ?_ ((barrierChanged_only _).mono (by decide))
  refine Only.trans ?_ (td _)
  refine Only.trans ?_ (h5 _)
  exact (h1.trans (h3 _ _)).trans (h4 [.count cntBarrierFaults] _)

theorem keepBarrier_only (b : Fin 4) (x : Barrier) (s : State) (h : x.settings = s.barriers[b].settings) :
    Only seqBlocks s (keepBarrier b x s) := by
  have h1 := (setBarrier_only' s b (fun _ => x) h).mono (bs := seqBlocks) (by decide)
  have h2 := fun t => (endCondition_only .barrierDisturbed b.val t).mono (bs := seqBlocks) (by decide)
  have h3 := h1.trans (Only.ite (c := (s.barriers[b].disturbed && !x.disturbed) = true) (h2 _) (Only.refl _ _))
  unfold keepBarrier
  exact Only.ite h3 (h3.trans (barrierChanged_only _))

theorem judgeBarrier_only (b : Fin 4) (s : State) : Only (.free :: seqBlocks) s (judgeBarrier b s) := by
  unfold judgeBarrier
  split
  · rename_i x hx
    exact (keepBarrier_only b x s (Barrier.judge_settings hx)).mono (by decide)
  · exact barrierFault_only _ _ _

theorem takeLimit_only (b : Fin 4) (s : State) : Only (.free :: seqBlocks) s (takeLimit b s) := by
  unfold takeLimit
  split
  · exact barrierFault_only _ _ _
  · exact judgeBarrier_only b s

theorem holdChanged_only (s : State) : Only seqBlocks s (holdChanged s) :=
  (emit_only _ _).seq (takeDemand_only _) (by decide) (by decide)

theorem setHold_only (b v : Bool) (s : State) : Only (.holds :: seqBlocks) s (setHold b v s) := by
  have h1 : Only [.holds] s (s.setSeq fun q => { q with holdSignaller := v }) := by
    intro b hb; cases b <;> simp_all [Same, State.configuration, Sequencer.motion]
  have h2 : Only [.holds] s (s.setSeq fun q => { q with holdLocal := v }) := by
    intro b hb; cases b <;> simp_all [Same, State.configuration, Sequencer.motion]
  unfold setHold
  split
  · exact Only.ite (Only.refl _ _) (h1.seq (holdChanged_only _) (by decide) (by decide))
  · exact Only.ite (Only.refl _ _) (h2.seq (holdChanged_only _) (by decide) (by decide))

theorem hold_only (b : Bool) (v : Nat) (s : State) : Only (.holds :: seqBlocks) s (hold b v s).2 := by
  unfold hold
  split
  · exact setHold_only _ _ _
  · exact setHold_only _ _ _
  · exact Only.refl _ _

/-! ### Point Monitor -/

/-- What an axle or a skew event may change. -/
def axleBlocks : List Block := [.sections, .passages, .free] ++ seqBlocks

theorem arrival_only (k : Fin 4) (p : Fin 12) (s : State) : Only (.free :: seqBlocks) s (arrival k p s) := by
  have l := fun k t => (lateClosureTest_only k t).mono (bs := .free :: seqBlocks) (by decide)
  have td := fun t => (takeDemand_only t).mono (bs := .free :: seqBlocks) (by decide)
  have h1 := (arriveRecord_only k p s).mono (bs := .free :: seqBlocks) (by decide)
  have hf := fun t => (tookFree_only t).mono (bs := .free :: seqBlocks) (by decide)
  unfold arrival
  dsimp only
  split
  · split
    · exact ((h1.trans (hf _)).trans (td _)).trans (l _ _)
    · exact (h1.trans (hf _)).trans (l _ _)
  · exact h1.trans (l _ _)

theorem takeAxle_only (p : Fin 12) (d : Dir) (n : Option Nat) (s : State) :
    Only (.free :: seqBlocks) s (takeAxle p d n s) := by
  have c := fun k t => (createRecord_only k p t).mono (bs := .free :: seqBlocks) (by decide)
  have pr := fun k t => (predict_only k p n t).mono (bs := .free :: seqBlocks) (by decide)
  unfold takeAxle
  split
  · exact Only.refl _ _
  · dsimp only
    split
    · split
      · exact (c _ _).trans (arrival_only _ _ _)
      · split
        · exact arrival_only _ _ _
        · exact (islandEntry_only _ _).mono (by decide)
    · split
      · split
        · exact ((c _ _).trans (pr _ _)).trans ((testPrepared_only _ _).mono (by decide))
        · exact Only.ite (pr _ _) (Only.refl _ _)
      · exact Only.refl _ _

theorem axleEvent_only (p : Fin 12) (d : Dir) (n : Option Nat) (s : State) : Only axleBlocks s (axleEvent p d n s) := by
  unfold axleEvent
  dsimp only
  refine Only.trans ?_ ((endRecords_only _ _).mono (by decide))
  refine Only.trans ?_ ((takeAxle_only _ _ _ _).mono (by decide))
  refine Only.trans ?_ ((applyEffects_only _ _ _ (axleEffects_keep _ _ _)).mono (by decide))
  exact (emit_only _ _).mono (by decide)

theorem skewEvent_only (p : Fin 12) (s : State) : Only axleBlocks s (skewEvent p s) := by
  unfold skewEvent
  dsimp only
  refine Only.trans ?_ ((endRecords_only _ _).mono (by decide))
  refine Only.trans ?_ ((applyEffects_only _ _ _ (skewEffects_keep _ _)).mono (by decide))
  exact (emit_only _ _).mono (by decide)

theorem pointEvent_only (p : Fin 12) (e : Option PointEvent) (s : State) : Only axleBlocks s (pointEvent p e s) := by
  unfold pointEvent
  split
  · exact Only.refl _ _
  · exact axleEvent_only _ _ _ _
  · exact skewEvent_only _ _

/-- What of a point is configured. -/
def Point.settings (x : Point) : Option Track × Int × Nat := (x.track, x.position, x.spacing)

theorem Point.waitSkew_settings (x : Point) (t : Tick) : (x.waitSkew t).point.settings = x.settings := by
  unfold Point.waitSkew; split <;> rfl

theorem Point.enterSkew_settings (x : Point) (t : Tick) : (x.enterSkew t).point.settings = x.settings := by
  unfold Point.enterSkew
  dsimp only
  split <;> exact Point.waitSkew_settings _ t

theorem Point.changeA_settings (x : Point) (t : Tick) : (x.changeA t).point.settings = x.settings := by
  unfold Point.changeA; split <;> rfl

theorem Point.changeB_settings (x : Point) (t : Tick) : (x.changeB t).point.settings = x.settings := by
  unfold Point.changeB; split <;> rfl

theorem Point.evaluate_settings (x : Point) (a b : Bool) (t : Tick) : (x.evaluate a b t).point.settings = x.settings := by
  unfold Point.evaluate
  split
  · exact x.waitSkew_settings t
  · split
    · rfl
    · exact x.changeA_settings t
    · exact x.changeB_settings t
    · exact x.enterSkew_settings t

theorem Point.quietUpdate_settings (x : Point) (n : Time) : (x.quietUpdate n).settings = x.settings := by
  unfold Point.quietUpdate; split <;> (try split) <;> rfl

theorem Point.expire_settings (x : Point) : x.expire.settings = x.settings := by
  unfold Point.expire; dsimp only; split <;> split <;> rfl

theorem setPoint_only' (s : State) (p : Fin 12) (y : Point) (h : y.settings = s.points[p].settings) :
    Only [.points] s (s.setPoint p fun _ => y) := by
  intro b hb
  cases b <;> simp_all [Same, State.configuration]
  exact remake_upd _ _ _ _ (by simpa [Point.settings] using h)

theorem pointTick_only (p : Fin 12) (a b e : Bool) (s : State) : Only (.points :: axleBlocks) s (pointTick p a b e s) := by
  have h1 : ∀ y, y.settings = s.points[p].settings →
      Only (.points :: axleBlocks) s (s.setPoint p fun _ => y) := fun y h =>
    (setPoint_only' s p y h).mono (by decide)
  have h2 : ∀ (c : Prop) [Decidable c] (k : FaultKind) (o d : Nat) (t : State),
      Only (.points :: axleBlocks) t (if c then raise k o d t else t) :=
    fun c _ k o d t => Only.ite ((raise_only _ _ _ _).mono (by decide)) (Only.refl _ _)
  unfold pointTick
  dsimp only
  refine Only.trans ?_ ((pointEvent_only _ _ _).mono (by decide))
  refine Only.trans (h1 _ ?_) (h2 _ _ _ _ _)
  rw [Point.quietUpdate_settings, Point.evaluate_settings]
  split
  · exact Point.expire_settings _
  · rfl

theorem headTick_only (p : Fin 12) (a b : Window) (s : State) : Only (.points :: axleBlocks) s (headTick p a b s) := by
  unfold headTick
  dsimp only
  refine Only.trans ?_ (pointTick_only _ _ _ _ _)
  exact (setPoint_only s p (fun x => x.accept a b) fun x => rfl).mono (by decide)

theorem setHeads_only (p : Fin 12) (a b : Bool) (s : State) : Only [.pins] s (setHeads p a b s) := setPins_only _ _

theorem endQuiet_only (p : Fin 12) (s : State) : Only (.points :: .faults :: recordBlocks) s (endQuiet p s) :=
  (setPoint_only s p (fun x => { x with headFault := false, quiet := none }) fun _ => rfl).seq
    (endCondition_only _ _ _) (by decide) (by decide)

/-! ### Report Scheduler -/

theorem fillConfirm_only (k : Byte) (r : Result) (s : State) : Only [.reports] s (fillConfirm k r s) := setReports_only _ _

theorem sigLog_only (src : BitVec 6) (k : Byte) (a : Addressing) (r : Option Result) (p : List Byte) (s : State) :
    Only recordBlocks s (sigLog src k a r p s) := emit_only _ _

/-- What a signaller's command may change. -/
def commandBlocks : List Block := .holds :: axleBlocks

theorem sigExecute_only (k : Byte) (p : List Byte) (s : State) : Only commandBlocks s (sigExecute k p s).2 := by
  have r := fun t => Only.refl commandBlocks t
  unfold sigExecute
  split
  · split; exacts [(statusDue_only s).mono (by decide), r _]
  · split
    · split; exacts [(acknowledge_only _ _ s).mono (by decide), r _]
    · split
      · split; exacts [(restore_only _ _ s).mono (by decide), r _]
      · split
        · split; exacts [(hold_only _ _ s).mono (by decide), r _]
        · split
          · split; exacts [(release_only s).mono (by decide), r _]
          · exact r _

theorem takeCommand_only (src : BitVec 6) (k : Byte) (a : Addressing) (p : List Byte) (s : State) :
    Only commandBlocks s (takeCommand src k a p s) := by
  have l := fun r t => (sigLog_only src k a r p t).mono (bs := commandBlocks) (by decide)
  unfold takeCommand
  split
  · dsimp only
    split
    · exact ((sigExecute_only k p s).trans (l _ _)).trans ((fillConfirm_only _ _ _).mono (by decide))
    · exact (sigExecute_only k p s).trans (l _ _)
  · exact l _ _

theorem freeze_only (c : Content) (s : State) : Only [.faults, .reports] s (freeze c s) := by
  unfold freeze
  split
  · exact (setFaults_only _ _).mono (by decide)
  · split <;> exact (setReports_only _ _).mono (by decide)

theorem writeMarks_only (f : TxFrame) (s : State) : Only [.faults, .reports] s (writeMarks f s) := by
  unfold writeMarks
  split
  · exact (setFaults_only _ _).mono (by decide)
  · split <;> exact (setReports_only _ _).mono (by decide)

theorem notSent_only (s : State) : Only [.faults, .reports] s (notSent s) :=
  (setFaults_only _ _).seq (setReports_only _ _) (by decide) (by decide)

theorem linkUp_only (s : State) : Only [.faults, .reports] s (linkUp s) :=
  ((setFaults_only _ _).seq (statusDue_only _) (by decide) (by decide)).trans ((setReports_only _ _).mono (by decide))

theorem linkGone_only (s : State) : Only [.faults, .reports] s (linkGone s) :=
  (setFaults_only _ _).seq (setReports_only _ _) (by decide) (by decide)

/-! ### Line Controller -/

theorem lowerWaits_only (s : State) : Only [.line] s (lowerWaits s) := setLine_only _ _ rfl rfl

theorem beginWait_only (s : State) : Only [.line] s (beginWait s) :=
  Only.ite (setLine_only s (fun l => { l with
    wait := s.highestContent, waitTest := l.waitTest || s.highestContent.isSome }) rfl rfl) (Only.refl _ _)

theorem lineSettle_only (s : State) : Only [.line] s (lineSettle s) :=
  Only.ite ((lowerWaits_only _).trans (beginWait_only _)) (Only.refl _ _)

theorem react_only (s : State) : Only reactBlocks s (react s) :=
  (takeDemand_only s).seq (lineSettle_only _) (by decide) (by decide)

theorem startFrame_only (s : State) : Only [.line] s (startFrame s) := by
  unfold startFrame
  split
  · exact Only.refl _ _
  · split
    · refine ((setLine_only s (fun l => { l with wait := none }) rfl rfl).trans (lineSettle_only _)).mono (by decide)
    · exact setLine_only s (fun l => { l with wait := none, inFlight := _ }) rfl rfl

theorem startBit_only (c : LineClass) (s : State) : Only [.line, .faults, .reports] s (startBit c s) := by
  unfold startBit
  split
  · exact ((setLine_only s (fun l => { l with inFlight := none }) rfl rfl).trans (lineSettle_only _)).mono (by decide)
  · next k _ =>
      exact (setLine_only s (fun l => { l with inFlight := some { l.frame c k with begun := true } }) rfl rfl).seq
        (freeze_only _ _) (by decide) (by decide)

theorem setRaised_settings (l : LineController) (c : LineClass) (v : Bool) :
    (l.setRaised c v).settings = l.settings ∧ (l.setRaised c v).supervision = l.supervision := by
  cases c <;> exact ⟨rfl, rfl⟩

theorem frameSent_only (s : State) : Only ([.line, .faults] ++ recordBlocks) s (frameSent s) := by
  unfold frameSent
  split
  · exact Only.refl _ _
  · dsimp only
    refine Only.trans ?_ ((lineSettle_only _).mono (by decide))
    refine Only.trans ?_ ((setLine_only _ _ ?_ ?_).mono (by decide))
    · exact ((emit_only _ _).mono (by decide)).trans ((writeMarks_only _ _).mono (by decide))
    · exact (setRaised_settings _ _ _).1
    · exact (setRaised_settings _ _ _).2

theorem giveUp_only (r : RxState) (h : List Bool) (q : Nat) (s : State) :
    Only [.line, .faults, .reports] s (giveUp r h q s) :=
  (setLine_only s (fun l => { l with inFlight := none, rx := r, assembly := [], headBits := h, quiet := q }) rfl rfl).seq
    (notSent_only _) (by decide) (by decide)

theorem sampledNow_only (s : State) : Only [.line] s (s.setLine LineController.sampledNow) :=
  setLine_only s LineController.sampledNow rfl rfl

theorem dropUnbegun_only (s : State) : Only [.line] s (s.setLine LineController.dropUnbegun) :=
  setLine_only s LineController.dropUnbegun rfl rfl

theorem loseArbitration_only (s : State) : Only ([.line, .faults] ++ recordBlocks) s (loseArbitration s) := by
  have e := fun os t => (emit_only os t).mono (bs := [.line, .faults] ++ recordBlocks) (by decide)
  have g := fun r h q t => (giveUp_only r h q t).mono (bs := [.line, .faults] ++ recordBlocks) (by decide)
  have l := fun t => (lineSettle_only t).mono (bs := [.line, .faults] ++ recordBlocks) (by decide)
  unfold loseArbitration
  split
  · exact Only.refl _ _
  · dsimp only
    have c := (sampledNow_only s).mono (bs := [.line, .faults] ++ recordBlocks) (by decide)
    split
    · exact (((c.trans (e _ _)).trans (e _ _)).trans (g _ _ _ _)).trans (l _)
    · exact ((c.trans (e _ _)).trans (g _ _ _ _)).trans (l _)

theorem collide_only (s : State) : Only ([.line, .faults] ++ recordBlocks) s (collide s) := by
  unfold collide
  split
  · exact Only.refl _ _
  · refine Only.trans ?_ ((lineSettle_only _).mono (by decide))
    refine Only.trans ?_ ((giveUp_only _ _ _ _).mono (by decide))
    exact ((sampledNow_only s).mono (by decide)).trans ((emit_only _ _).mono (by decide))

theorem abandon_only (s : State) : Only [.line, .faults, .reports] s (abandon s) := by
  unfold abandon
  split
  · exact Only.refl _ _
  · exact Only.ite (giveUp_only _ _ _ _) ((dropUnbegun_only _).mono (by decide))

theorem activeEdges_only (p q : Prop) [Decidable p] [Decidable q] (s : State) :
    Only [.line, .faults, .reports] s
      (if q then linkUp (if p then linkGone (abandon s) else s) else (if p then linkGone (abandon s) else s)) := by
  have g := (abandon_only s).trans ((linkGone_only _).mono (bs := [.line, .faults, .reports]) (by decide))
  have g := Only.ite (c := p) g (Only.refl _ s)
  exact Only.ite (g.trans ((linkUp_only _).mono (by decide))) g

theorem linkEdges_only (o n : LinkState) (s : State) : Only [.line, .faults, .reports] s (linkEdges o n s) := by
  exact activeEdges_only (o = .active) (n = .active) s

/-- What a change of link state may change. -/
def linkBlocks : List Block := [.link, .line, .faults] ++ recordBlocks

theorem linkGo_only (n : LinkState) (c : LinkCause) (s : State) : Only linkBlocks s (linkGo n c s) := by
  unfold linkGo
  dsimp only
  refine Only.trans ?_ ((linkEdges_only _ _ _).mono (by decide))
  refine Only.trans ?_ ((emit_only _ _).mono (by decide))
  exact (setLine_only_link s (fun l => { l.waitsToBase with link := n, wait := none }) rfl).mono (by decide)

theorem takeBeacon_only (s : State) : Only linkBlocks s (takeBeacon s) := by
  have g := fun n c t => linkGo_only n c t
  have l := fun t f h => (setLine_only_link t f h).mono (bs := linkBlocks) (by decide)
  unfold takeBeacon
  split
  · exact (g _ _ _).trans (l _ (fun l => { l with firstBeacon := some s.now }) rfl)
  · exact ((g _ _ _).trans (l _ (fun l => { l with firstBeacon := some s.now }) rfl)).trans
      ((endCondition_only _ _ _).mono (by decide))
  · split
    · exact l _ (fun l => { l with firstBeacon := some s.now }) rfl
    · exact (g _ _ _).trans (l _ (fun l => { l with lastBeacon := some s.now }) rfl)
  · exact l _ (fun l => { l with lastBeacon := some s.now }) rfl

theorem loseLink_only (s : State) : Only (.free :: linkBlocks) s (loseLink s) :=
  (linkGo_only _ _ _).seq (raise_only _ _ _ _) (by decide) (by decide)

/-- What a frame received from the line may change, the Sequencer's reaction apart. -/
def frameBlocks : List Block := [.link, .line] ++ commandBlocks

theorem addressedFrame_only (h : LineHead) (k : Byte) (a : Addressing) (p : List Byte) (s : State) :
    Only frameBlocks s (addressedFrame h k a p s) := by
  have e := fun os t => (emit_only os t).mono (bs := frameBlocks) (by decide)
  unfold addressedFrame
  dsimp only
  split
  · split
    · exact (e _ _).trans ((takeBeacon_only _).mono (by decide))
    · exact e _ _
  · split
    · exact (e _ _).trans ((takeCommand_only _ _ _ _ _).mono (by decide))
    · exact e _ _

theorem completeFrame_only (h : LineHead) (k : Byte) (p : List Byte) (s : State) :
    Only frameBlocks s (completeFrame h k p s) := by
  have w := (setLine_only s LineController.waitsToBase rfl rfl).mono (bs := frameBlocks) (by decide)
  unfold completeFrame
  split
  · exact Only.refl _ _
  · dsimp only
    split
    · exact w
    · exact w.trans (addressedFrame_only _ _ _ _ _)

theorem badFrame_only (r : RxState) (q : Nat) (s : State) : Only [.line, .counters, .notices] s (badFrame r q s) :=
  (setLine_only s (fun l => { l with rx := r, assembly := [], headBits := [], quiet := q }) rfl rfl).seq
    (bump_only _ _) (by decide) (by decide)

theorem takeLine_only (r : RxState) (a : List Byte) (s : State) : Only [.line] s (takeLine r a s) :=
  setLine_only s (fun l => l.dropUnbegun.lineTaken r a) rfl rfl

theorem takeChar_only (s : State) (c : Byte) : Only frameBlocks s (takeChar s c) := by
  have t := fun r a => (takeLine_only r a s).mono (bs := frameBlocks) (by decide)
  have b := fun r q t => (badFrame_only r q t).mono (bs := frameBlocks) (by decide)
  unfold takeChar
  split
  · dsimp only
    split
    · exact t _ _
    · exact (t _ _).trans (b _ _ _)
    · exact (t _ _).trans (b _ _ _)
    · exact ((t _ _).trans (completeFrame_only _ _ _ _)).trans ((react_only _).mono (by decide))
  · exact Only.ite ((setLine_only s (fun l => { l with quiet := quietAfterChar c }) rfl rfl).mono (by decide))
      (Only.refl _ _)

theorem takeChars_only (cs : List Byte) (s : State) : Only frameBlocks s (takeChars cs s) := Only.foldl takeChar_only _ _

theorem receiveFrame_only (h : LineHead) (k : Byte) (p : List Byte) (s : State) :
    Only frameBlocks s (receiveFrame h k p s) := by
  have r := fun t => (react_only t).mono (bs := frameBlocks) (by decide)
  have l := (takeLine_only .idle [] s).mono (bs := frameBlocks) (by decide)
  unfold receiveFrame
  refine Only.ite (Only.refl _ _) (Only.ite ?_ (Only.ite ?_ (Only.refl _ _)))
  · exact (l.trans (completeFrame_only _ _ _ _)).trans (r _)
  · exact (takeChars_only _ _).trans (r _)

theorem framingError_only (s : State) : Only [.line, .faults, .reports, .counters, .notices] s (framingError s) :=
  Only.ite (((takeLine_only .skipping [] s).mono (by decide)).trans ((badFrame_only _ _ _).mono (by decide)))
    (Only.ite ((setLine_only s (fun l => { l with quiet := 0 }) rfl rfl).mono (by decide)) (Only.refl _ _))

theorem gapAbort_only (s : State) : Only [.line, .counters, .notices] s (gapAbort s) :=
  Only.ite (badFrame_only _ _ _) (Only.refl _ _)

end Sys2Proof.Machine
end

