-- ==== Sys2Proof/Laws/Values.lean ====
section
/-! SUPPORT. Value lemmas of the small operations: byte order, two's complement, the exact square root of R49, the clock's
comparisons, a frame whose start bit has not begun. -/

namespace Sys2Proof.Machine

/-! ### Bytes (ch. 12.1, R207) -/

theorem byte_toNat (n : Nat) : (byte n).toNat = n % 256 := by simp [byte]

theorem rd16_be16 (n : Nat) (h : n < 65536) : rd16 (byte (n / 256)) (byte n) = n := by
  simp only [rd16, byte_toNat]; omega

theorem rd32_be32 (n : Nat) (h : n < 4294967296) :
    rd32 (byte (n / 16777216)) (byte (n / 65536)) (byte (n / 256)) (byte n) = n := by
  simp only [rd32, byte_toNat]; omega

theorem be16_length (n : Nat) : (be16 n).length = 2 := rfl
theorem be32_length (n : Nat) : (be32 n).length = 4 := rfl

theorem signed32_ofInt (x : Int) (h : -2147483648 ≤ x) (h' : x < 2147483648) :
    signed32 (BitVec.ofInt 32 x).toNat = x := by
  simp only [signed32, BitVec.toNat_ofInt]
  split <;> omega

theorem pad8_length (l : List Byte) : (pad8 l).length = 8 := by
  simp [pad8]

theorem crcBytes_length (l : List Byte) : (crcBytes l).length = 2 := rfl

/-! ### The square root (R49) -/

theorem sqrtDigits_spec (n k r : Nat) (h : r * r ≤ n) (h' : n < (r + 2 ^ k) * (r + 2 ^ k)) :
    sqrtDigits n k r * sqrtDigits n k r ≤ n ∧ n < (sqrtDigits n k r + 1) * (sqrtDigits n k r + 1) := by
  induction k generalizing r with
  | zero => exact ⟨h, by simpa [sqrtDigits] using h'⟩
  | succ k ih =>
    unfold sqrtDigits sqrtBit
    split
    · next hb => exact ih _ hb (by rw [Nat.add_assoc, ← Nat.two_mul, ← Nat.pow_succ']; exact h')
    · next hb => exact ih _ h (by omega)

/-- The square root is the whole one, exact for every number. -/
theorem isqrt_spec (n : Nat) : isqrt n * isqrt n ≤ n ∧ n < (isqrt n + 1) * (isqrt n + 1) := by
  refine sqrtDigits_spec n _ 0 (by simp) ?_
  have h : n < 2 ^ (Nat.log2 n + 1) := Nat.lt_log2_self
  have h2 : 2 ^ (Nat.log2 n + 1) ≤ 2 ^ ((Nat.log2 n / 2 + 1) + (Nat.log2 n / 2 + 1)) :=
    Nat.pow_le_pow_right (by decide) (by omega)
  rw [Nat.zero_add, ← Nat.pow_add]
  exact lt_of_lt_of_le h h2

theorem le_isqrt {m n : Nat} (h : m * m ≤ n) : m ≤ isqrt n := by
  have := (isqrt_spec n).2
  by_contra hc
  have : (isqrt n + 1) * (isqrt n + 1) ≤ m * m := Nat.mul_le_mul (by omega) (by omega)
  omega

/-! ### The clock (introduction, 4.2) -/

theorem elapsed_self (t : Time) : elapsed t t = 0 := by simp [elapsed]

theorem atOrBefore_self (t : Time) : atOrBefore t t = true := by simp [atOrBefore, elapsed_self]

/-! ### A frame whose start bit has not begun (R152) -/

theorem dropUnbegun_of_none {l : LineController} (h : l.inFlight = none) : l.dropUnbegun = l := by
  cases l; simp_all [LineController.dropUnbegun, Option.filter]

theorem dropUnbegun_of_begun {l : LineController} {f : TxFrame} (h : l.inFlight = some f) (b : f.begun = true) :
    l.dropUnbegun = l := by cases l; simp_all [LineController.dropUnbegun, Option.filter]

theorem dropUnbegun_of_unbegun {l : LineController} {f : TxFrame} (h : l.inFlight = some f) (b : f.begun = false) :
    l.dropUnbegun = { l with inFlight := none } := by
  simp [LineController.dropUnbegun, h, Option.filter, b]

/-- The line's tick in which no asked-for frame begins is the bit clock alone. -/
theorem lineTick_of_not_begins {rate : Nat} {s : State}
    (h : ∀ f, s.line.inFlight = some f → f.begun = false → s.line.bitBegins rate = false) :
    lineTick rate s = s.setLine fun l => l.tick rate := by
  unfold lineTick
  split
  · next f e => cases b : f.begun <;> simp [h f e, b]
  · rfl

/-- The line's tick in which an asked-for frame begins. -/
theorem lineTick_of_begins {rate : Nat} {s : State} {f : TxFrame} (h : s.line.inFlight = some f) (b : f.begun = false)
    (n : s.line.bitBegins rate = true) :
    lineTick rate s = startBit f.cls (s.setLine fun l => l.tick rate) := by simp [lineTick, h, b, n]

end Sys2Proof.Machine
end

