-- ==== Sys2Proof/Tests/Slice0.lean ====
section
/-! SUPPORT. The model's own tests, each one step or one operation on a small state, with the manual's worked examples as
the source of every expected value that a comment names; the smoke test of `WellFormed`; and one witness for the hypotheses
of each statement of `Certificates/Slice0/Obligations.lean`. -/

namespace Sys2Proof.Tests

open Sys2Proof Sys2Proof.Machine

set_option Elab.async false

/-! ### Small states -/

/-- The state a command leads to. -/
def after (c : Instr) (s : State) : State :=
  match exec c s with
  | .next t => t
  | .fault _ => s
  | .refused _ => s

/-- The point of the example track of chapter 2 at a position. -/
def pointAt (x : Int) : Point := { Point.cold with track := some .one, position := x, inService := true }

/-- A section of Track 1. -/
def sectionOf (a b : Fin 12) (r : SectionRole) (st : SectionState) (n : Nat) : Sect :=
  { track := some .one, aEnd := a, bEnd := b, role := r, state := some st, count := n, sweep := false }

/-- The points of the worked example of chapter 2. -/
def examplePoints : Vector Point 12 :=
  Vector.ofFn fun p => ([-1800000, -1200000, -40000, 40000, 1500000].map pointAt).getD p.val Point.cold

/-- The sections of the worked example of chapter 2, all CLEAR. -/
def exampleSections : Vector Sect 10 :=
  Vector.ofFn fun i =>
    [sectionOf 0 1 .approach .clear 0, sectionOf 1 2 .approach .clear 0, sectionOf 2 3 .island .clear 0,
     sectionOf 3 4 .approach .clear 0].getD i.val Sect.cold

/-- A configured barrier, held up, with the limits of section 6.10. -/
def heldUp (r : BarrierRole) : Barrier :=
  { Barrier.cold with
    configured := true, role := r, lower := ⟨2000, 9000, 10000⟩, raise := ⟨2000, 10000, 12000⟩,
    state := some .heldUp, holdOut := true, up := Filter.full true }

/-- An enabled lamp with the limits of section 5.11. -/
def lampOn (lit : Bool) : Lamp := { Lamp.cold lit with enabled := true, iMin := 300, iMax := 1100, iOff := 50 }

/-- RUN with the road open, no demand, the link ACTIVE and own address 17. -/
def run : State :=
  { State.reset with
    part := .run, now := 120000, points := examplePoints, sections := exampleSections
    seq := { Sequencer.cold with state := some .roadOpen, openMark := true, entry := 100000 }
    lamps := { LampDriver.cold with lamps := Vector.replicate 10 (lampOn false), startUp := none }
    barriers := #v[heldUp .entry, heldUp .entry, heldUp .exit, Barrier.cold]
    faults := { FaultManager.cold with mode := some .auto }
    supply := ⟨Filter.full true, Filter.full true⟩
    line := { LineController.cold with
      own := some 17, groups := #v[some 50, none, none, none], link := .active, rx := .idle, lastBeacon := some 119000 }
    pins := { Pins.low with mains := true, batt := true } }

/-- The same with the Sequencer in another state. -/
def inState (x : SeqState) : State := { run with seq := { run.seq with state := some x } }

/-- The same with a barrier changed. -/
def withBarrier (f : Barrier → Barrier) (s : State) : State := s.setBarrier 0 f

/-- The same with a record in slot 0. -/
def withRecord (r : TrainRecord) (s : State) : State := s.setRecord 0 (some r)

/-- An uncommitted record with S at a time. -/
def waiting (w : Time) : TrainRecord :=
  { TrainRecord.fresh 110000 with arrivalA := some (w + 30000), warningS := some w, startTimer := some w }

/-- A committed record. -/
def closed (t : Time) : TrainRecord :=
  { TrainRecord.fresh 110000 with committed := true, commitTime := some t, commitCause := some .timer }

/-- A fault record in a slot. -/
def withFault (i : Fin 32) (k : FaultKind) (o : Nat) (st : FaultState) (s : State) : State :=
  s.setFaults fun f => { f with
    table := upd f.table i fun _ => ⟨some ⟨k, o, k.cls, st, 0, 1, 100000, 100000, none, none⟩, false, none, false⟩ }

/-- The link not ACTIVE, so that the host may acknowledge and release. -/
def linkDown (s : State) : State := s.setLine fun l => { l with link := .down }

/-- A reply waits. -/
def replyWaits (s : State) : State := s.setHost fun h => { h with reply := some ⟨0x81, 1, [0], false⟩ }

/-- HEAD and DEST of a frame from the signal box to the part. -/
def toPart : LineHead := ⟨0, 0, 17⟩

/-- Both heads' windows full of one value each. -/
def heads (a b : Bool) (p : Fin 12) : Instr := .headChange p (Window.fill a) (Window.fill b)

/-! ### Well-formed commands: an ill-formed term for each check -/

theorem test_wf_payload : (Instr.identify 0 (List.replicate 249 0)).wellFormed = false := by decide +kernel
theorem test_wf_payload_ok : (Instr.identify 0 (List.replicate 248 0)).wellFormed = true := by decide +kernel
theorem test_wf_discarded : (Instr.hostFrameDiscarded [] false).wellFormed = false := by decide +kernel
theorem test_wf_unknown_kind : (Instr.hostUnknownKind 0x20 0 []).wellFormed = false := by decide +kernel
theorem test_wf_restart_cold : (Instr.restartCold 0 [1]).wellFormed = false := by decide +kernel
theorem test_wf_restart_warm : (Instr.restartWarm 0 [0]).wellFormed = false := by decide +kernel
theorem test_wf_line_payload : (Instr.beacon toPart (List.replicate 25 0)).wellFormed = false := by decide +kernel
theorem test_wf_poll_source : (Instr.poll ⟨0, 3, 17⟩ []).wellFormed = false := by decide +kernel
theorem test_wf_command_kind : (Instr.sigCmdUnknownKind toPart 0x03 []).wellFormed = false := by decide +kernel
theorem test_wf_refused_source : (Instr.sigCmdRefusedSource toPart 0x03 []).wellFormed = false := by decide +kernel
theorem test_wf_refused_beacon : (Instr.sigCmdRefusedSource ⟨0, 3, 17⟩ 0x01 []).wellFormed = false := by decide +kernel
theorem test_wf_line_bad : (Instr.lineFrameBad [] false).wellFormed = false := by decide +kernel
theorem test_wf_not_active : (Instr.addressedFrameLinkNotActive toPart 0x01 []).wellFormed = false := by decide +kernel

/-! ### Resets and the host port -/

theorem test_coldReset : (after (.coldReset 1 2) run).lrate = 1 ∧ (after (.coldReset 1 2) run).part = .config := by decide
theorem test_hostReady : (after (.hostReady true) run).pins.hostReady = true := by decide

/-- R206: the check of "123456789" is 29B1h. -/
theorem test_crc : crc16 [0x31, 0x32, 0x33, 0x34, 0x35, 0x36, 0x37, 0x38, 0x39] = 0x29B1 := by decide +kernel

/-- R191, R195: the bytes of READ_TIME are a frame, and its reply is placed. -/
theorem test_bytes_make_a_frame :
    (after (.hostGap (hostFrame 0x02 7 [])) run).host.reply = some ⟨0x82, 7, [0, 0, 1, 0xD4, 0xC0, 1], false⟩ := by
  decide +kernel

theorem test_hostFrameDiscarded : (after (.hostFrameDiscarded [0x5A, 0x01] false) run).counters[(24 : Fin 32)].value = 1 := by
  decide +kernel
theorem test_hostGap : (after (.hostGap [0x5A]) run).counters[(24 : Fin 32)].value = 1 := by decide +kernel
theorem test_hostGap_nothing : (after (.hostGap []) run).counters[(24 : Fin 32)].value = 0 := by decide +kernel

/-- R192, R204: a RESTART COLD within a run of bytes leaves the rest as the assembly, no gap old. -/
theorem test_hostFrameDiscarded_after_reset :
    let t := after (.hostFrameDiscarded (hostFrame 0x1F 1 [0] ++ [0x5A, 3]) false) run
    t.part = .config ∧ t.host.assembly = [0x5A, 3] ∧ t.host.rxLast = 0 ∧ t.hostGapDue = false := by decide +kernel

/-- R194: the ninth collided request is discarded and counted. -/
theorem test_hostOverrun :
    (after (.hostOverrun 0x30 1 [1]) ((replyWaits run).setHost fun h => { h with
      collided := List.replicate 8 ⟨0x02, 2, .collided⟩ })).counters[(24 : Fin 32)].value = 1 := by decide +kernel
theorem test_hostUnknownKind :
    (after (.hostUnknownKind 0x77 3 []) run).host.reply = some ⟨0xF7, 3, [1], false⟩ := by decide +kernel

/-- The worked example of section 11.3: a request that finds a reply waiting is COLLIDED and not executed. -/
theorem test_collided :
    (after (.localHold 3 [1]) (replyWaits run)).host.collided = [⟨0x30, 3, .collided⟩] ∧
      (after (.localHold 3 [1]) (replyWaits run)).seq.holdLocal = false := by decide +kernel
theorem test_identify :
    (after (.identify 9 []) run).host.reply = some ⟨0x81, 9, [0, 0x04, 0x18, 0x41, 0, 1], false⟩ := by decide +kernel
theorem test_identify_length : (after (.identify 9 [0]) run).host.reply = some ⟨0x81, 9, [2], false⟩ := by decide +kernel
theorem test_readTime_config :
    (after (.readTime 9 []) State.reset).host.reply = some ⟨0x82, 9, [0, 0, 0, 0, 0, 0], false⟩ := by decide +kernel

/-- R1: a position is a signed number; -40,000 is FFFF63C0h. -/
theorem test_configPoint :
    (after (.configPoint 1 [2, 1, 0xFF, 0xFF, 0x63, 0xC0, 0x05, 0xDC]) State.reset).points[(2 : Fin 12)].position = -40000 := by
  decide +kernel
theorem test_configPoint_run :
    (after (.configPoint 1 [2, 1, 0xFF, 0xFF, 0x63, 0xC0, 0x05, 0xDC]) run).host.reply = some ⟨0x90, 1, [4], false⟩ := by
  decide +kernel
theorem test_configSection :
    (after (.configSection 1 [2, 1, 2, 3, 1]) State.reset).sections[(2 : Fin 10)] = { Sect.cold with
      track := some .one, aEnd := 2, bEnd := 3, role := .island } := by decide +kernel
theorem test_configTrack :
    (after (.configTrack 1 [2, 1, 0, 0, 0x82, 0x35, 0, 0, 0x13, 0x88, 0x01, 0x2C]) State.reset).slots[(3 : Fin 4)] =
      ⟨33333, 5000, 300, none⟩ := by decide +kernel
theorem test_configTiming_range :
    (after (.configTiming 1 (be16 10000 ++ be32 30000 ++ be16 3000 ++ be16 4000 ++ be16 1999 ++ be16 5000 ++ be32 300000))
      State.reset).host.reply = some ⟨0x93, 1, [3], false⟩ := by decide +kernel
theorem test_configFlash :
    (after (.configFlash 1 (be16 1000 ++ be16 440 ++ be16 60 ++ be16 440 ++ be16 60 ++ be16 60)) State.reset).lamps.flash =
      ⟨1000, 440, 60, 440, 60, 60⟩ := by decide +kernel

/-- R87: I_min not below I_max is refused. -/
theorem test_configLamp_order :
    (after (.configLamp 1 ([3, 1] ++ be16 300 ++ be16 300 ++ be16 50)) State.reset).host.reply =
      some ⟨0x95, 1, [3], false⟩ := by decide +kernel
theorem test_configBarrier :
    ((after (.configBarrier 1 ([3, 1, 1, 1] ++ be16 2000 ++ be16 8000 ++ be16 9000 ++ be16 2000 ++ be16 10000 ++ be16 12000))
      State.reset).barriers[(3 : Fin 4)]).lower = ⟨2000, 8000, 9000⟩ := by decide +kernel
theorem test_configLink_group :
    (after (.configLink 1 ([17, 47, 0, 0, 0] ++ be16 2000 ++ be16 60 ++ be16 30)) State.reset).host.reply =
      some ⟨0x97, 1, [3], false⟩ := by decide +kernel
theorem test_configMemory :
    (after (.configMemory 1 [8, 4, 4]) State.reset).memory.configured = ⟨8, 4, 4⟩ ∧
      (after (.configMemory 1 [8, 4, 4]) State.reset).memory.layout = ⟨64, 32, 32⟩ := by decide +kernel
theorem test_restartCold : (after (.restartCold 1 [0]) run).part = .config ∧
    (after (.restartCold 1 [0]) run).host.reply = none := by decide +kernel
/-- R204: the second of seven bytes is being sent at a cold reset, and is the last. -/
theorem test_coldReset_cutsTheFrame :
    (after (.coldReset 0 0) (run.setHost fun h => { h with tx := some ⟨[0x5A, 3, 0x81, 1, 0, 0x20, 0x47], true, 10000001⟩ })).host.tx =
      some ⟨[0x5A, 3], false, 10000001⟩ := by decide +kernel
theorem test_restartWarm :
    (after (.restartWarm 1 [1]) run).host.reply = some ⟨0x9F, 1, [0], true⟩ ∧
      (after (.restartWarm 1 [1]) run).host.warmPending = true := by decide +kernel
theorem test_readState_length :
    ((after (.readState 1 []) run).host.reply.map fun r => r.payload.length) = some 170 := by decide +kernel
theorem test_readSections :
    ((after (.readSections 1 []) run).host.reply.map fun r => r.payload.drop 73) = some [0, 0, 0, 0, 0xFF, 0, 0, 0] := by
  decide +kernel
theorem test_readRecords : (after (.readRecords 1 []) run).host.reply = some ⟨0xA2, 1, [0, 0, 0, 0, 0], false⟩ := by
  decide +kernel
theorem test_readFaults :
    (after (.readFaults 1 [0]) run).host.reply = some ⟨0xA3, 1, [0, 0, 0, 0, 0, 0, 0, 0xFF], false⟩ := by decide +kernel
theorem test_readCounters_clear :
    (after (.readCounters 1 [12, 1, 1]) (run.setCounter 12 fun _ => ⟨7, false, false⟩)).counters[(12 : Fin 32)].value = 0 := by
  decide +kernel
theorem test_readLog : (after (.readLog 1 [12]) run).host.reply = some ⟨0xA5, 1, [0, 0, 0, 0, 0, 0], false⟩ := by
  decide +kernel
theorem test_readPassage_range : (after (.readPassage 1 [4]) run).host.reply = some ⟨0xA6, 1, [3], false⟩ := by
  decide +kernel

/-- R79: a HOLD closes the road. -/
theorem test_localHold : (after (.localHold 1 [1]) run).seq.state = some .amber := by decide +kernel
theorem test_lampTest :
    (after (.lampTest 1 []) run).lamps.test = some ⟨0, 120000, false, Vector.replicate 10 none⟩ := by decide +kernel

/-- Section 11.4: the host's DIRECT is refused OUT_OF_RANGE. -/
theorem test_hostRestore_direct :
    (after (.hostRestore 1 [2, 0]) (run.setSect 2 Sect.disturb)).host.reply = some ⟨0xB2, 1, [3], false⟩ := by decide +kernel
theorem test_hostRestore_sweep :
    (after (.hostRestore 1 [2, 1]) (run.setSect 2 Sect.disturb)).sections[(2 : Fin 10)].state = some .prepared := by
  decide +kernel
theorem test_faultAck :
    (after (.faultAck 1 [1, 6, 3]) (linkDown (withFault 0 .lampFail 3 .activeUnacked run))).faults.table[(0 : Fin 32)].record.map
      FaultRecord.state = some .activeAcked := by decide +kernel
theorem test_faultAck_linkActive : (after (.faultAck 1 [0]) run).host.reply = some ⟨0xB3, 1, [4], false⟩ := by decide +kernel

/-- The example of section 7.11: a host RELEASE is refused while the link is ACTIVE. -/
theorem test_hostRelease_linkActive : (after (.hostRelease 1 []) run).host.reply = some ⟨0xB4, 1, [4], false⟩ := by
  decide +kernel
theorem test_hostTxStart :
    ((after .hostTxStart ((replyWaits run).setPins fun i => { i with hostReady := true })).host.tx.map Sending.bytes) =
      some [0x5A, 3, 0x81, 1, 0, 0x20, 0x47] := by decide +kernel
theorem test_hostTxDone :
    (after .hostTxDone (run.setHost fun h => { h with tx := some ⟨[], false, 0⟩ })).host.tx = none := by decide +kernel

/-- The example of section 11.2: FAULT and LINK are bits 1 and 2 of RESYNC. -/
theorem test_resync : resyncByte [.fault, .link] = 6 := by decide

/-! ### Detection points (the examples of chapter 1) -/

theorem test_acceptance_tick_4 : (Window.mk false true false true true).accepted = true := by decide
theorem test_acceptance_tick_8 : (Window.mk true true false false false).accepted = false := by decide

/-- A point of the example track in a state of the machine. -/
def pointIn (x : Point) (q : HeadSeq) (a b : Bool) (t : Tick) : Point :=
  { x with seq := q, accA := a, accB := b, stamp := some t, leave := t.ms }

/-- The clean axle: B on at 120,054 takes the interval 1,080. -/
theorem test_headChange_interval :
    let s := { run with now := 120054 }.setPoint 2 fun x => pointIn x .ab1 true false ⟨120000, 0⟩
    (after (heads true true 2) s).points[(2 : Fin 12)].seq = .ab2 ∧
      (after (heads true true 2) s).points[(2 : Fin 12)].interval = some 1080 := by decide +kernel

/-- The train of section 3.9 at 400,000: the axle is counted, section 0 entered, a record created and predicted. -/
theorem test_headChange_axle :
    let s := ({ run with now := 400000 }.setPoint 0 fun x =>
      { pointIn x .ab3 false true ⟨399900, 0⟩ with interval := some 1080 }).setSlot 0 fun _ => ⟨33333, 5000, 300, none⟩
    let t := after (heads false false 0) s
    t.counters[(0 : Fin 32)].value = 1 ∧ t.sections[(0 : Fin 10)].count = 1 ∧
      (t.slots[(0 : Fin 4)].record.map TrainRecord.predictions) = some [⟨0, some 1080, 27777, 54344⟩] ∧
      (t.slots[(0 : Fin 4)].record.bind TrainRecord.warningS) = some 424344 := by decide +kernel

/-- R12: two head changes of a point queued in one head tick leave an interval of 1 (log entry 1). -/
theorem test_headChange_interval_least :
    (after (heads true true 2) (run.setPoint 2 fun x => pointIn x .ab1 true false ⟨120000, 0⟩)).points[(2 : Fin 12)].interval =
      some 1 := by decide +kernel

/-- The wheel that rocks: no new interval once the rocked flag is set. -/
theorem test_rocked :
    ({ Point.cold with seq := .ba1, accA := true, accB := true, rocked := true, stamp := some ⟨300000, 10⟩ }.changeA
      ⟨303150, 0⟩).point.interval = none := by decide

/-- The stuck head: more than 10,000 ms, HEAD_FAULT with object 8 and detail 2. -/
def stuck (t : Time) : State :=
  { run with now := t }.setPoint 8 fun _ =>
    { Point.cold with track := some .two, inService := true, seq := .ba1, accB := true, leave := 500000 }
theorem test_stuckTimeout :
    ((after (.stuckTimeout 8) (stuck 510001)).faults.table[(0 : Fin 32)].record.map fun r => (r.kind, r.object, r.detail)) =
      some (.headFault, 8, 2) := by decide +kernel
theorem test_stuckTimeout_early : (after (.stuckTimeout 8) (stuck 510000)).points[(8 : Fin 12)].seq = .ba1 := by
  decide +kernel
theorem test_quietPeriodEnd :
    (after (.quietPeriodEnd 8) ({ run with now := 536200 }.setPoint 8 fun _ =>
      { Point.cold with inService := true, headFault := true, quiet := some 534200 })).points[(8 : Fin 12)].headFault = false := by
  decide +kernel
theorem test_quietMark :
    (after (.quietMark 2) ({ run with now := 130000 }.setPoint 2 fun x => { x with lastCount := 120000 })).points[(2 : Fin 12)].quietMark =
      true := by decide +kernel

/-! ### Sections (the examples of chapter 2) -/

theorem test_section_last_axle : (sectionOf 2 3 .island .occupied 1).leave = ⟨sectionOf 2 3 .island .clear 0, some .exit⟩ := by
  decide
theorem test_section_underflow :
    (sectionOf 3 4 .approach .prepared 0).leave = ⟨sectionOf 3 4 .approach .disturbed 0, some .underflow⟩ := by decide
theorem test_section_overflow :
    (sectionOf 3 4 .approach .occupied 1023).enter = ⟨sectionOf 3 4 .approach .disturbed 0, some .overflow⟩ := by decide

/-- At 815,000 a DIRECT of section 2 is refused: point 3 counted 2,600 ms ago. -/
theorem test_restore_points : (run.setSect 2 Sect.disturb).restoreTest 2 0 = .pointsActive := by decide +kernel

/-! ### Approach prediction (the examples of section 3.5) -/

theorem test_speed_measured : knownSpeed 1500 (some 1080) = some 27777 := by decide
theorem test_speed_glitch : isGlitch 1500 (some 300) = true := by decide
theorem test_speed_floor : speedUsed 33333 5000 (some 3750) (some .auto) = 5000 := by decide
theorem test_predict_express : predictedMs 27777 33333 300 1200000 = 37543 := by decide +kernel
theorem test_predict_exact : predictedMs 27777 33333 300 1760000 = 54344 := by decide +kernel
theorem test_predict_level : predictedMs 27777 33333 0 1200000 = 43201 := by decide +kernel
theorem test_predict_freight : predictedMs 5000 33333 300 1200000 = 74315 := by decide +kernel
theorem test_predict_short : predictedMs 27777 33333 300 200000 = 6940 := by decide +kernel

/-- The train of section 3.9 at 426,355: the start timer expires and the road leaves OPEN. -/
theorem test_startTimerExpiry :
    let t := after (.startTimerExpiry 0) (withRecord (waiting 426355) { run with now := 426355 })
    (t.slots[(0 : Fin 4)].record.bind TrainRecord.commitTime) = some 426355 ∧ t.seq.state = some .amber := by decide +kernel
theorem test_longWarningMark :
    ((after (.longWarningMark 0) (withRecord (closed 1000) { run with now := 65536000 })).slots[(0 : Fin 4)].record.map
      TrainRecord.longMark) = some true := by decide +kernel

/-! ### The crossing sequence -/

theorem test_openMark :
    (after .openMark { run with now := 105000, seq := { run.seq with openMark := false } }).seq.openMark = true := by
  decide +kernel
theorem test_tAmberExpiry :
    (after .tAmberExpiry { inState .amber with now := 103000 }).seq.state = some .redWait := by decide +kernel
theorem test_tAmberExpiry_early :
    (after .tAmberExpiry { inState .amber with now := 102999 }).seq.state = some .amber := by decide +kernel

/-- The worked sequence of section 4.11 and the example of section 6.10: LOWER_ENTRY releases the entry barriers. -/
theorem test_tPrelowerExpiry :
    let t := after .tPrelowerExpiry { inState .redWait with now := 104000 }
    t.seq.state = some .lowerEntry ∧ t.barriers[(0 : Fin 4)].state = some .lowering ∧
      t.barriers[(0 : Fin 4)].phase = some .leave ∧ t.barriers[(2 : Fin 4)].state = some .heldUp := by decide +kernel

/-- RUN in a state with every configured barrier in one state. -/
def barriersAt (x : BarrierState) (s : State) : State :=
  { s with barriers := remake s.barriers fun _ b => if b.configured then b.enter x else b }
theorem test_exitDelayMark :
    (after .exitDelayMark (barriersAt .down ((inState .lowerEntry).setSeq fun q =>
      { q with exitMark := some 120000, holdLocal := true }))).seq.state = some .closed := by decide +kernel
theorem test_longClosureTimer :
    (after .longClosureTimer ({ inState .amber with now := 300001 })).seq.longFlag = true := by decide +kernel
theorem test_longBinMark :
    (after .longBinMark ({ inState .amber with now := 480000 })).seq.longBin = true := by decide +kernel

/-! ### Road lights (the examples of section 5.11) -/

/-- The flash of the example, L-on since 429,355. -/
def flashing (t : Time) : State :=
  { inState .closed with
    now := t
    lamps := { run.lamps with
      lamps := Vector.ofFn fun c => { lampOn (leftChannels.contains c) with
        litDue := if leftChannels.contains c then some 429415 else none }
      flash := ⟨1000, 440, 60, 440, 60, 60⟩, gen := some ⟨.lOn, 429355⟩ } }
theorem test_flashPartEnd :
    let t := after .flashPartEnd (flashing 429795)
    t.lamps.gen = some ⟨.g1, 429795⟩ ∧ t.lamps.lamps[(1 : Fin 10)].lit = false ∧
      t.lamps.lamps[(1 : Fin 10)].darkDue = some 429855 := by decide +kernel

/-- Channel 3 reads 0 mA for the third time: FAILED, and LAMP_FAIL with object 3 and detail 1. -/
theorem test_litProof :
    let t := after (.litProof 3 0) ((flashing 431415).setLamp 3 fun l => { l with bad := 2 })
    t.lamps.lamps[(3 : Fin 10)].failed = true ∧ t.counters[(18 : Fin 32)].value = 1 ∧
      (t.faults.table[(0 : Fin 32)].record.map fun r => (r.kind, r.object, r.detail)) = some (.lampFail, 3, 1) := by
  decide +kernel
theorem test_darkSample :
    (after (.darkSample 2 51) ((flashing 429415).setLamp 2 fun l =>
      { l with darkRun := 1, darkDue := some 429415 })).lamps.lamps[(2 : Fin 10)].stuckOn = true := by decide +kernel
theorem test_startUpFlashHalf :
    (after .startUpFlashHalf { State.reset with now := 500 }).lamps.lamps[(2 : Fin 10)].lit = true := by decide +kernel

/-- A lamp test of channel 0 since 700,000. -/
def testing (t : Time) : State :=
  { run with now := t, lamps := { run.lamps with test := some ⟨0, 700000, false, Vector.replicate 10 none⟩ } }
theorem test_lampTestSample :
    ((after (.lampTestSample 820) (testing 700060)).lamps.test.map fun x => x.results[(0 : Fin 10)]) =
      some (some ⟨true, 820⟩) := by decide +kernel
theorem test_lampTestChannelEnd :
    ((after .lampTestChannelEnd (testing 701000)).lamps.test.map LampTest.channel) = some 1 := by decide +kernel

/-! ### Barriers (the examples of section 6.10) -/

/-- Channel 0 lowering since 434,355. -/
def lowering (t : Time) : State :=
  withBarrier (fun b => (b.enter .lowering).startLeave 434355) { inState .lowerEntry with now := t }
theorem test_barrierContactChange_travel :
    let b := (after (.barrierContactChange 0 false false) (lowering 435100)).barriers[(0 : Fin 4)]
    b.phase = some .travel ∧ b.phaseStart = some 435100 ∧ b.motionStart = some 434355 := by decide +kernel
theorem test_barrierContactChange_down :
    (after (.barrierContactChange 0 false true) (lowering 441200)).barriers[(0 : Fin 4)].state = some .down := by decide +kernel

/-- The raise that stalls: at 470,301 the travel limit has passed. -/
def stalled (t : Time) : State :=
  withBarrier (fun b => { b.enter .raising with
    phase := some .travel, motionStart := some 459700, phaseStart := some 460300, up := Filter.full false })
    { inState .amber with now := t }
theorem test_barrierLimit :
    let t := after (.barrierLimit 0) (stalled 470301)
    t.barriers[(0 : Fin 4)].state = some .fault ∧ t.barriers[(0 : Fin 4)].detail = 5 ∧ t.counters[(19 : Fin 32)].value = 1 := by
  decide +kernel
theorem test_barrierLimit_early :
    (after (.barrierLimit 0) (stalled 470300)).barriers[(0 : Fin 4)].state = some .raising := by decide +kernel
theorem test_barrierDropped :
    (after (.barrierDropped 0) (withBarrier (fun b => { b with
      up := Filter.full false, down := Filter.full true, dropped := some 900010 }) { inState .amber with now := 902010 })).barriers[(0 : Fin 4)].settled =
      some 902010 := by decide +kernel
theorem test_barrierSettled :
    (after (.barrierSettled 0) (withBarrier (fun b => { b.enter .fault with settled := some 902010 })
      { inState .redWait with now := 904010 })).barriers[(0 : Fin 4)].state = some .down := by decide +kernel
theorem test_barrierLostDown :
    (after (.barrierLostDown 0) (withBarrier (fun b => { b.enter .down with lostDown := some 120000 })
      { inState .redWait with now := 122000 })).barriers[(0 : Fin 4)].disturbed = true := by decide +kernel

/-! ### Supply inputs, the fault table -/

theorem test_supplyInputChange :
    ((after (.supplyInputChange .mains false) run).faults.table[(0 : Fin 32)].record.map FaultRecord.kind) =
      some .supplyMains := by decide +kernel

/-- The example of section 7.11: the end of BARRIER_FAIL leaves it CLEARED_UNACKED, the latch set. -/
theorem test_fault_end :
    ((endCondition .barrierFail 3 (raise .barrierFail 3 5 run)).faults.table[(0 : Fin 32)].record.map FaultRecord.state) =
      some .clearedUnacked ∧ (endCondition .barrierFail 3 (raise .barrierFail 3 5 run)).faults.mode = some .failed := by
  decide +kernel

/-- A full table whose slot 0 holds an acked BARRIER_DISTURBED of barrier 0, slots 1 to 3 nothing, and TABLE_FULL active. -/
def nearlyFull : State :=
  run.setFaults fun f => { f with
    latch := true, mode := some .failed
    table := Vector.ofFn fun i =>
      if i = 0 then ⟨some ⟨.barrierDisturbed, 0, .minor, .activeAcked, 0, 1, 100000, 100000, none, none⟩, false, none, false⟩
      else if i = 31 then ⟨some ⟨.tableFull, 0, .severe, .activeUnacked, 6, 1, 100000, 100000, none, none⟩, false, none, false⟩
      else if 28 ≤ i.val then FaultSlot.empty
      else ⟨some ⟨.lampFail, i.val, .minor, .activeAcked, 1, 1, 100000, 100000, none, none⟩, false, none, false⟩ }

/-- R114, R126: the slot that BARRIER_DISTURBED leaves is taken by BARRIER_FAIL in the same step and does not count; an end by
itself frees the fourth slot. -/
theorem test_fault_tableFull :
    ((endThenRaise (some .barrierDisturbed) .barrierFail 0 5 nearlyFull).faults.table[(31 : Fin 32)].record.map
      FaultRecord.state) = some .activeUnacked ∧
    ((endCondition .barrierDisturbed 0 nearlyFull).faults.table[(31 : Fin 32)].record.map FaultRecord.state) =
      some .clearedUnacked := by decide +kernel

/-! ### The signaller line (the examples of sections 8.9 and 9.11) -/

/-- RUN with the link in a state at a time. -/
def linkAt (l : LinkState) (t : Time) (first last : Option Time) : State :=
  { run with now := t, line := { run.line with link := l, firstBeacon := first, lastBeacon := last } }
theorem test_beacon_sync :
    (after (.beacon ⟨2, 0, 63⟩ []) (linkAt .down 100850 none none)).line.link = .sync := by decide +kernel
theorem test_beacon_active :
    (after (.beacon ⟨2, 0, 63⟩ []) (linkAt .sync 102850 (some 100850) none)).line.link = .active := by decide +kernel
theorem test_beacon_late :
    (after (.beacon ⟨2, 0, 63⟩ []) (linkAt .sync 135000 (some 130000) none)).line.firstBeacon = some 135000 := by decide +kernel
theorem test_beaconTimeout :
    (after .beaconTimeout (linkAt .active 112851 none (some 106850))).line.link = .lost := by decide +kernel
theorem test_beaconTimeout_early :
    (after .beaconTimeout (linkAt .active 112850 none (some 106850))).line.link = .active := by decide +kernel
theorem test_poll :
    (after (.poll toPart []) run).reports.confirm = some ⟨0x02, .ok⟩ ∧ (after (.poll toPart []) run).reports.stateMark = true := by
  decide +kernel
theorem test_sigAck :
    (after (.sigAck toPart [1, 9, 3]) (withFault 0 .barrierFail 3 .clearedUnacked run)).faults.table[(0 : Fin 32)].record =
      none := by decide +kernel

/-- At 815,000 the signaller's DIRECT is refused POINTS_ACTIVE and confirmed. -/
theorem test_sigRestore :
    (after (.sigRestore toPart [2, 0]) (run.setSect 2 Sect.disturb)).reports.confirm = some ⟨0x04, .pointsActive⟩ := by
  decide +kernel
theorem test_sigHold : (after (.sigHold toPart [1]) run).seq.state = some .amber := by decide +kernel
theorem test_sigHold_range : (after (.sigHold toPart [2]) run).reports.confirm = some ⟨0x05, .outOfRange⟩ := by decide +kernel
theorem test_sigRelease :
    (after (.sigRelease toPart []) { inState .redWait with
      faults := { run.faults with latch := true, mode := some .failed } }).faults.mode = some .auto := by decide +kernel
theorem test_sigCmdUnknownKind :
    (after (.sigCmdUnknownKind toPart 0x09 []) run).reports.confirm = some ⟨0x09, .unknownKind⟩ := by decide +kernel
theorem test_sigCmdRefusedSource :
    (after (.sigCmdRefusedSource ⟨0, 3, 17⟩ 0x05 [1]) run).memory.log.map LogRecord.data =
      [[0x05, 0, 0xFF, 1, 1, 0, 0, 0]] := by decide +kernel
theorem test_lineFrameBad :
    let t := after (.lineFrameBad [0, 17, 25] false) run
    t.line.rx = .skipping ∧ t.counters[(21 : Fin 32)].value = 1 := by decide +kernel

/-- A POLL as characters on the line: its check code is D0D1h. -/
theorem test_characters_make_a_frame :
    (after (.lineGapAbort [0, 17, 0, 2, 0xD0, 0xD1]) run).reports.confirm = some ⟨0x02, .ok⟩ := by decide +kernel
theorem test_lineGapAbort : (after (.lineGapAbort [0]) run).counters[(21 : Fin 32)].value = 1 := by decide +kernel

/-- R141, R143: in SKIPPING a character is not taken; F3h ends in two recessive bits, and its stop bit makes three. -/
theorem test_lineFrameBad_skipping :
    let t := after (.lineFrameBad [0xF3] false) (run.setLine fun l => { l with rx := .skipping, quiet := 20 })
    t.line.rx = .skipping ∧ t.line.quiet = 3 ∧ t.counters[(21 : Fin 32)].value = 0 := by decide +kernel

theorem test_skipEnd :
    (after .skipEnd (run.setLine fun l => { l with rx := .skipping, quiet := 21 })).line.rx = .idle := by decide +kernel
theorem test_foreignFrame :
    (after (.foreignFrame ⟨0, 9, 0⟩ 0x42 []) (run.setLine fun l => { l with raisedAlarm := true })).line.raisedAlarm = false := by
  decide +kernel
theorem test_ownAddressFrame :
    (after (.ownAddressFrame ⟨0, 17, 17⟩ 0x02 []) run).counters[(20 : Fin 32)].value = 0 := by decide +kernel

/-- An ALARM wait at 8 quiet bit-times with SECTION_DISTURBED 2 due. -/
def alarmWait (q : Nat) : State :=
  (withFault 0 .sectionDisturbed 2 .activeUnacked (inState .closed)).setLine fun l => { l with wait := some .alarm, quiet := q }
theorem test_accessWaitQuiet :
    ((after .accessWaitQuiet (alarmWait 8)).line.inFlight.map fun f => f.chars.take 8) =
      some [17, 0, 8, 0x42, 1, 2, 0, 0] := by decide +kernel
theorem test_accessWaitQuiet_early : (after .accessWaitQuiet (alarmWait 7)).line.inFlight = none := by decide +kernel

/-- The part's frame, its start bit not begun. -/
def asked (acc : Nat) : State :=
  run.setLine fun l => { l with
    bitAcc := acc, inFlight := some ⟨.state, 0x43, [2, 0], frameChars .state 17 0x43 [2, 0], 0, false⟩ }

/-- `asked` with a newer confirmation in the slot than the frame was given. -/
def renewedSlot (acc : Nat) : State := (asked acc).setReports fun r => { r with confirm := some ⟨4, .ok⟩ }

/-- R140, R152: the start bit begins half a bit-time after a sample, not before; asked for later, it waits for the next. -/
theorem test_startBit :
    (tick (renewedSlot 490000)).line.inFlight.map TxFrame.begun = some true ∧
      (tick (renewedSlot 400000)).line.inFlight.map TxFrame.begun = some false ∧
      (tick (renewedSlot 510000)).line.inFlight.map TxFrame.begun = some false := by decide +kernel

/-- R153: a change before the start bit reaches the frame; with the class's content gone, nothing is sent (R152). -/
theorem test_startBit_content :
    (tick (renewedSlot 490000)).line.inFlight.map TxFrame.payload = some [4, 0] ∧
      (tick (asked 490000)).line.inFlight = none := by decide +kernel

/-- R152: another station's frame is received before the start bit has begun; the part's is not sent. -/
theorem test_lineTaken_before_startBit :
    let t := after (.foreignFrame ⟨0, 9, 0⟩ 0x42 []) (asked 100000)
    t.line.inFlight = none ∧ t.line.quiet = 0 ∧ t.counters[(22 : Fin 32)].value = 0 := by decide +kernel

/-- The part's frame with some bits sent. -/
def sending (n : Nat) : State :=
  run.setLine fun l => { l with inFlight := some ⟨.state, 0x43, [2, 0], frameChars .state 17 0x43 [2, 0], n, true⟩ }
theorem test_lineFrameSent :
    let t := after .lineFrameSent (sending 80)
    t.line.inFlight = none ∧ t.counters[(23 : Fin 32)].value = 1 := by decide +kernel

/-- HEAD's data bits are 01 010001: the second is recessive. The next sample is a whole bit-time away (R140). -/
theorem test_arbitrationLost :
    let t := after .arbitrationLost (sending 2)
    t.line.rx = .assembling ∧ t.line.headBits = [false, false] ∧ t.counters[(22 : Fin 32)].value = 1 ∧ t.line.bitAcc = 0 := by
  decide +kernel
theorem test_collision :
    let t := after .collision (sending 12)
    t.line.rx = .skipping ∧ t.counters[(21 : Fin 32)].value = 1 := by decide +kernel

/-- R154: the winner's frame, HEAD 00h of which two bits were taken over, is received: a POLL to the own address. -/
theorem test_poll_after_arbitration :
    (after (.poll toPart []) (after .arbitrationLost (sending 2))).reports.confirm = some ⟨0x02, .ok⟩ := by decide +kernel

theorem test_healthTimerExpiry :
    (after .healthTimerExpiry (run.setReports fun r => { r with healthTimer := some 120000 })).reports.healthMark = true := by
  decide +kernel

/-- A record reported long ago, or last changed long ago. -/
def reported (t : Time) : State :=
  { run with now := t }.setFaults fun f => { f with
    table := upd f.table 0 fun _ => ⟨some ⟨.lampFail, 3, .minor, .activeUnacked, 1, 1, 100000, 100000, some .activeUnacked,
      some 100000⟩, false, none, false⟩ }
theorem test_repeatInterval :
    (after (.repeatInterval 0) (reported 130000)).faults.table[(0 : Fin 32)].forced = true := by decide +kernel
theorem test_agedMark :
    (after (.agedMark 0) (reported 65635000)).faults.table[(0 : Fin 32)].aged = true := by decide +kernel

/-- At 118,000 a RELEASE is counted and not carried out: the link is LOST. -/
theorem test_addressedFrameLinkNotActive :
    let t := after (.addressedFrameLinkNotActive toPart 0x06 []) (linkAt .lost 118000 none none)
    t.counters[(20 : Fin 32)].value = 1 ∧ t.reports.confirm = none := by decide +kernel

/-- The entry of section 9.11: (BARRIER_FAIL, 3, SEVERE, ACTIVE_UNACKED, detail 5, count 1, age 4). -/
theorem test_fault_entry :
    (FaultSlot.entry ⟨some ⟨.barrierFail, 3, .severe, .activeUnacked, 5, 1, 470301, 470301, none, none⟩, false, none, false⟩
      474550) = [9, 3, 0, 0, 5, 1, 0, 4] := by decide +kernel

/-! ### Record Memory (the examples of chapter 10) -/

/-- The log of 8 granules with 23 records: record 23 disarms the flag. -/
theorem test_log_level :
    let m : RecordMemory := { RecordMemory.cold with
      layout := ⟨8, 4, 4⟩, nextSeq := 23, log := List.replicate 23 ⟨0, 0, .mode, 0, []⟩ }
    (m.append 0 .mode 0 []).armed = false ∧ (m.append 0 .mode 0 []).log.length = 24 := by decide +kernel
theorem test_log_full :
    let m : RecordMemory := { RecordMemory.cold with
      layout := ⟨8, 4, 4⟩, nextSeq := 32, armed := false, log := List.replicate 32 ⟨0, 0, .mode, 0, []⟩ }
    (m.append 0 .mode 0 []).log.length = 32 := by decide +kernel

/-- A passage record of k predictions. -/
def passageOf (n : BitVec 16) (k : Nat) : PassageRecord :=
  ⟨n, .one, .aToB, .passed, 8, 0, none, none, 0, none, false, List.replicate k ⟨0, none, 0, 0⟩⟩

/-- The small passage store: record 6 with k = 3 discards record 1 alone. -/
theorem test_passage_store :
    let m : RecordMemory := { RecordMemory.cold with
      layout := ⟨8, 4, 4⟩, nextPassage := 6
      passages := [passageOf 1 1, passageOf 2 4, passageOf 3 0, passageOf 4 4, passageOf 5 4] }
    ((m.store (passageOf 0 3)).passages.map PassageRecord.seq) = [2, 3, 4, 5, 6] := by decide +kernel

/-- The notice queue under a storm: with 252 of 256 bytes held, the nineteenth FAULT notice does not fit. -/
theorem test_queue_storm :
    let n : Notice := ⟨.fault, List.replicate 8 0⟩
    let s := { run with
      memory := { run.memory with layout := ⟨8, 4, 4⟩ }, host := { run.host with hnq := List.replicate 18 n } }
    n.size = 14 ∧ (queueNotice n s).host.pendingKinds = [.fault] := by decide +kernel

/-! ### Start of service -/

/-- A configuration that passes every check of R202: the track of chapter 2, all lamps enabled, own address 17. -/
def ready : State :=
  { State.reset with
    points := remake examplePoints fun _ x => { x with inService := false }
    sections := remake exampleSections fun _ c => { c with state := none }
    lamps := { LampDriver.cold with lamps := Vector.replicate 10 (lampOn false) }
    line := { LineController.cold with own := some 17 } }
theorem test_commit :
    let t := after (.commit 1 []) ready
    t.part = .run ∧ t.seq.state = some .closed ∧ t.sections[(2 : Fin 10)].state = some .disturbed ∧
      t.faults.mode = some .failed := by decide +kernel

/-- Without an own address check 9 fails, index 0; with no track in use check 1 fails first. -/
theorem test_commit_refused :
    commitFailure { ready with line := LineController.cold } = some (9, 0) ∧ (commitFailure State.reset).isSome = true := by
  decide +kernel

/-- R21: a section of Track 2 that joins the two points of section 0 puts section 0 at fault under check 3. -/
theorem test_commit_pair_taken :
    commitFailure { ready with sections := ready.sections.set 5 { Sect.cold with track := some .two, aEnd := 1, bEnd := 0 } } =
      some (3, 0) := by decide +kernel

/-! ### Witnesses: each statement's hypotheses are met -/

/-- RUN with nothing due. -/
def idle : State := { run with points := remake run.points fun _ x => { x with quietMark := true } }

theorem witness_StepRunsTheFrontCommand : { run with pending := [.openMark] }.pending = [.openMark] := rfl

theorem witness_IdleStepIsOneHeadTick :
    (State.reset.pending = [] ∧ dueCommands State.reset = [] ∧ State.reset.part = .config) ∧
      (idle.pending = [] ∧ dueCommands idle = [] ∧ idle.part = .run ∧ idle.phase + 1 < 20 ∧
        idle.line.bitAcc + 50 * Config.lineRate idle.lrate < 1000000 ∧ idle.line.inFlight = none ∧ idle.line.headBits = [] ∧
        ∀ f ∈ idle.line.inFlight, f.begun = true) ∧
      (let s := { idle with phase := 19, sample10 := 9, line := { idle.line with bitAcc := 970000 } }
      dueCommands s = [] ∧ 20 ≤ s.phase + 1 ∧ (s.sample10 + 1) % 10 = 0 ∧
        1000000 ≤ s.line.bitAcc + 50 * Config.lineRate s.lrate) ∧
      dueCommands { State.reset with now := 500 } = [.startUpFlashHalf] ∧
      (dueCommands run).take 2 = [.quietMark 0, .quietMark 1] := by decide +kernel

/-- A frame asked for begins with this tick: its class holds content still, or holds none. -/
theorem witness_StartBitBegins :
    (let s := { renewedSlot 490000 with points := idle.points }
    s.pending = [] ∧ dueCommands s = [] ∧ s.part = .run ∧
      (∃ f, StartBitBegins (50 * Config.lineRate s.lrate) s.line f) ∧ (s.content .state).isSome = true) ∧
      (let s := { asked 490000 with points := idle.points }
      s.pending = [] ∧ dueCommands s = [] ∧ s.part = .run ∧
        (∃ f, StartBitBegins (50 * Config.lineRate s.lrate) s.line f) ∧ s.content .state = none) :=
  ⟨⟨rfl, by decide +kernel, rfl, ⟨_, rfl, rfl, by decide +kernel, by decide +kernel⟩, by decide +kernel⟩,
    ⟨rfl, by decide +kernel, rfl, ⟨_, rfl, rfl, by decide +kernel, by decide +kernel⟩, by decide +kernel⟩⟩

/-- A frame in flight, and a HEAD taken over, within a tick that completes a bit-time. -/
theorem witness_LineTicks :
    (let s := { sending 10 with points := idle.points }
    dueCommands s = [] ∧ s.part = .run ∧ ∃ f, s.line.inFlight = some f ∧ f.begun = true ∧ f.sent < 10 * f.chars.length) ∧
      (∀ n : Fin 8, let s := idle.setLine fun l => { l with rx := .assembling, headBits := List.replicate (n.val + 1) false }
      dueCommands s = [] ∧ s.line.inFlight = none ∧ s.line.headBits ≠ []) :=
  ⟨⟨by decide +kernel, rfl, _, rfl, rfl, by decide +kernel⟩, by decide +kernel⟩

theorem witness_ResetsLeaveTheColdState : HostFree run := by decide +kernel

/-- A reply waits and the collided list holds a number of entries. -/
def collidedBy (n : Nat) : State := (replyWaits run).setHost fun h => { h with collided := List.replicate n ⟨2, 2, .collided⟩ }

/-- A warm restart is pending. -/
def warmPending : State := run.setHost fun h => { h with warmPending := true }

theorem witness_EveryRequestFrameIsAnsweredOnce :
    frameOf (.readTime 1 []) = some (0x02, 1, []) ∧ ([] : List Byte).length ≤ 248 ∧
      ((collidedBy 8).host.replyWaits = true ∧ 8 ≤ (collidedBy 8).host.collided.length) ∧
      ((collidedBy 7).host.replyWaits = true ∧ (collidedBy 7).host.collided.length < 8) ∧
      (warmPending.host.replyWaits = false ∧ warmPending.host.warmPending = true) ∧ HostFree run ∧
      frameOf (.restartCold 1 [0]) = some (0x1F, 1, [0]) := by decide +kernel

theorem witness_RequestTestsAreTakenInOrder :
    (frameOf (.hostUnknownKind 0x77 1 []) = some (0x77, 1, []) ∧ (0x77 : Byte) ∉ requestKinds ∧ HostFree run) ∧
      (frameOf (.identify 1 [0]) = some (0x01, 1, [0]) ∧ (0x01 : Byte) ∈ requestKinds ∧ ¬FitsKind 0x01 [0]) ∧
      (FitsKind 0x20 [] ∧ StateForbids 0x20 State.reset.part ∧ HostFree State.reset) ∧
      (FitsKind 0x1E [] ∧ StateForbids 0x1E run.part) ∧ FitsKind 0x33 [1, 0, 0] := by
  refine ⟨by decide +kernel, ⟨by decide, by decide, ?_⟩, ⟨Or.inl (by decide), by decide, by decide⟩,
    ⟨Or.inl (by decide), by decide⟩, Or.inr ⟨rfl, 1, [0, 0], rfl, rfl⟩⟩
  simp [FitsKind, requestLengths]

/-- What follows the LEN 2 of a frame with a wrong check code: a READ_TIME stands among its bytes. -/
def rescanned : List Byte := hostFrame 0x02 7 []

/-- R193: the bytes of a discarded frame are scanned again; the READ_TIME among them is answered. -/
theorem test_rescan :
    let t := after (.hostFrameDiscarded (0x5A :: 2 :: rescanned) false) run
    t.counters[(24 : Fin 32)].value = 1 ∧ t.host.reply = some ⟨0x82, 7, [0, 0, 1, 0xD4, 0xC0, 1], false⟩ := by decide +kernel

theorem witness_BadHostFramesAreCounted :
    (run.host.assembly = [] ∧ ((1 : Byte).toNat < 2 ∨ 250 < (1 : Byte).toNat)) ∧
      ((251 : Byte).toNat < 2 ∨ 250 < (251 : Byte).toNat) ∧
      (2 ≤ (2 : Byte).toNat ∧ (2 : Byte).toNat ≤ 250 ∧ [(1 : Byte), 0, 0, 0].length = (2 : Byte).toNat + 2 ∧
        (0x5A : Byte) ∉ [(2 : Byte), 1, 0, 0, 0] ∧
        crcBytes ((2 : Byte) :: [(1 : Byte), 0, 0, 0].take (2 : Byte).toNat) ≠ [(1 : Byte), 0, 0, 0].drop (2 : Byte).toNat) ∧
      PartialFrame (run.host.assembly ++ [0x5A]) ∧ PartialFrame ([0x5A, 250] ++ List.replicate 251 0) ∧
      ((collidedBy 8).host.replyWaits = true ∧ 8 ≤ (collidedBy 8).host.collided.length) ∧
      ((2 : Byte).toNat + 2 ≤ rescanned.length ∧
        crcBytes ((2 : Byte) :: rescanned.take (2 : Byte).toNat) ≠ (rescanned.drop (2 : Byte).toNat).take 2) ∧
      (2 : Byte) ≠ 0x5A := by
  refine ⟨by decide +kernel, by decide, by decide +kernel, Or.inl rfl,
    Or.inr ⟨250, List.replicate 251 0, rfl, by decide, by decide, by decide +kernel⟩, by decide +kernel, by decide +kernel,
    by decide⟩

theorem witness_FramesSurviveTheirCheckCode :
    (List.replicate 248 (0 : Byte)).length ≤ 248 ∧ (List.replicate 24 (0 : Byte)).length ≤ 24 ∧
      0 < (frameChars .alarm 17 0x42 []).length ∧ 5 < (lineChars toPart 0x02 []).length ∧
      251 < (hostFrame 0x77 1 (List.replicate 248 0)).length := by decide +kernel

/-- The configuration requests' states: CONFIG, with the Host Port free. -/
theorem witness_config_requests : State.reset.part = .config ∧ HostFree State.reset := by decide

theorem witness_ConfigPointSetsThePoint :
    ((11 < 256 ∧ 2 < 256 ∧ 200 < 65536 ∧ (-2147483648 : Int) ≤ -5000000 ∧ (-5000000 : Int) < 2147483648) ∧
      (11 < 12 ∧ 2 ≤ 2 ∧ (-5000000 : Int) ≤ -5000000 ∧ (-5000000 : Int) ≤ 5000000 ∧ 200 ≤ 200 ∧ 200 ≤ 2500)) ∧
      ¬((5000001 : Int) ≤ 5000000) ∧ (5000001 : Int) < 2147483648 := by decide

theorem witness_ConfigSectionSetsTheSection :
    (9 < 256 ∧ 2 < 256 ∧ 11 < 256 ∧ 1 < 256) ∧ (9 < 10 ∧ 2 ≤ 2 ∧ 11 < 12 ∧ 0 < 12 ∧ 1 ≤ 1) ∧ ¬(10 < 10) ∧ 10 < 256 := by
  decide

theorem witness_ConfigTrackSetsTheSlot :
    (70000 < 4294967296 ∧ 1500 < 65536) ∧
      ((2 = 1 ∨ 2 = 2) ∧ 1 ≤ 1 ∧ 2000 ≤ 70000 ∧ 70000 ≤ 70000 ∧ 500 ≤ 500 ∧ 500 ≤ 70000 ∧ 1500 ≤ 1500) ∧
      ¬((3 = 1 ∨ 3 = 2) ∧ True) := by decide

theorem witness_ConfigTimingSetsTheTimes :
    ((2000 ≤ 2000 ∧ 2000 ≤ 30000) ∧ (15000 ≤ 90000 ∧ 90000 ≤ 90000) ∧ (2000 ≤ 6000 ∧ 6000 ≤ 6000) ∧
      (2000 ≤ 10000 ∧ 10000 ≤ 10000) ∧ (0 = 0 ∨ (2000 ≤ 0 ∧ 0 ≤ 15000)) ∧ 30000 ≤ 30000 ∧
      (60000 ≤ 900000 ∧ 900000 ≤ 900000)) ∧ ¬(1999 = 0 ∨ (2000 ≤ 1999 ∧ 1999 ≤ 15000)) := by decide

theorem witness_ConfigFlashAndLampSetTheLights :
    ((800 ≤ 1500 ∧ 1500 ≤ 1500) ∧ (250 ≤ 250 ∧ 250 ≤ 1500) ∧ 100 ≤ 100 ∧ (20 ≤ 150 ∧ 150 ≤ 150)) ∧ ¬(101 ≤ 100) ∧
      (9 < 10 ∧ 1 ≤ 1 ∧ 50 ≤ 50 ∧ 50 < 3000 ∧ 3000 ≤ 3000 ∧ 10 ≤ 200 ∧ 200 ≤ 200) ∧ ¬(300 < 300) := by decide

theorem witness_ConfigBarrierSetsTheChannel :
    (3 < 4 ∧ 1 ≤ 1 ∧ (200 ≤ 200 ∧ 200 ≤ 3000 ∧ 2000 ≤ 15000 ∧ 15000 ≤ 15000 ∧ 3000 ≤ 18000 ∧ 18000 ≤ 18000)) ∧
      ¬(4 < 4) ∧ 4 < 256 := by decide

theorem witness_ConfigLinkAndMemorySetTheirValues :
    ((1 ≤ 47 ∧ 47 ≤ 47) ∧ GroupOk 0 ∧ GroupOk 48 ∧ GroupOk 62 ∧ (1000 ≤ 10000 ∧ 10000 ≤ 10000) ∧ (10 ≤ 300 ∧ 300 ≤ 300) ∧
      (10 ≤ 600 ∧ 600 ≤ 600)) ∧ ¬GroupOk 63 ∧ 128 ≤ 128 ∧ ¬(129 ≤ 128) := by decide

theorem witness_CommitStartsService : ready.part = .config ∧ HostFree ready ∧ commitFailure ready = none := by decide +kernel

theorem witness_CommitFailsAtTheFirstFailingCheck :
    ({ ready with line := LineController.cold }.part = .config ∧ HostFree { ready with line := LineController.cold } ∧
      commitFailure { ready with line := LineController.cold } = some (9, 0)) ∧
      (check1 State.reset = some 0 ∧ check1 (ready.setPoint 3 fun x => { x with position := -40000 }) = some 1) ∧
      (check2 (ready.setSect 2 fun c => { c with role := .approach }) = some 129 ∧
        check2 (ready.setSect 1 fun c => { c with role := .island }) = some 1) ∧
      (check3 (ready.setSect 3 fun _ => Sect.cold) = some 129 ∧
        check3 (ready.setSect 1 fun c => { c with bEnd := 3 }) = some 1) ∧
      check4 (ready.setSlot 1 fun x => { x with vFloor := 44445 }) = some 1 ∧ check5 { ready with rwt := 6999 } = some 0 ∧
      check6 (ready.setLamps fun d => { d with flash := ⟨1000, 450, 50, 450, 50, 400⟩ }) = some 1 ∧
      check7 (ready.setLamps fun d => { d with lamps := remake d.lamps fun c l => { l with enabled := c.val != 6 && c.val != 8 } }) =
        some 1 ∧
      check8 { ready with seq := { ready.seq with tExitDelay := 2000 } } = some 4 ∧
      check10 { ready with memory := { ready.memory with configured := ⟨64, 32, 33⟩ } } = some 3 := by decide +kernel

theorem witness_RestartWarmIsAcceptedInRun :
    (run.part = .run ∧ HostFree run) ∧ (State.reset.part = .config ∧ HostFree State.reset) ∧ 2 ≤ (2 : Byte).toNat := by
  decide +kernel

/-- HOST_READY is high. -/
def hostReady (s : State) : State := s.setPins fun i => { i with hostReady := true }

/-- One notice waits. -/
def noticed : State := hostReady (run.setHost fun h => { h with hnq := [⟨.link, [0]⟩], pendingKinds := [.fault] })

/-- A frame of the part has gone out. -/
def transmitted (w : Bool) : State := run.setHost fun h => { h with tx := some ⟨[0], w, 10000000⟩ }

/-- Ten notices in a queue of 256 bytes, the last of n payload bytes: 7 bytes are free with 18, and 6 with 19. -/
def queued (n : Nat) : State :=
  { run with
    memory := { run.memory with layout := ⟨8, 4, 4⟩ }
    host := { run.host with hnq := List.replicate 9 ⟨.link, List.replicate 19 0⟩ ++ [⟨.link, List.replicate n 0⟩] } }

theorem witness_HostTransmitterServesRepliesFirst :
    ((hostReady (replyWaits run)).host.tx = none ∧ (hostReady (replyWaits run)).pins.hostReady = true ∧
      (hostReady (replyWaits run)).host.reply.isSome = true) ∧
      ((hostReady (run.setHost fun h => { h with collided := [⟨2, 2, .busy⟩] })).host.reply = none ∧
        (hostReady (run.setHost fun h => { h with collided := [⟨2, 2, .busy⟩] })).host.collided = [⟨2, 2, .busy⟩]) ∧
      (noticed.host.tx = none ∧ noticed.host.reply = none ∧ noticed.host.collided = [] ∧
        noticed.host.hnq = [⟨.link, [0]⟩] ∧ noticed.host.pendingKinds ≠ [] ∧
        32 * noticed.memory.layout.hnq ≤ 64 * noticed.memory.layout.hnq - hnqUsed []) ∧
      ((transmitted false).host.tx = some ⟨[0], false, 10000000⟩ ∧ (transmitted true).host.tx = some ⟨[0], true, 10000000⟩ ∧
        10000000 * [(0 : Byte)].length ≤ 10000000 ∧ (transmitted true).part = .run) ∧
      ((queued 18).host.pendingKinds = [] ∧ noticed.host.pendingKinds ≠ [] ∧
        64 * (queued 18).memory.layout.hnq - ((queued 18).host.hnq.map fun m => m.payload.length + 6).sum = [(0 : Byte)].length + 6 ∧
        64 * (queued 19).memory.layout.hnq - ((queued 19).host.hnq.map fun m => m.payload.length + 6).sum < [(0 : Byte)].length + 6) := by
    decide +kernel

/-- The reads' and the run-time requests' state: RUN, with the Host Port free. -/
theorem witness_run_requests : run.part = .run ∧ HostFree run := by decide +kernel

theorem witness_ReadStateRepliesWithTheWholeState :
    (run.part = .run ∧ HostFree run) ∧ run.barriers[(0 : Fin 4)].configured = true ∧
      run.barriers[(3 : Fin 4)].configured = false ∧ HostFree (sending 3) ∧ (sending 3).line.inFlight.isSome = true ∧
      HostFree (asked 0) ∧ (asked 0).line.inFlight.map TxFrame.begun = some false := by
  decide +kernel

theorem witness_IdentifyTimeSectionsAndRecordsReply :
    HostFree State.reset ∧ (withRecord (waiting 200000) run).part = .run ∧ HostFree (withRecord (waiting 200000) run) ∧
      (withRecord (waiting 200000) run).slots[(0 : Fin 4)].record = some (waiting 200000) := by decide +kernel

theorem witness_ReadFaultsReplies :
    (run.part = .run ∧ HostFree run ∧ (31 : Byte).toNat ≤ 31 ∧ ¬(32 : Byte).toNat ≤ 31) ∧
      (nearlyFull.part = .run ∧ HostFree nearlyFull ∧
        10 < (allFaultSlots.filter fun i => nearlyFull.faults.table[i].record.isSome).length) := by decide +kernel

theorem witness_ReadCountersRepliesAndClears :
    run.part = .run ∧ HostFree run ∧
      ((31 : Byte).toNat ≤ 31 ∧ 1 ≤ (1 : Byte).toNat ∧ (31 : Byte).toNat + (1 : Byte).toNat ≤ 32 ∧ (1 : Byte).toNat ≤ 1) ∧
      ¬((31 : Byte).toNat + (2 : Byte).toNat ≤ 32) := by decide +kernel

theorem witness_ReadLogAndPassageRemoveTheOldest :
    run.part = .run ∧ HostFree run ∧ (12 : Byte).toNat ≤ 12 ∧ ¬(13 : Byte).toNat ≤ 12 ∧ (3 : Byte).toNat ≤ 3 ∧
      ¬(1 ≤ (0 : Byte).toNat) := by decide +kernel

/-- A command frame's state: RUN, the receiver ready, the link ACTIVE, the frame to the own address. -/
theorem witness_command_frames : LineReady run ∧ run.line.link = .active ∧ FromBox run toPart .own ∧ FromBox run ⟨0, 0, 50⟩ .group ∧
      FromBox run ⟨0, 0, 63⟩ .broadcast := by decide +kernel

theorem witness_HoldsSetTheHoldSet :
    (run.part = .run ∧ HostFree run) ∧ LineReady run ∧ run.line.link = .active ∧ FromBox run toPart .own ∧ FromBox run ⟨0, 0, 50⟩ .group ∧
      FromBox run ⟨0, 0, 63⟩ .broadcast := by decide +kernel

theorem witness_LampTestRunsThroughTheChannels :
    ((testing 700000).part = .run ∧ HostFree (testing 700000) ∧ (testing 700000).lamps.test.isSome = true) ∧
      (run.lamps.test = none ∧ (inState .amber).lamps.test = none ∧ (inState .amber).seq.state ≠ some .roadOpen) ∧
      (run.seq.state = some .roadOpen ∧ (∀ k : Fin 4, run.slots[k].record = none) ∧ run.demand = false ∧
        run.lamps.lamps[(0 : Fin 10)].enabled = true ∧ ∀ d : Fin 10, d < 0 → run.lamps.lamps[d].enabled = false) ∧
      ((testing 700060).lamps.test = some ⟨0, 700000, false, Vector.replicate 10 none⟩ ∧
        (testing 700060).lamps.flash.settle ≤ elapsed (testing 700060).now 700000) ∧
      (1000 ≤ elapsed (testing 701000).now 700000 ∧ (testing 701000).lamps.lamps[(1 : Fin 10)].enabled = true ∧
        ∀ d : Fin 10, 0 < d → d < 1 → (testing 701000).lamps.lamps[d].enabled = false) ∧
      ∀ c : Fin 10, 9 < c → (testing 701000).lamps.lamps[c].enabled = false := by decide +kernel

/-- The road open and an uncommitted record whose span holds one DISTURBED section, the last that keeps it from ending. -/
def swept : State := withRecord (waiting 200000) (run.setSect 1 Sect.disturb)

/-- R53, R64, R66, R59: the SWEEP commits the record, the Sequencer takes its demand, and the record ends withdrawn. -/
theorem test_sweep_closes_the_road :
    (after (.sigRestore toPart [1, 1]) swept).seq.state = some .amber ∧
      (after (.sigRestore toPart [1, 1]) swept).slots[(0 : Fin 4)].record = none := by decide +kernel

theorem witness_RestoresClearOrPrepare :
    (run.part = .run ∧ HostFree run) ∧ (LineReady run ∧ run.line.link = .active ∧ FromBox run toPart .own) ∧
      FromBox run ⟨0, 0, 50⟩ .group ∧
      (idle.setSect 2 Sect.disturb).restoreTest 2 0 = .ok ∧ (idle.setSect 2 Sect.disturb).restoreTest 2 1 = .ok ∧
      run.restoreTest 9 0 = .outOfRange ∧ run.restoreTest 2 0 = .notDisturbed ∧
      (let s := withRecord (waiting 200000) (run.setSect 2 Sect.disturb)
      s.restoreTest 2 1 = .ok ∧ s.inSpan 0 2 = true ∧ s.slots[(0 : Fin 4)].record = some (waiting 200000) ∧
        (waiting 200000).committed = false) ∧
      (swept.restoreTest 1 1 = .ok ∧ LineReady swept ∧ swept.line.link = .active ∧ FromBox swept toPart .own ∧
        swept.inSpan 0 1 = true ∧ swept.slots[(0 : Fin 4)].record = some (waiting 200000) ∧
        swept.seq.state = some .roadOpen) := by decide +kernel

theorem witness_AcknowledgesSettleTheTable :
    (run.part = .run ∧ HostFree run ∧ run.line.link = .active) ∧
      (countFits [1, 6, 3] = true ∧ (linkDown run).line.link ≠ .active ∧ HostFree (linkDown run) ∧
        (ackTarget [1, 6, 3]).ok = true) ∧
      (countFits [1, 6, 10] = true ∧ (ackTarget [1, 6, 10]).ok = false) ∧ LineReady run ∧ FromBox run toPart .own ∧ FromBox run ⟨0, 0, 50⟩ .group ∧
      FromBox run ⟨0, 0, 63⟩ .broadcast := by
  decide +kernel

/-- R122, R128: two records, one that the pair (LAMP_FAIL, 3) names and one that it does not. -/
theorem witness_named_pairs :
    let f := (withFault 1 .barrierFail 3 .activeUnacked (withFault 0 .lampFail 3 .activeUnacked run)).faults
    OneRecordEach f ∧ (∃ r, f.table[(0 : Fin 32)].record = some r ∧ (r.kind.code, r.object) ∈ ([(6, 3)] : List AckPair)) ∧
      ∃ r, f.table[(1 : Fin 32)].record = some r ∧ (r.kind.code, r.object) ∉ ([(6, 3)] : List AckPair) := by
  intro f
  have none : ∀ i : Fin 32, i ≠ 0 → i ≠ 1 → f.table[i].record = none := by decide +kernel
  refine ⟨fun i j r q hi hj hk _ => ?_, ⟨_, rfl, by decide⟩, ⟨_, rfl, by decide⟩⟩
  have two : ∀ m : Fin 32, ∀ x, f.table[m].record = some x → (m = 0 ∧ x.kind = .lampFail) ∨ (m = 1 ∧ x.kind = .barrierFail) := by
    intro m x h
    by_cases h0 : m = 0
    · subst h0
      exact .inl ⟨rfl, by cases h; rfl⟩
    · by_cases h1 : m = 1
      · subst h1
        exact .inr ⟨rfl, by cases h; rfl⟩
      · rw [none m h0 h1] at h
        cases h
  rcases two i r hi with ⟨rfl, a⟩ | ⟨rfl, a⟩ <;> rcases two j q hj with ⟨rfl, b⟩ | ⟨rfl, b⟩ <;> simp_all

theorem witness_ReleasesClearTheLatch :
    (run.part = .run ∧ HostFree run ∧ run.line.link = .active) ∧
      ((linkDown run).line.link ≠ .active ∧ (linkDown run).faults.anyActive .severe = false ∧ HostFree (linkDown run) ∧
        (linkDown run).faults.latch = false ∧ (linkDown run).faults.mode = some (linkDown run).faults.derived) ∧
      (linkDown (withFault 0 .barrierFail 3 .activeUnacked run)).faults.anyActive .severe = true ∧ LineReady run ∧
      FromBox run toPart .own ∧ FromBox run ⟨0, 0, 63⟩ .broadcast := by decide +kernel

/-- A point of the example track in a state of the machine, in RUN. -/
def atPoint (q : HeadSeq) (a b : Bool) : State := run.setPoint 2 fun x => pointIn x q a b ⟨119900, 0⟩

theorem witness_HeadChangesFollowTheWheel :
    State.reset.part = .config ∧
      ((atPoint .ab1 true false).part = .run ∧ (atPoint .ab1 true false).points[(2 : Fin 12)].inService = true ∧
        ¬((atPoint .ab1 true false).tStuck < elapsed (atPoint .ab1 true false).now
          (atPoint .ab1 true false).points[(2 : Fin 12)].leave)) ∧
      (⟨.ab1, false, true, .ab2⟩ ∈ headMoves ∧
        ChangesAlone (atPoint .ab1 true false).points[(2 : Fin 12)] (Window.fill true) (Window.fill true) false true) ∧
      ((atPoint .ab3 false true).points[(2 : Fin 12)].seq = .ab3 ∧
        ChangesAlone (atPoint .ab3 false true).points[(2 : Fin 12)] (Window.fill false) (Window.fill false) false false) ∧
      ((atPoint .ba3 true false).points[(2 : Fin 12)].seq = .ba3 ∧
        ChangesAlone (atPoint .ba3 true false).points[(2 : Fin 12)] (Window.fill false) (Window.fill false) true false) ∧
      ((atPoint .idle false false).points[(2 : Fin 12)].seq ≠ .skew ∧
        (atPoint .idle false false).points[(2 : Fin 12)].accA ≠ (Window.fill true).accepted) ∧
      ((atPoint .skew true true).points[(2 : Fin 12)].seq = .skew ∧ (Window.fill true).accepted = true) ∧
      ((atPoint .ab2 true true).points[(2 : Fin 12)].accA = true ∧ (Window.fill false).accepted = false) := by
  unfold ChangesAlone
  decide +kernel

theorem witness_PointTimersExpire :
    ((stuck 510001).part = .run ∧ (stuck 510001).phase = 0 ∧ (stuck 510001).points[(8 : Fin 12)].inService = true ∧
      (stuck 510001).points[(8 : Fin 12)].seq ≠ .idle ∧ (stuck 510001).tStuck < elapsed (stuck 510001).now
        (stuck 510001).points[(8 : Fin 12)].leave ∧ (stuck 510001).points[(8 : Fin 12)].accB = true ∧
      (stuck 510001).points[(8 : Fin 12)].seq ≠ .skew ∧ (stuck 510001).points[(8 : Fin 12)].headFault = false) ∧
      (((stuck 510001).setPoint 8 fun x => { x with headFault := true }).points[(8 : Fin 12)].headFault = true) ∧
      (((stuck 510001).setPoint 8 fun x => { x with accB := false }).points[(8 : Fin 12)].accA = false ∧
        ((stuck 510001).setPoint 8 fun x => { x with accB := false }).points[(8 : Fin 12)].accB = false) ∧
      (2000 ≤ elapsed 536200 534200 ∧ 10000 ≤ elapsed run.now run.points[(2 : Fin 12)].lastCount ∧
        run.points[(2 : Fin 12)].quietMark = false) := by decide +kernel

/-- TrainEnds as a Bool, for the witness. -/
def trainEnds (s : State) (changed : List (Fin 10)) (k : Fin 4) : Bool :=
  s.slots[k].record.isSome && changed.any (s.inSpan k) &&
    (List.finRange 10).all fun i => !s.inSpan k i || s.sections[i].state == some .clear || s.sections[i].state == some .prepared

theorem trainEnds_iff (s : State) (changed : List (Fin 10)) (k : Fin 4) : TrainEnds s changed k ↔ trainEnds s changed k = true := by
  simp only [TrainEnds, ClearOrPrepared, trainEnds, Bool.and_eq_true, List.any_eq_true, List.all_eq_true, List.mem_finRange,
    true_implies, Bool.or_eq_true, Bool.not_eq_true', beq_iff_eq, ← Option.ne_none_iff_isSome, or_assoc, and_assoc]
  refine and_congr_right fun _ => and_congr_right fun _ => forall_congr' fun i => ?_
  cases s.inSpan k i <;> simp

theorem witness_SectionsCountAxles :
    ((sectionOf 2 3 .island .occupied 1).state = some .occupied ∧ (sectionOf 2 3 .island .occupied 1).count = 1 ∧
      1022 < 1023 ∧ (sectionOf 2 3 .island .clear 0).state = some .clear) ∧
      (run.leaving 2 .aToB = some 1 ∧ run.entering 2 .aToB = some 2) ∧
      (run.sections[(2 : Fin 10)].track = some (trackOfSlot 0) ∧ run.sections[(2 : Fin 10)].role = .island ∧
        ∀ m : Fin 10, m < 2 → ¬(run.sections[m].track = some (trackOfSlot 0) ∧ run.sections[m].role = .island)) ∧
      (TrainEnds (withRecord (closed 1000) run) [0] 0 ∧ ∀ j : Fin 4, j ≠ 0 → ¬TrainEnds (withRecord (closed 1000) run) [0] j) ∧
      ¬TrainEnds (withRecord (closed 1000) run) [3] 0 ∧
      (let s := (withRecord (closed 1000) run).setRecord 1 (some (closed 1000))
      ([0, 1] : List (Fin 4)).Pairwise (· < ·) ∧ (∀ k : Fin 4, k ∈ ([0, 1] : List (Fin 4)) ↔ TrainEnds s [2] k) ∧
        2 ≤ ([0, 1] : List (Fin 4)).length) ∧
      (withRecord (closed 1000) run).slots[(0 : Fin 4)].record = some (closed 1000) := by
  simp only [trainEnds_iff]
  decide +kernel

theorem witness_TrainTimersExpire :
    ((withRecord (waiting 120000) run).part = .run ∧
      (withRecord (waiting 120000) run).slots[(0 : Fin 4)].record = some (waiting 120000) ∧
      (waiting 120000).committed = false ∧ (waiting 120000).startTimer = some 120000 ∧ atOrBefore 120000 run.now = true) ∧
      ((closed 1000).committed = true ∧ (closed 1000).phase = .approaching ∧ (closed 1000).longMark = false ∧
        (closed 1000).commitTime = some 1000 ∧ 65535000 ≤ elapsed 65536000 1000) ∧
      (let s := (withRecord (waiting 200000) run).setSect 2 fun c => { c with state := some .prepared }
      s.inSpan 0 2 = true ∧ s.sections[(2 : Fin 10)].state = some .prepared) ∧
      (∀ i : Fin 10, run.inSpan 0 i = true → run.sections[i].state ≠ some .prepared) ∧
      (run.points[(2 : Fin 12)].track = some .one ∧ run.nearPoint (slotOf .one .aToB) = some 2 ∧
        run.slots[slotOf .one .aToB].record = none ∧ (inState .closed).nearPoint (slotOf .one .aToB) = some 2 ∧
        (inState .amber).nearPoint (slotOf .one .aToB) = some 2) ∧
      (withRecord (arrivedAt (closed 1000) 2000) run).slots[slotOf .one .aToB].record = some (arrivedAt (closed 1000) 2000) ∧
      (arrivedAt (closed 1000) 2000).phase = .arrived := by decide +kernel

/-- R57: the arrival of a train that no point detected before, with the Sequencer in AMBER, is a late closure, state 1. -/
theorem test_late_closure :
    let t := takeAxle 2 .aToB none (inState .amber)
    t.counters[(16 : Fin 32)].value = 1 ∧ (t.slots[(0 : Fin 4)].record.bind TrainRecord.commitCause) = some .arrival ∧
      (t.faults.table[(0 : Fin 32)].record.map fun r => (r.kind, r.object, r.detail)) = some (.lateClosure, 1, 1) := by
  decide +kernel

theorem witness_PredictionsSetTheTimes :
    (0 < 27777 ∧ max 33333 27777 ≠ 27777 ∧ 27777 * 27777 + 2 * 300 * 200000 ≤ 33333 * 33333 ∧
      ¬27777 * 27777 + 2 * 300 * 1200000 ≤ 33333 * 33333) ∧
      (run.sections[(2 : Fin 10)].track = some (trackOfSlot 1) ∧ run.sections[(2 : Fin 10)].role = .island ∧
        ∀ m : Fin 10, m < 2 → ¬(run.sections[m].track = some (trackOfSlot 1) ∧ run.sections[m].role = .island)) ∧
      (run.points[(0 : Fin 12)].track = some .one ∧ run.nearPoint (slotOf .one .aToB) ≠ some 0 ∧
        run.upstream (slotOf .one .aToB) 0 = true ∧ run.slots[slotOf .one .aToB].record = none ∧
        run.upstream (slotOf .one .aToB) 4 = false) ∧
      ((withRecord (waiting 200000) run).slots[(0 : Fin 4)].record = some (waiting 200000) ∧
        (waiting 200000).committed = false ∧ (closed 1000).committed = true ∧ (waiting 200000).phase = .approaching) ∧
      (90000 < run.points[(0 : Fin 12)].spacing * 20000 / 300 ∧ ¬90000 < run.points[(0 : Fin 12)].spacing * 20000 / 1080) := by
  decide +kernel

theorem witness_ClosureMarksAreSet :
    (run.part = .run ∧ run.seq.state = some .roadOpen ∧ { run.seq with openMark := false }.openMark = false ∧
      run.seq.tMinOpen ≤ elapsed run.now run.seq.entry) ∧
      ((inState .amber).seq.state = some .amber ∧ (inState .amber).seq.longBin = false ∧
        480000 ≤ elapsed 480000 (inState .amber).seq.closureStart) ∧
      ((inState .amber).seq.longFlag = false ∧ (inState .amber).seq.tLong < elapsed 300001 (inState .amber).seq.closureStart) := by
  decide +kernel

theorem witness_ClosingRunsItsTimers :
    ((inState .amber).part = .run ∧ (inState .amber).seq.tAmber ≤ elapsed (inState .amber).now (inState .amber).seq.entry) ∧
      ((inState .redWait).seq.state = some .redWait ∧
        (inState .redWait).seq.tPrelower ≤ elapsed (inState .redWait).now (inState .redWait).seq.entry) ∧
      ((inState .lowerEntry).seq.state = some .lowerEntry ∧ reached 120000 (some 120000) = true ∧
        ∀ b : Fin 4, (barriersAt .down (inState .lowerEntry)).barriers[b].configured = true →
          (barriersAt .down (inState .lowerEntry)).barriers[b].role = .entry →
          (barriersAt .down (inState .lowerEntry)).barriers[b].state = some .down ∨
            (barriersAt .down (inState .lowerEntry)).barriers[b].state = some .fault) ∧
      ((inState .redWait).barriers[(0 : Fin 4)].configured = true ∧ (inState .redWait).barriers[(0 : Fin 4)].role = .entry ∧
        (inState .redWait).barriers[(0 : Fin 4)].state = some .heldUp) ∧
      (let s := (barriersAt .down (inState .lowerExit)).setSeq fun q => { q with holdLocal := true }
      s.part = .run ∧ s.seq.state = some .lowerExit ∧ s.demand = true ∧
        ∀ b : Fin 4, s.barriers[b].configured = true → s.barriers[b].role = .exit →
          s.barriers[b].state = some .down ∨ s.barriers[b].state = some .fault) ∧
      ((inState .lowerExit).barriers[(2 : Fin 4)].role = .exit ∧ (inState .lowerExit).barriers[(2 : Fin 4)].state ≠ some .down) ∧
      ((inState .raising).seq.state = some .raising ∧
        ∀ b : Fin 4, (inState .raising).barriers[b].configured = true → (inState .raising).barriers[b].state = some .heldUp) := by
  decide +kernel

/-- R76, R80, R81: the last barrier up opens the road; a counted closure of 130,000 ms goes into bin 28 and its LONG_CLOSURE
ends. -/
theorem test_barrierChanged_opens :
    let s := raise .longClosure 0 0 ((inState .raising).setSeq fun q =>
      { q with closureStart := 4294957296, counted := true, longFlag := true })
    let t := barrierChanged s
    t.seq.state = some .roadOpen ∧ t.counters[(28 : Fin 32)].value = 1 ∧ t.seq.longFlag = false ∧
      (t.faults.table[(0 : Fin 32)].record.map FaultRecord.state) = some .clearedUnacked := by decide +kernel

/-- The hold set holds LOCAL. -/
def held (s : State) : State := s.setSeq fun q => { q with holdLocal := true }

theorem witness_TakingTheDemand :
    (run.seq.state = some .roadOpen ∧ run.demand = false) ∧ (held run).demand = true ∧
      ((inState .raising).seq.state = some .raising ∧ (held (inState .raising)).demand = true) ∧
      ((inState .closed).seq.state = some .closed ∧ (inState .closed).demand = false ∧
        ∀ b : Fin 4, (barriersAt .down (inState .closed)).barriers[b].configured = true →
          (barriersAt .down (inState .closed)).barriers[b].state = some .down) ∧
      guardFinds run.guardMs (withRecord (waiting 120001) run) = true ∧ guardFinds run.guardMs run = false ∧
      guardTakes run.now run.guardMs (withRecord (waiting 120001) run).slots[(0 : Fin 4)] = true := by decide +kernel

/-- R54, R74: the guard time is 5,000 + 12,000 ms; an S at that distance is taken, one beyond it is not. -/
theorem test_guard :
    run.guardMs = 17000 ∧ guardTakes 120000 17000 (withRecord (waiting 137000) run).slots[(0 : Fin 4)] = true ∧
      guardTakes 120000 17000 (withRecord (waiting 137001) run).slots[(0 : Fin 4)] = false := by decide +kernel

theorem witness_FlashesAlternate :
    ((flashing 429795).part = .run ∧ (flashing 429795).lamps.gen = some ⟨.lOn, 429355⟩ ∧
      (flashing 429795).lamps.flash.length .lOn ≤ elapsed (flashing 429795).now 429355) ∧
      (State.reset.part = .config ∧ State.reset.lamps.startUp = some ⟨true, 0⟩ ∧ 500 ≤ elapsed 500 0) := by decide +kernel

theorem witness_LampSamplesAreJudged :
    ((flashing 429415).lamps.lamps[(1 : Fin 10)].enabled = true ∧ (flashing 429415).lamps.lamps[(1 : Fin 10)].lit = true ∧
      (flashing 429415).lamps.lamps[(1 : Fin 10)].litDue = some 429415 ∧ atOrBefore 429415 (flashing 429415).now = true) ∧
      (((flashing 429415).setLamp 2 fun l => { l with darkDue := some 429415 }).lamps.lamps[(2 : Fin 10)].lit = false ∧
        ((flashing 429415).setLamp 2 fun l => { l with darkDue := some 429415 }).lamps.lamps[(2 : Fin 10)].darkDue =
          some 429415 ∧
        ((flashing 429415).setLamp 2 fun l => { l with darkDue := some 429415 }).darkEnding 2 = false) ∧
      ((flashing 429795).setLamps fun d => { d with gen := some ⟨.g1, 429355⟩ }).darkEnding 2 = true ∧
      State.reset.part = .config := by decide +kernel

theorem witness_BarrierContactsMoveTheBarrier :
    State.reset.part = .config ∧
      ((lowering 435100).part = .run ∧ (lowering 435100).barriers[(0 : Fin 4)].configured = true ∧
        (lowering 435100).barriers[(0 : Fin 4)].disturbed = false ∧
        (lowering 435100).barriers[(0 : Fin 4)].state = some .lowering ∧
        (lowering 435100).barriers[(0 : Fin 4)].phase = some .leave) ∧
      (stalled 470300).barriers[(0 : Fin 4)].state = some .raising ∧
      (run.barriers[(0 : Fin 4)].state = some .heldUp ∧ run.barriers[(0 : Fin 4)].dropped = none) ∧
      ((barriersAt .down (inState .closed)).barriers[(0 : Fin 4)].state = some .down ∧
        (barriersAt .down (inState .closed)).barriers[(0 : Fin 4)].lostDown = none) ∧
      run.barriers[(3 : Fin 4)].configured = false ∧ run.barriers[(0 : Fin 4)].disturbed = false ∧
      (let s := withBarrier (fun b => { b.enter .down with disturbed := true }) (inState .closed)
      s.part = .run ∧ s.barriers[(0 : Fin 4)].configured = true ∧ s.barriers[(0 : Fin 4)].state = some .down ∧
        s.barriers[(0 : Fin 4)].disturbed = true) ∧
      (let s := withBarrier (fun b => b.enter .fault) run
      s.part = .run ∧ s.barriers[(0 : Fin 4)].configured = true ∧ s.barriers[(0 : Fin 4)].state = some .fault) := by
  decide +kernel

/-- R103: the inputs of a channel that is not configured take the levels given, whatever its filters last accepted (log
entry 22). -/
theorem test_barrierContactChange_unconfigured :
    let s := (run.setBarrier 3 fun b => { b with up := Filter.full true }).setPins fun i =>
      { i with contacts := Vector.replicate 4 ⟨false, false⟩ }
    (after (.barrierContactChange 3 true false) s).pins.contacts[(3 : Fin 4)] = ⟨true, false⟩ := by decide +kernel

/-- R116: DOWN made again ends BARRIER_DISTURBED. -/
theorem test_barrierContactChange_madeAgain :
    let s := withFault 0 .barrierDisturbed 0 .activeUnacked
      (withBarrier (fun b => { b.enter .down with disturbed := true, lostDown := some 100000 }) (inState .closed))
    let t := after (.barrierContactChange 0 false true) s
    t.barriers[(0 : Fin 4)].disturbed = false ∧ t.barriers[(0 : Fin 4)].lostDown = none ∧
      (t.faults.table[(0 : Fin 32)].record.map FaultRecord.state) = some .clearedUnacked := by decide +kernel

/-- A barrier released in its dropped wait with DOWN made: LOWERING in TRAVEL, its travel limit passed. -/
def fallen : State :=
  withBarrier (fun b => { (b.enter .lowering).startTravel 110000 with up := Filter.full false, down := Filter.full true })
    (inState .lowerEntry)

/-- R107, log entry 23: as the limit passes the pair is judged, and the barrier is DOWN, not in FAULT. -/
theorem test_barrierLimit_down :
    let b := (after (.barrierLimit 0) fallen).barriers[(0 : Fin 4)]
    b.state = some .down ∧ b.phase = none ∧ b.detail = 0 := by decide +kernel

/-- The pairs that a passed limit finds to move the barrier: DOWN made, UP made, both made, and both open in LEAVE. -/
theorem witness_judged_at_a_limit :
    (fallen.part = .run ∧ fallen.barriers[(0 : Fin 4)].state = some .lowering ∧
      fallen.barriers[(0 : Fin 4)].phase = some .travel ∧ fallen.barriers[(0 : Fin 4)].up.accepted = false ∧
      fallen.barriers[(0 : Fin 4)].down.accepted = true ∧
      agedPast fallen.now fallen.barriers[(0 : Fin 4)].phaseStart fallen.barriers[(0 : Fin 4)].lower.travel = true) ∧
      (let s := withBarrier (fun b => { b with up := Filter.full true }) (stalled 470301)
      s.part = .run ∧ s.barriers[(0 : Fin 4)].state = some .raising ∧ s.barriers[(0 : Fin 4)].phase = some .travel ∧
        s.barriers[(0 : Fin 4)].up.accepted = true ∧ s.barriers[(0 : Fin 4)].down.accepted = false ∧
        agedPast s.now s.barriers[(0 : Fin 4)].phaseStart s.barriers[(0 : Fin 4)].raise.travel = true) ∧
      (let s := withBarrier (fun b => { b with up := Filter.full true }) fallen
      s.barriers[(0 : Fin 4)].up.accepted = true ∧ s.barriers[(0 : Fin 4)].down.accepted = true ∧
        agedPast s.now s.barriers[(0 : Fin 4)].phaseStart s.barriers[(0 : Fin 4)].lower.travel = true) ∧
      (let s := withBarrier (fun b => { b with up := Filter.full false }) (lowering 436356)
      s.part = .run ∧ s.barriers[(0 : Fin 4)].state = some .lowering ∧ s.barriers[(0 : Fin 4)].phase = some .leave ∧
        s.barriers[(0 : Fin 4)].up.accepted = false ∧ s.barriers[(0 : Fin 4)].down.accepted = false ∧
        agedPast s.now s.barriers[(0 : Fin 4)].motionStart s.barriers[(0 : Fin 4)].lower.leave = true ∧
        agedPast s.now s.barriers[(0 : Fin 4)].motionStart s.barriers[(0 : Fin 4)].lower.total = false) := by decide +kernel

theorem witness_BarrierFaultsAreTaken :
    (∃ m : MotionLimits, ∃ base : Nat,
      ((stalled 470301).barriers[(0 : Fin 4)].state = some .raising ∧ m = (stalled 470301).barriers[(0 : Fin 4)].raise ∧ base = 3) ∧
        (stalled 470301).barriers[(0 : Fin 4)].down.accepted = false ∧ (stalled 470301).barriers[(0 : Fin 4)].up.accepted = false ∧
        (stalled 470301).barriers[(0 : Fin 4)].phase = some .travel ∧
        agedPast (stalled 470301).now (stalled 470301).barriers[(0 : Fin 4)].phaseStart m.travel = true ∧ 5 = base + 2) ∧
      (∃ m : MotionLimits,
        m = (lowering 436356).barriers[(0 : Fin 4)].lower ∧ (lowering 436356).barriers[(0 : Fin 4)].phase = some .leave ∧
          (lowering 436356).barriers[(0 : Fin 4)].up.accepted = true ∧ (lowering 436356).barriers[(0 : Fin 4)].down.accepted = false ∧
          agedPast (lowering 436356).now (lowering 436356).barriers[(0 : Fin 4)].motionStart m.leave = true) ∧
      (let s := withBarrier (fun b => { b with up := Filter.full false, dropped := some 118000 }) run
      s.part = .run ∧ s.barriers[(0 : Fin 4)].state = some .heldUp ∧ s.barriers[(0 : Fin 4)].up.accepted = false ∧
        agedBy s.now s.barriers[(0 : Fin 4)].dropped 2000 = true) :=
  ⟨⟨⟨2000, 10000, 12000⟩, 3, by decide +kernel⟩, ⟨⟨2000, 9000, 10000⟩, by decide +kernel⟩, by decide +kernel⟩

/-- Both total limits of `BarrierFaultsAreTaken`: a barrier still leaving whose total limit alone has passed, and one
travelling whose travel limit has not. -/
theorem witness_total_limits :
    (let s := withBarrier (fun b => { b with lower := ⟨2000, 9000, 1500⟩ }) (lowering 436000)
    s.part = .run ∧ s.barriers[(0 : Fin 4)].state = some .lowering ∧ s.barriers[(0 : Fin 4)].phase = some .leave ∧
      agedPast s.now s.barriers[(0 : Fin 4)].motionStart s.barriers[(0 : Fin 4)].lower.leave = false ∧
      agedPast s.now s.barriers[(0 : Fin 4)].motionStart s.barriers[(0 : Fin 4)].lower.total = true) ∧
      (let s := withBarrier (fun b => { b with phaseStart := some 462000 }) (stalled 471800)
      s.part = .run ∧ s.barriers[(0 : Fin 4)].state = some .raising ∧ s.barriers[(0 : Fin 4)].phase = some .travel ∧
        agedPast s.now s.barriers[(0 : Fin 4)].phaseStart s.barriers[(0 : Fin 4)].raise.travel = false ∧
        agedPast s.now s.barriers[(0 : Fin 4)].motionStart s.barriers[(0 : Fin 4)].raise.total = true) := by decide +kernel

theorem witness_BarriersSettleOrAreDisturbed :
    let s := withBarrier (fun b => { b.enter .fault with settled := some 118000 }) run
    let u := withBarrier (fun b => { b.enter .down with lostDown := some 118000 }) run
    (s.part = .run ∧ s.barriers[(0 : Fin 4)].state = some .fault ∧ s.barriers[(0 : Fin 4)].settled = some 118000 ∧
      2000 ≤ elapsed s.now 118000) ∧
      (u.barriers[(0 : Fin 4)].state = some .down ∧ u.barriers[(0 : Fin 4)].down.accepted = false ∧
        u.barriers[(0 : Fin 4)].disturbed = false ∧ u.barriers[(0 : Fin 4)].lostDown = some 118000) := by decide +kernel

theorem witness_SupplyInputsRaiseAndEnd :
    State.reset.part = .config ∧ run.part = .run ∧ (run.supply.filter .mains).accepted = true ∧
      (run.supply.filter .mains).accepted = !false := by decide +kernel

theorem witness_BeaconsDriveTheLink :
    (LineReady run ∧ run.line.own ≠ some 0) ∧
      ((linkAt .lost 1 none none).line.link = .lost ∧
        agedPast 135000 (some 130000) (2 * run.line.beaconMs) = true ∧
        agedPast 102850 (some 100850) (2 * run.line.beaconMs) = false) ∧
      ((run.line.addressing 17).isSome = true ∧ run.line.own ≠ some 0 ∧ (17 : BitVec 6) ≠ 63) ∧
      ((linkAt .active 112851 none (some 106850)).line.lastBeacon = some 106850 ∧
        3 * (linkAt .active 112851 none (some 106850)).line.beaconMs < elapsed 112851 106850) := by decide +kernel

theorem witness_CommandFramesAreTaken :
    (LineReady run ∧ run.line.link = .active ∧ toPart.src = 0 ∧ run.line.own ≠ some 0 ∧
      run.line.addressing toPart.dest = some .own) ∧
      run.line.addressing 50 = some .group ∧ run.line.addressing 63 = some .broadcast ∧
      ((0x09 : Byte) ∉ boxKinds ∧ countFits [1] = false) ∧
      ((3 : BitVec 6) ≠ 0 ∧ run.line.own ≠ some 3) := by decide +kernel

theorem witness_BadLineFramesAreCounted :
    (LineReady run ∧ run.line.assembly = [] ∧ run.line.headBits = []) ∧ 64 ≤ (64 : Byte).toNat ∧
      ((17 : Byte).toNat < 64 ∧ 24 < (25 : Byte).toNat) ∧
      ([(0 : Byte), 0].length = (0 : Byte).toNat + 2 ∧
        crcBytes ([(0 : Byte), 17, 0, 2] ++ [(0 : Byte), 0].take 0) ≠ [(0 : Byte), 0].drop 0) ∧
      ((run.setLine fun l => { l with rx := .assembling }).line.rx = .assembling ∧
        (run.setLine fun l => { l with rx := .skipping, quiet := 21 }).line.rx = .skipping ∧
        (run.setLine fun l => { l with rx := .skipping, quiet := 21 }).line.inFlight = none ∧
        20 < (run.setLine fun l => { l with rx := .skipping, quiet := 21 }).line.quiet) ∧
      [(0xF3 : Byte)].getLast? = some 0xF3 ∧ lineFrameOf (.poll toPart []) = some (toPart, 0x02, []) ∧
      State.reset.part = .config := by decide +kernel

theorem witness_FramesForOthersGoNoFurther :
    (LineReady run ∧ run.line.own = some 17) ∧ (run.line.own ≠ some 9 ∧ run.line.addressing 0 = none) ∧
      ((run.line.addressing 17).isSome = true ∧ LineReady (linkAt .lost 118000 none none) ∧
        (linkAt .lost 118000 none none).line.link ≠ .active) ∧
      (let s := after .arbitrationLost (sending 2)
      s.part = .run ∧ s.line.rx = .assembling ∧ s.line.inFlight = none ∧ s.line.assembly = [] ∧
        s.line.headBits = (bitsOfByte (byte (64 * toPart.cls.toNat + toPart.src.toNat))).take 2 ∧
        ∃ t, exec (.poll toPart []) { s with line := { s.line with rx := .idle, headBits := [] } } = .next t) := by
  refine ⟨by decide +kernel, by decide +kernel, by decide +kernel, by decide +kernel, by decide +kernel, by decide +kernel,
    by decide +kernel, by decide +kernel, _, rfl⟩

theorem witness_LineFramesAreStartedAndCompleted :
    ((alarmWait 8).part = .run ∧ (alarmWait 8).line.link = .active ∧ (alarmWait 8).line.rx = .idle ∧
      (alarmWait 8).line.inFlight = none ∧ (alarmWait 8).line.wait = some .alarm ∧
      (alarmWait 8).line.raisedAlarm = false ∧ 8 ≤ (alarmWait 8).line.quiet ∧
      ((alarmWait 8).content .alarm).isSome = true) ∧
      (∃ i : Fin 32, dueIn (withFault 0 .lampFail 3 .activeUnacked run) (fun k => k != .severe) i = true) ∧
      (run.content .alarm = none ∧ (sending 80).part = .run ∧
        (sending 80).line.inFlight = some ⟨.state, 0x43, [2, 0], frameChars .state 17 0x43 [2, 0], 80, true⟩ ∧
        10 * (frameChars .state 17 0x43 [2, 0]).length ≤ 80) := by decide +kernel

theorem witness_LostFramesStayDue :
    (∃ f, (sending 2).part = .run ∧ (sending 2).line.inFlight = some f ∧ f.begun = true ∧ f.sent < 9 ∧ f.bit = true) ∧
      (∃ f, (sending 9).line.inFlight = some f ∧ f.begun = true ∧ f.sent = 9 ∧ f.bit = true) ∧
      (∃ f, (sending 12).line.inFlight = some f ∧ f.begun = true ∧ f.sent < 10 * f.chars.length ∧ 10 ≤ f.sent) ∧
      (∃ f, (sending 1).line.inFlight = some f ∧ f.begun = true ∧ f.sent < 10 * f.chars.length ∧ f.bit = false) ∧
      ((asked 0).part = .run ∧ (asked 0).line.rx = .idle ∧ ∃ f, (asked 0).line.inFlight = some f ∧ f.begun = false) ∧
      lineFrameOf (.poll toPart []) = some (toPart, 0x02, []) := by
  refine ⟨⟨_, rfl, rfl, rfl, ?_⟩, ⟨_, rfl, rfl, ?_⟩, ⟨_, rfl, rfl, ?_⟩, ⟨_, rfl, rfl, ?_⟩, ⟨rfl, rfl, _, rfl, rfl⟩, rfl⟩ <;>
    decide +kernel

theorem witness_ReportTimersExpire :
    (run.part = .run ∧ run.line.link = .active ∧
      (run.setReports fun r => { r with healthTimer := some 120000 }).reports.healthTimer = some 120000 ∧
      atOrBefore 120000 run.now = true) ∧
      ((reported 130000).faults.table[(0 : Fin 32)].forced = false ∧
        (reported 130000).faults.table[(0 : Fin 32)].carried = none ∧
        (reported 130000).line.tRepeat * 1000 ≤ elapsed 130000 100000) ∧
      65535000 ≤ elapsed 65635000 100000 := by decide +kernel

theorem witness_AccessWaitFollowsTheContent : run.part = .run ∧ State.reset.part = .config := by decide

theorem witness_RaisesAndEndsChangeOneRecord :
    ((withFault 0 .barrierFail 3 .activeUnacked run).faults.find .barrierFail 3 = some 0 ∧
      (withFault 0 .barrierFail 3 .activeUnacked run).faults.table[(0 : Fin 32)].record.isSome = true ∧
      FaultKind.barrierFail.isEvent = false) ∧
      (FaultKind.barrierFail ≠ .tableFull ∧ run.faults.find .barrierFail 3 = none ∧
        run.faults.table[(0 : Fin 32)].record = none ∧ ∀ j : Fin 32, j < 0 → run.faults.table[j].record.isSome = true) ∧
      FaultKind.overspeed.isEvent = true ∧
      (nearlyFull.faults.find .barrierDisturbed 0 = some 0 ∧ nearlyFull.faults.find .barrierFail 0 = none ∧
        (∀ j : Fin 32, j < 0 → nearlyFull.faults.table[j].record.isSome = true) ∧
        (nearlyFull.faults.table[(31 : Fin 32)].record.map FaultRecord.state) = some .activeUnacked ∧
        (allGeneral.filter fun j => nearlyFull.faults.table[j].record.isNone).length ≤ 3) ∧
      (run.faults.table[(31 : Fin 32)].record = none ∧ FaultKind.barrierFail ≠ .tableFull ∧
        run.faults.find .barrierFail 0 ≠ some 31) := by decide +kernel

/-- The table that `RaisesAndEndsChangeOneRecord` asks R122 of. -/
theorem witness_RecordsUnique : RecordsUnique run := by
  have empty : ∀ i : Fin 32, run.faults.table[i].record = none := by decide +kernel
  refine ⟨fun i j r q h => ?_, fun i r h => ?_⟩ <;> (rw [empty i] at h; cases h)

/-- A table without a free general slot: slot 4 is LINK_LOST and slot 5 a lamp's, both ended if `cleared`. -/
def fullTable (cleared : Bool) : State :=
  run.setFaults fun f => { f with
    table := Vector.ofFn fun i =>
      if i = 31 then FaultSlot.empty
      else if i = 4 then
        ⟨some ⟨.linkLost, 0, .notice, if cleared then .clearedUnacked else .activeAcked, 0, 1, 90000, 90000, none, none⟩,
          false, none, false⟩
      else
        ⟨some ⟨.lampFail, i.val, .minor, if cleared && i = 5 then .clearedUnacked else .activeAcked, 1, 1, 80000, 80000,
          none, none⟩, false, none, false⟩ }

theorem witness_full_tables :
    ((fullTable true).faults.find .barrierFail 3 = none ∧
      (∀ j : Fin 32, j ≠ 31 → (fullTable true).faults.table[j].record.isSome = true) ∧
      EarliestCleared (fullTable true) .notice 4) ∧
      ((fullTable false).faults.find .barrierFail 3 = none ∧
        ∀ j : Fin 32, j ≠ 31 → (fullTable false).faults.table[j].record.isSome = true ∧
          clearedOf (fullTable false) .notice j = false ∧ clearedOf (fullTable false) .minor j = false) ∧
      run.faults.mode = some run.faults.derived ∧
      (withFault 0 .barrierFail 3 .activeUnacked run).faults.derived = .auto ∧
      (withFault 0 .lampFail 3 .activeUnacked run).faults.mode ≠
        some (withFault 0 .lampFail 3 .activeUnacked run).faults.derived := by
  unfold EarliestCleared Before
  decide +kernel

/-- R124, R125: the ended NOTICE makes room before the ended MINOR; with neither the raise is lost to TABLE_FULL. -/
theorem test_fault_replaced_or_lost :
    ((raise .barrierFail 3 5 (fullTable true)).faults.table[(4 : Fin 32)].record.map FaultRecord.kind) = some .barrierFail ∧
      ((raise .barrierFail 3 5 (fullTable false)).faults.table[(31 : Fin 32)].record.map fun r => (r.kind, r.detail)) =
        some (.tableFull, 9) := by decide +kernel

/-! The rules of the whole part hold of the state after a reset, and some of the states above meet them in RUN. -/

theorem witness_RedsFlashWhileBarriersMove : BarrierOutputs run ∧ RedsFlash run ∧ BarriersUpWhenOpen run := by
  unfold BarrierOutputs RedsFlash BarriersUpWhenOpen Barrier.OutputsMatch
  refine ⟨fun b => ?_, by decide +kernel, by decide +kernel⟩
  have : b = 0 ∨ b = 1 ∨ b = 2 ∨ b = 3 := by omega
  rcases this with rfl | rfl | rfl | rfl <;> exact ⟨rfl, rfl⟩

theorem witness_CountersOnlyRise :
    CountersBounded run ∧ frameOf .openMark = none ∧ (∀ kind tag payload, ¬Brings .openMark run kind tag payload) ∧
      (∀ kind tag payload, Brings (.hostGap (hostFrame 0x02 7 [])) run kind tag payload → kind = 0x02) ∧
      ¬Clears 13 0x24 [12, 1, 1] ∧ Clears 12 0x24 [12, 1, 1] := by
  refine ⟨by unfold CountersBounded; decide +kernel, rfl, ?_, ?_, ?_, ⟨rfl, 12, 1, rfl, by decide⟩⟩
  · rintro kind tag payload (h | ⟨bytes, ⟨e, h⟩ | h, -⟩) <;> cases h
  · rintro kind tag payload (h | ⟨bytes, ⟨e, h⟩ | h, hf⟩)
    · cases h
    · cases h
    · cases h
      have found : (scanHost (run.host.assembly ++ hostFrame 0x02 7 []).length (run.host.assembly ++ hostFrame 0x02 7 [])).1 =
          [.frame 0x02 7 []] := by decide +kernel
      rw [found, List.mem_singleton] at hf
      cases hf
      rfl
  · rintro ⟨-, first, count, h, h1, h2⟩
    cases h
    exact absurd h2 (by decide)

theorem witness_LineIsSilentUnlessActive : SilentUnlessActive run ∧ SilentUnlessActive (sending 3) := by
  unfold SilentUnlessActive
  decide +kernel

theorem witness_RecordMemoryKeepsItsLaws : LayoutFits run ∧ PassagesFit run ∧ NoticesFit run := by
  refine ⟨by unfold LayoutFits; decide +kernel, ⟨?_, by decide +kernel, by decide +kernel⟩, by unfold NoticesFit; decide +kernel⟩
  intro k r h
  have : run.slots[k].record = none := by
    have : k = 0 ∨ k = 1 ∨ k = 2 ∨ k = 3 := by omega
    rcases this with rfl | rfl | rfl | rfl <;> rfl
  rw [this] at h
  cases h

/-- The log of 8 granules with 23 records, the next of which makes it 3 × L. -/
def nearlyLevel : State := { run with memory := { run.memory with
  layout := ⟨8, 4, 4⟩, nextSeq := 23, armed := true, log := List.replicate 23 ⟨0, 0, .mode, 0, []⟩ } }

theorem witness_a_record_written :
    State.reset.part = .config ∧ nearlyLevel.part = .run ∧ nearlyLevel.memory.armed = true ∧
      (nearlyLevel.memory.append 120000 .mode 0 []).log.length = 3 * nearlyLevel.memory.layout.log := by decide +kernel

theorem witness_LogNumbered : LogNumbered run := by
  refine ⟨by decide +kernel, by decide +kernel, ?_⟩
  intro i h
  exact absurd h (Nat.not_lt_zero i)

theorem witness_FaultTableKeepsItsLaws :
    SequencerInRun run ∧ ModeDerived run ∧ RecordsUnique run ∧ RecordsFit run ∧
      ({ run with faults := { run.faults with latch := true, mode := some .failed } }).part = .run := by
  have empty : ∀ i : Fin 32, run.faults.table[i].record = none := by decide +kernel
  refine ⟨by unfold SequencerInRun; decide +kernel, by unfold ModeDerived; decide +kernel, ⟨?_, ?_⟩, ?_, rfl⟩
  · intro i j r q h
    rw [empty i] at h
    cases h
  · intro i r h
    rw [empty i] at h
    cases h
  · intro i r h
    rw [empty i] at h
    cases h

theorem witness_RoadIsOpenOnlyWithoutDemand :
    SequencerInRun run ∧ ModeDerived run ∧ SectionsLive run ∧ RoadOpenOnlyUndemanded run ∧ run.seq.state = some .roadOpen := by
  refine ⟨by unfold SequencerInRun; decide +kernel, by unfold ModeDerived; decide +kernel,
    by unfold SectionsLive; decide +kernel, by unfold RoadOpenOnlyUndemanded; decide +kernel, rfl⟩

theorem witness_SectionsAndTrainsKeepTheirLaws :
    SectionCounts (withRecord (waiting 200000) idle) ∧ RecordsConsistent (withRecord (waiting 200000) idle) ∧
      StartsAhead (withRecord (waiting 200000) idle) ∧ dueCommands (withRecord (waiting 200000) idle) = [] := by
  have only : ∀ (k : Fin 4) (r : TrainRecord), (withRecord (waiting 200000) idle).slots[k].record = some r →
      r = waiting 200000 := by
    intro k r h
    have : k = 0 ∨ k = 1 ∨ k = 2 ∨ k = 3 := by omega
    rcases this with rfl | rfl | rfl | rfl
    · exact (Option.some.inj h).symm
    all_goals cases h
  refine ⟨by unfold SectionCounts; decide +kernel, fun k r h => ?_, fun k r h => ?_, by decide +kernel⟩
  · rw [only k r h]
    decide +kernel
  · rw [only k r h]
    refine ⟨rfl, fun _ w hw => ?_⟩
    cases hw
    decide +kernel

theorem witness_ConfigurationStandsInRun :
    (∀ (bytes : List Byte) (tag : Byte), (∃ e, Instr.localHold 1 [1] = .hostFrameDiscarded bytes e) ∨
        Instr.localHold 1 [1] = .hostGap bytes →
      HostEvent.frame 0x1F tag [0] ∉ (scanHost (run.host.assembly ++ bytes).length (run.host.assembly ++ bytes)).1) ∧
      (∀ (bytes : List Byte) (tag : Byte), (∃ e, Instr.hostGap [0x5A] = .hostFrameDiscarded bytes e) ∨
          Instr.hostGap [0x5A] = .hostGap bytes →
        HostEvent.frame 0x1F tag [0] ∉ (scanHost (run.host.assembly ++ bytes).length (run.host.assembly ++ bytes)).1) ∧
      run.part = .run ∧ (after (.localHold 1 [1]) run).part = .run ∧ (after (.hostGap [0x5A]) run).part = .run := by
  refine ⟨fun bytes tag h => ?_, fun bytes tag h => ?_, by decide +kernel⟩
  · rcases h with ⟨e, h⟩ | h <;> cases h
  · rcases h with ⟨e, h⟩ | h
    · cases h
    · cases h
      have found : (scanHost (run.host.assembly ++ [0x5A]).length (run.host.assembly ++ [0x5A])).1 = [] := by decide +kernel
      rw [found]
      exact List.not_mem_nil

end Sys2Proof.Tests
end

section
/-! PROOFS. The host's requests as the Host Port takes them (R195), and the requests that set the points and the times. -/

namespace Sys2Proof.Machine

/-! ### A request that the Host Port is free to take -/

/-- The state as a host frame that has arrived whole leaves it, before its tests. -/
def State.frameIn (s : State) : State := s.setHost fun h => { h with assembly := [], rxLast := s.now }

theorem frameIn_only (s : State) : Only [.port] s s.frameIn := by
  intro b hb; cases b <;> simp_all [Same, State.configuration, State.frameIn]

theorem Request.ofCode_code (q : Request) : Request.ofCode q.code = some q := by cases q <;> decide

/-- The reply of R195 to a request that the tests let through. -/
def State.replied (u : State) (kind tag : Byte) (payload : List Byte) : State :=
  u.setHost fun h => { h with reply := some ⟨kind + 0x80, tag, payload, false⟩ }

theorem replied_only (u : State) (kind tag : Byte) (payload : List Byte) :
    Only [.port] u (u.replied kind tag payload) := by
  intro b hb; cases b <;> simp_all [Same, State.configuration, State.replied]

/-- The tests of R195 let a request through to its service. -/
theorem takeRequest_eq_placeReply {q : Request} {tag : Byte} {payload : List Byte} {s : State} (free : HostFree s)
    (length : q.lengthOk payload = true) (allowed : q.allowedIn s.part = true) :
    takeRequest q.code tag payload s = placeReply q.code tag (serve q payload s) := by
  obtain ⟨reply, collided, warm⟩ := free
  simp [takeRequest, testRequest, HostPort.replyWaits, reply, collided, warm, Request.ofCode_code, length, allowed]

theorem takeFrame_eq_placeReply {q : Request} {tag : Byte} {payload : List Byte} {s : State} (free : HostFree s)
    (fits : payload.length ≤ 248) (length : q.lengthOk payload = true) (allowed : q.allowedIn s.part = true) :
    takeFrame q.code tag payload s = placeReply q.code tag (serve q payload s.frameIn) := by
  unfold takeFrame
  rw [if_pos fits]
  exact takeRequest_eq_placeReply (s := s.frameIn) free length allowed

/-- A request that is carried out and answered OK, its effect staying off the port's own registers. -/
theorem accepts_of_serve {c : Instr} {q : Request} {tag : Byte} {payload extra : List Byte} {bs : List Block}
    {s u : State} (row : exec c s = .next (takeFrame q.code tag payload s)) (free : HostFree s)
    (fits : payload.length ≤ 248) (length : q.lengthOk payload = true) (allowed : q.allowedIn s.part = true)
    (served : serve q payload s.frameIn = answer .ok extra u) (frame : Only bs s.frameIn u) (off : .port ∉ bs) :
    Accepts c q.code tag extra bs s (u.replied q.code tag (0 :: extra)) := by
  have ports : u.host.ports = s.frameIn.host.ports := frame .port off
  simp only [HostPort.ports, HostPort.mk.injEq] at ports
  obtain ⟨-, -, -, collided, tx, -, -, warm⟩ := ports
  refine ⟨?_, ⟨rfl, collided, tx, warm⟩, ?_⟩
  · rw [row, takeFrame_eq_placeReply free fits length allowed, served]
    rfl
  · refine ((frameIn_only s).mono (by simp)).trans ((frame.mono (by simp +contextual)).trans ?_)
    exact (replied_only _ _ _ _).mono (by simp)

/-- A request that is answered with a result and changes nothing. -/
theorem refuses_of_serve {c : Instr} {q : Request} {tag : Byte} {payload : List Byte} {r : Result} {s : State}
    (row : exec c s = .next (takeFrame q.code tag payload s)) (free : HostFree s) (fits : payload.length ≤ 248)
    (length : q.lengthOk payload = true) (allowed : q.allowedIn s.part = true)
    (served : serve q payload s.frameIn = answer r [] s.frameIn) : Refuses c q.code tag r s := by
  refine ⟨s.frameIn.replied q.code tag [byte r.code], ?_, ⟨rfl, rfl, rfl, rfl⟩, ?_⟩
  · rw [row, takeFrame_eq_placeReply free fits length allowed, served]
    rfl
  · exact (frameIn_only s).trans (replied_only _ _ _ _)

/-! ### Fields (R207) -/

theorem fieldIndex_byte {n i : Nat} (h : i < 256) :
    fieldIndex n (byte i) = if lt : i < n then some ⟨i, lt⟩ else none := by
  have e : (byte i).toNat = i := by rw [byte_toNat]; omega
  simp [fieldIndex, e]

theorem fieldTrackOrNone_byte {t : Nat} (h : t < 256) :
    fieldTrackOrNone (byte t) = if t ≤ 2 then some (trackOfCode t) else none := by
  have e : (byte t).toNat = t := by rw [byte_toNat]; omega
  have zero : byte t = 0 ↔ t = 0 := by
    rw [← BitVec.toNat_inj, e]; rfl
  unfold fieldTrackOrNone fieldTrack
  rw [e]
  by_cases h0 : t = 0
  · subst h0; rfl
  by_cases h1 : t = 1
  · subst h1; rfl
  by_cases h2 : t = 2
  · subst h2; rfl
  have big : ¬ t ≤ 2 := by omega
  rw [if_neg (mt zero.1 h0), if_neg big]
  split <;> simp_all

theorem within_iff {lo hi n : Nat} : within lo hi n = true ↔ lo ≤ n ∧ n ≤ hi := by simp [within]

/-! ### CONFIG_POINT (R1) -/

theorem setPoint_config_only (s : State) (p : Fin 12) (f : Point → Point) :
    Only [.points, .config] s (s.setPoint p f) := by
  intro b hb; cases b <;> simp_all [Same]

/-- CONFIG_POINT's payload as its fields spell it. -/
theorem setPointConfig_bytes {p t d : Nat} {x : Int} (s : State) (hp : p < 256) (ht : t < 256) (hd : d < 65536)
    (hx : -2147483648 ≤ x) (hx' : x < 2147483648) :
    setPointConfig ([byte p, byte t] ++ be32 (BitVec.ofInt 32 x).toNat ++ be16 d) s =
      if h : p < 12 ∧ t ≤ 2 ∧ -5000000 ≤ x ∧ x ≤ 5000000 ∧ 200 ≤ d ∧ d ≤ 2500 then
        some (s.setPoint ⟨p, h.1⟩ fun y => { y with track := trackOfCode t, position := x, spacing := d })
      else none := by
  simp only [be32, be16, List.cons_append, List.nil_append, setPointConfig]
  rw [rd32_be32 _ (BitVec.isLt _), signed32_ofInt x hx hx', rd16_be16 d hd, fieldIndex_byte hp,
    fieldTrackOrNone_byte ht]
  by_cases h : p < 12
  · by_cases h2 : t ≤ 2
    · simp [h, h2, within, and_assoc]
      rfl
    · simp [h, h2]
  · simp [h]

/-- Settles O8: the payload's fields are read back, so the range test is the obligation's own. -/
theorem configPointSetsThePoint : Obligations.ConfigPointSetsThePoint := by
  unfold Obligations.ConfigPointSetsThePoint
  intro p t d x tag s hp ht hd hx hx' config free
  have allowed : Request.configPoint.allowedIn s.part = true := by rw [config]; rfl
  have bytes := setPointConfig_bytes s.frameIn hp ht hd hx hx'
  dsimp only
  split
  · next ok =>
    rw [dif_pos ok] at bytes
    refine ⟨_, accepts_of_serve (q := .configPoint) rfl free (by simp [be16, be32]) rfl allowed
      (congrArg (configured · s.frameIn) bytes) (setPoint_config_only _ _ _) (by decide), fun q => ?_⟩
    simp only [State.replied, State.frameIn, State.setHost_points, State.setPoint_points, Fin.getElem_fin,
      upd_getElem, eq_comm]
  · next bad =>
    rw [dif_neg bad] at bytes
    exact refuses_of_serve (q := .configPoint) rfl free (by simp [be16, be32]) rfl allowed
      (congrArg (configured · s.frameIn) bytes)

/-! ### CONFIG_TIMING (R2, R41, R63) -/

/-- The seven times lie in their ranges. -/
abbrev TimesOk (stuck rwt amber prelower exitDelay minOpen long : Nat) : Prop :=
  (2000 ≤ stuck ∧ stuck ≤ 30000) ∧ (15000 ≤ rwt ∧ rwt ≤ 90000) ∧ (2000 ≤ amber ∧ amber ≤ 6000) ∧
    (2000 ≤ prelower ∧ prelower ≤ 10000) ∧ (exitDelay = 0 ∨ (2000 ≤ exitDelay ∧ exitDelay ≤ 15000)) ∧
    minOpen ≤ 30000 ∧ (60000 ≤ long ∧ long ≤ 900000)

/-- The seven times set together. -/
def State.setTimes (s : State) (stuck rwt amber prelower exitDelay minOpen long : Nat) : State :=
  { s with tStuck := stuck, rwt := rwt }.setSeq fun q =>
    { q with tAmber := amber, tPrelower := prelower, tExitDelay := exitDelay, tMinOpen := minOpen, tLong := long }

theorem setTimes_only (s : State) (stuck rwt amber prelower exitDelay minOpen long : Nat) :
    Only [.seq, .times, .config] s (s.setTimes stuck rwt amber prelower exitDelay minOpen long) := by
  intro b hb; cases b <;> simp_all [Same, State.setTimes]

/-- CONFIG_TIMING's payload as its fields spell it. -/
theorem setTimingConfig_bytes {stuck rwt amber prelower exitDelay minOpen long : Nat} (s : State)
    (h1 : stuck < 65536) (h2 : rwt < 4294967296) (h3 : amber < 65536) (h4 : prelower < 65536)
    (h5 : exitDelay < 65536) (h6 : minOpen < 65536) (h7 : long < 4294967296) :
    setTimingConfig
        (be16 stuck ++ be32 rwt ++ be16 amber ++ be16 prelower ++ be16 exitDelay ++ be16 minOpen ++ be32 long) s =
      if TimesOk stuck rwt amber prelower exitDelay minOpen long then
        some (s.setTimes stuck rwt amber prelower exitDelay minOpen long)
      else none := by
  simp only [be32, be16, List.cons_append, List.nil_append, setTimingConfig, State.setTimes]
  rw [rd16_be16 _ h1, rd32_be32 _ h2, rd16_be16 _ h3, rd16_be16 _ h4, rd16_be16 _ h5, rd16_be16 _ h6, rd32_be32 _ h7]
  simp only [within, TimesOk, Bool.and_eq_true, Bool.or_eq_true, decide_eq_true_eq, beq_iff_eq, and_assoc,
    Nat.zero_le, true_and]

/-- Settles O11: the seven fields are read back and tested together. -/
theorem configTimingSetsTheTimes : Obligations.ConfigTimingSetsTheTimes := by
  unfold Obligations.ConfigTimingSetsTheTimes
  intro stuck rwt amber prelower exitDelay minOpen long tag s h1 h2 h3 h4 h5 h6 h7 config free
  have allowed : Request.configTiming.allowedIn s.part = true := by rw [config]; rfl
  have bytes := setTimingConfig_bytes s.frameIn h1 h2 h3 h4 h5 h6 h7
  dsimp only
  split
  · next ok =>
    rw [if_pos ok] at bytes
    exact ⟨_, accepts_of_serve (q := .configTiming) rfl free (by simp [be16, be32]) rfl allowed
      (congrArg (configured · s.frameIn) bytes) (setTimes_only _ _ _ _ _ _ _ _) (by decide), rfl, rfl, rfl⟩
  · next bad =>
    rw [if_neg bad] at bytes
    exact refuses_of_serve (q := .configTiming) rfl free (by simp [be16, be32]) rfl allowed
      (congrArg (configured · s.frameIn) bytes)

end Sys2Proof.Machine
end

section
/-! PROOFS. The cold reset, by the RESET input and by RESTART COLD, and the values it leaves (R204). -/

namespace Sys2Proof.Machine

/-- A RESTART COLD that the port is free to take resets the part at once and leaves no reply (R204). -/
theorem exec_restartCold (tag : Byte) {s : State} (free : HostFree s) :
    exec (.restartCold tag [0]) s = .next (coldStart s) := by
  have taken := takeFrame_eq_placeReply (q := .restart) (tag := tag) (payload := [0]) free (by decide) rfl rfl
  exact congrArg Host.Outcome.next taken

/-- Settles O3: both resets are `coldStart`, whose tables hold one value in every entry. -/
theorem resetsLeaveTheColdState : Obligations.ResetsLeaveTheColdState := by
  unfold Obligations.ResetsLeaveTheColdState
  refine ⟨fun l h s => rfl, fun tag s free => exec_restartCold tag free,
    fun v s => ⟨_, rfl, rfl, setPins_only _ _⟩, rfl, rfl, rfl, rfl, fun p => ?_, fun i => ?_, fun k => ?_, rfl, rfl, rfl,
    rfl, fun c => ?_, fun b => ?_, rfl, rfl, fun i => ?_, rfl, rfl, rfl, rfl, rfl, rfl, fun i => ?_, rfl, rfl⟩
  · simp [State.reset, Point.cold]
  · simp [State.reset, Sect.cold]
  · simp [State.reset, Slot.cold]
  · simp [State.reset, LampDriver.cold, Lamp.cold]
  · simp [State.reset, Barrier.cold]
  · simp [State.reset, FaultManager.cold, FaultSlot.empty]
  · simp [State.reset]

end Sys2Proof.Machine
end

section
/-! PROOFS. The idle step (log entry 1): the head tick, block by block, and the pick among the events that are due. -/

namespace Sys2Proof.Machine

/-! ### Reading a frame -/

section
variable {bs : List Block} {s t : State} (h : Only bs s t)
include h

theorem Only.part_eq (off : .part ∉ bs) : t.part = s.part := h .part off
theorem Only.clock_eq (off : .clock ∉ bs) : t.now = s.now ∧ t.phase = s.phase ∧ t.sample10 = s.sample10 := h .clock off
theorem Only.straps_eq (off : .straps ∉ bs) : t.lrate = s.lrate ∧ t.hrate = s.hrate := h .straps off
theorem Only.pins_eq (off : .pins ∉ bs) : t.pins = s.pins := h .pins off
theorem Only.points_eq (off : .points ∉ bs) : t.points = s.points := h .points off
theorem Only.sections_eq (off : .sections ∉ bs) : t.sections = s.sections := h .sections off
theorem Only.slots_eq (off : .slots ∉ bs) : t.slots = s.slots := h .slots off
theorem Only.lamps_eq (off : .lamps ∉ bs) : t.lamps = s.lamps := h .lamps off
theorem Only.barriers_eq (off : .barriers ∉ bs) : t.barriers = s.barriers := h .barriers off
theorem Only.faults_eq (off : .faults ∉ bs) : t.faults = s.faults := h .faults off
theorem Only.supply_eq (off : .supply ∉ bs) : t.supply = s.supply := h .supply off
theorem Only.reports_eq (off : .reports ∉ bs) : t.reports = s.reports := h .reports off
theorem Only.counters_eq (off : .counters ∉ bs) : t.counters = s.counters := h .counters off

end

/-- A frame that names neither the port nor the notices leaves the whole Host Port. -/
theorem Only.host_eq {bs : List Block} {s t : State} (h : Only bs s t) (port : .port ∉ bs) (notices : .notices ∉ bs) :
    t.host = s.host := by
  have ports : t.host.ports = s.host.ports := h .port port
  obtain ⟨hnq, kinds⟩ : t.host.hnq = s.host.hnq ∧ t.host.pendingKinds = s.host.pendingKinds := h .notices notices
  generalize t.host = x at *
  generalize s.host = y at *
  cases x; cases y
  simp_all [HostPort.ports]

/-- A frame that names neither the Sequencer's motion nor the hold set leaves the whole Sequencer. -/
theorem Only.seq_eq {bs : List Block} {s t : State} (h : Only bs s t) (motion : .seq ∉ bs) (holds : .holds ∉ bs) :
    t.seq = s.seq := by
  have moved : t.seq.motion = s.seq.motion := h .seq motion
  obtain ⟨signaller, localHold⟩ : t.seq.holdSignaller = s.seq.holdSignaller ∧ t.seq.holdLocal = s.seq.holdLocal :=
    h .holds holds
  generalize t.seq = x at *
  generalize s.seq = y at *
  cases x; cases y
  simp_all [Sequencer.motion]

/-- A frame that names neither the link nor the line leaves the whole Line Controller. -/
theorem Only.line_eq {bs : List Block} {s t : State} (h : Only bs s t) (link : .link ∉ bs) (line : .line ∉ bs) :
    t.line = s.line := by
  have traffic : t.line.traffic = s.line.traffic := h .line line
  have supervision : t.line.supervision = s.line.supervision := h .link link
  generalize t.line = x at *
  generalize s.line = y at *
  cases x; cases y
  simp_all [LineController.traffic, LineController.supervision]

/-! ### The clock and the samples -/

theorem clockTick_only (s : State) : Only [.clock] s (clockTick s) := by
  unfold clockTick
  split <;> (intro b hb; cases b <;> simp_all [Same, State.configuration])

theorem clockTick_within {s : State} (h : s.phase + 1 < 20) :
    (clockTick s).now = s.now ∧ (clockTick s).phase = s.phase + 1 ∧ (clockTick s).sample10 = s.sample10 := by
  simp [clockTick, Config.ticksPerMs, h]

theorem clockTick_wraps {s : State} (h : 20 ≤ s.phase + 1) :
    (clockTick s).now = s.now + 1 ∧ (clockTick s).phase = 0 ∧ (clockTick s).sample10 = (s.sample10 + 1) % 10 := by
  have e : ¬ s.phase + 1 < 20 := by omega
  simp [clockTick, Config.ticksPerMs, Config.contactSampleMs, e]

/-- The clock and the host transmitter after a head tick. -/
def tickBase (s : State) : State := (clockTick s).setHost fun h => h.tick (Config.hostRate s.hrate)

theorem tickBase_only (s : State) : Only [.clock, .port] s (tickBase s) := by
  have sends : Only [.port] (clockTick s) (tickBase s) := by
    intro b hb; cases b <;> simp_all [Same, State.configuration, HostPort.tick, tickBase]
  exact (clockTick_only s).seq sends (by decide) (by decide)

/-- The samples that a head tick takes in RUN (R3, R105, R136). -/
def tickSamples (s : State) : State :=
  if s.phase = 0 ∧ s.sample10 = 0 then sampleContacts (sampleHeads s) else sampleHeads s

theorem sampleHeads_only (s : State) : Only [.points] s (sampleHeads s) := by
  intro b hb; cases b <;> simp_all [Same, State.configuration, sampleHeads]
  exact remake_eq_of fun p => by simp only [Fin.getElem_fin, remake_getElem]; split <;> rfl

theorem sampleContacts_only (s : State) : Only [.barriers, .supply] s (sampleContacts s) := by
  intro b hb; cases b <;> simp_all [Same, State.configuration, sampleContacts]
  exact remake_eq_of fun b => by by_cases c : s.barriers[b].configured <;> simp_all

theorem tickSamples_only (s : State) : Only [.points, .barriers, .supply] s (tickSamples s) :=
  Only.ite ((sampleHeads_only s).seq (sampleContacts_only _) (by decide) (by decide))
    ((sampleHeads_only s).mono (by decide))

theorem tickSamples_points (s : State) (p : Fin 12) :
    (tickSamples s).points[p] =
      if s.points[p].inService then
        { s.points[p] with
          winA := s.points[p].winA.push s.pins.heads[p].fst, winB := s.points[p].winB.push s.pins.heads[p].snd }
      else s.points[p] := by
  unfold tickSamples
  split <;> simp [sampleContacts, sampleHeads]

theorem tickSamples_barriers (s : State) (b : Fin 4) :
    (tickSamples s).barriers[b] =
      if s.phase = 0 ∧ s.sample10 = 0 ∧ s.barriers[b].configured = true then
        { s.barriers[b] with
          up := ⟨s.barriers[b].up.last, s.pins.contacts[b].fst, s.barriers[b].up.accepted⟩
          down := ⟨s.barriers[b].down.last, s.pins.contacts[b].snd, s.barriers[b].down.accepted⟩ }
      else s.barriers[b] := by
  unfold tickSamples
  by_cases at10 : s.phase = 0 ∧ s.sample10 = 0
  · simp [at10, sampleContacts, sampleHeads, Filter.sample]
  · simp [at10, ← and_assoc, sampleHeads]

theorem tickSamples_supply (s : State) :
    (tickSamples s).supply =
      if s.phase = 0 ∧ s.sample10 = 0 then
        ⟨⟨s.supply.mains.last, s.pins.mains, s.supply.mains.accepted⟩,
          ⟨s.supply.batt.last, s.pins.batt, s.supply.batt.accepted⟩⟩
      else s.supply := by
  unfold tickSamples
  split <;> simp [sampleContacts, sampleHeads, Filter.sample]

/-! ### The line over one head tick -/

/-! A sample falls at a moment of the bit clock that these lemmas leave free: `acc` is the clock's phase after it. -/

theorem LineController.tick_of_lt {l : LineController} {rate : Nat} (lt : l.bitAcc + 50 * rate < 1000000) :
    l.tick rate = { l with bitAcc := l.bitAcc + 50 * rate, waitTest := false } :=
  if_neg (Nat.not_le.2 lt)

theorem LineController.tick_of_le {l : LineController} {rate : Nat} (le : 1000000 ≤ l.bitAcc + 50 * rate) :
    l.tick rate = { { l with bitAcc := l.bitAcc + 50 * rate - 1000000 }.bitTime with waitTest := true } :=
  if_pos le

theorem LineController.quietSample_of_nil {l : LineController} (h : l.headBits = []) :
    l.quietSample = { l with quiet := l.quiet + 1 } := by simp [LineController.quietSample, h]

theorem LineController.quietSample_of_short {l : LineController} (h : l.headBits ≠ []) (short : l.headBits.length < 8) :
    l.quietSample = { l with headBits := l.headBits ++ [true], quiet := l.quiet + 1 } := by
  unfold LineController.quietSample
  split
  · contradiction
  · rw [if_pos short]

theorem LineController.quietSample_of_full {l : LineController} (full : 8 ≤ l.headBits.length) :
    l.quietSample = { l with headBits := [], assembly := [byteOfBits l.headBits], quiet := 0 } := by
  unfold LineController.quietSample
  split
  · next nil => simp [nil] at full
  · rw [if_neg (Nat.not_lt.2 full)]

theorem LineController.quietSample_keeps (l : LineController) :
    l.quietSample.settings = l.settings ∧ l.quietSample.supervision = l.supervision := by
  unfold LineController.quietSample
  split
  · exact ⟨rfl, rfl⟩
  · split <;> exact ⟨rfl, rfl⟩

theorem LineController.bitTime_keeps (l : LineController) :
    l.bitTime.settings = l.settings ∧ l.bitTime.supervision = l.supervision := by
  unfold LineController.bitTime
  split
  · split
    · exact ⟨rfl, rfl⟩
    · split
      · exact ⟨rfl, rfl⟩
      · exact l.quietSample_keeps
  · exact l.quietSample_keeps

/-- The part reads back the bit it is sending (R153). -/
theorem LineController.bitTime_of_driving {l : LineController} {f : TxFrame} (acc : Nat) (flying : l.inFlight = some f)
    (driving : f.driving = true) :
    { l with bitAcc := acc }.bitTime =
      { l with
        bitAcc := acc, inFlight := some { f with sent := f.sent + 1 }
        quiet := if f.bit = true ∧ f.sent % 10 ≠ 9 then l.quiet + 1 else 0 } := by
  simp [LineController.bitTime, flying, driving]

/-- A bit-time in which the part does not drive the line reads recessive (R141). -/
theorem LineController.bitTime_of_noFrameBegun {l : LineController} (acc : Nat) (h : NoFrameBegun l) :
    { l with bitAcc := acc }.bitTime = { l.quietSample with bitAcc := acc } := by
  have sample : { l with bitAcc := acc }.quietSample = { l.quietSample with bitAcc := acc } := by
    unfold LineController.quietSample
    dsimp only
    split
    · rfl
    · split <;> rfl
  unfold LineController.bitTime
  split
  · next f e => simp [TxFrame.driving, h f e, sample]
  · exact sample

theorem LineController.sampled_keeps (l : LineController) (acc : Nat) :
    ({ { l with bitAcc := acc }.bitTime with waitTest := true } : LineController).settings = l.settings ∧
      ({ { l with bitAcc := acc }.bitTime with waitTest := true } : LineController).supervision = l.supervision :=
  LineController.bitTime_keeps { l with bitAcc := acc }

theorem LineController.tick_keeps (l : LineController) (rate : Nat) :
    (l.tick rate).settings = l.settings ∧ (l.tick rate).supervision = l.supervision := by
  rcases Nat.lt_or_ge (l.bitAcc + 50 * rate) 1000000 with lt | le
  · rw [LineController.tick_of_lt lt]
    exact ⟨rfl, rfl⟩
  · rw [LineController.tick_of_le le]
    exact l.sampled_keeps _

theorem lineClock_only (rate : Nat) (s : State) : Only [.line] s (s.setLine fun l => l.tick rate) :=
  setLine_only s (fun l => l.tick rate) (s.line.tick_keeps rate).1 (s.line.tick_keeps rate).2

theorem lineTick_only (rate : Nat) (s : State) : Only [.line, .faults, .reports] s (lineTick rate s) := by
  have clock := (lineClock_only rate s).mono (bs := [.line, .faults, .reports]) (by decide)
  unfold lineTick
  dsimp only
  split
  · exact Only.ite (clock.trans (startBit_only _ _)) clock
  · exact clock

/-- The bit clock alone, as the manual's sample and read-back have it (R140, R141). -/
theorem lineTicks_tick (rate : Nat) (l : LineController) : LineTicks (50 * rate) l (l.tick rate) := by
  refine ⟨LineController.tick_of_lt, fun le => ?_⟩
  rw [LineController.tick_of_le le]
  refine ⟨fun f flying begun more => ?_, fun none nil => ?_, fun none cons short => ?_, fun none full => ?_⟩
  · rw [LineController.bitTime_of_driving _ flying (by simp [TxFrame.driving, TxFrame.bits, begun, more])]
  · rw [LineController.bitTime_of_noFrameBegun _ none, LineController.quietSample_of_nil nil]
  · rw [LineController.bitTime_of_noFrameBegun _ none, LineController.quietSample_of_short cons short]
  · rw [LineController.bitTime_of_noFrameBegun _ none, LineController.quietSample_of_full full]

/-- A line rate of the straps brings no whole bit-time from the half of one on. -/
theorem lineRate_lt (strap : BitVec 2) : 50 * Config.lineRate strap < 500000 := by
  unfold Config.lineRate
  split <;> omega

/-! ### A frame that begins -/

/-- What the Report Scheduler sends depends on the faults, the reports, the clock and what a STATUS shows. -/
theorem content_congr {s u : State} (faults : u.faults = s.faults) (reports : u.reports = s.reports) (now : u.now = s.now)
    (seq : u.seq = s.seq) (sections : u.sections = s.sections) (slots : u.slots = s.slots) (c : LineClass) :
    u.content c = s.content c := by
  cases s; cases u
  subst faults reports now seq sections slots
  rfl

theorem holdsContent_congr {s u : State} (faults : u.faults = s.faults) (reports : u.reports = s.reports)
    (c : LineClass) : u.holdsContent c = s.holdsContent c := by
  cases c <;> simp [State.holdsContent, faults, reports]

theorem highestContent_congr {s u : State} (faults : u.faults = s.faults) (reports : u.reports = s.reports) :
    u.highestContent = s.highestContent := by
  simp only [State.highestContent, holdsContent_congr faults reports]

/-- What the Line Controller does with changed content depends on the content, the line and the part state. -/
theorem lineSettle_line_congr {s u : State} (part : u.part = s.part) (line : u.line = s.line)
    (faults : u.faults = s.faults) (reports : u.reports = s.reports) : (lineSettle u).line = (lineSettle s).line := by
  have highest : (lowerWaits u).highestContent = (lowerWaits s).highestContent := highestContent_congr faults reports
  have lowered : (lowerWaits u).line = (lowerWaits s).line := by
    simp only [lowerWaits, State.setLine_line, line, holdsContent_congr faults reports]
  simp only [lineSettle, beginWait, part, apply_ite State.line, State.setLine_line]
  rw [lowered, highest, line]

/-- A line's tick that begins the start bit of a frame brings no sample: the phase stays below a whole bit-time. -/
theorem lineTick_begins_acc {strap : BitVec 2} {l : LineController} {f : TxFrame}
    (begins : StartBitBegins (50 * Config.lineRate strap) l f) :
    l.tick (Config.lineRate strap) = { l with bitAcc := l.bitAcc + 50 * Config.lineRate strap, waitTest := false } := by
  have := lineRate_lt strap
  obtain ⟨-, -, lt, -⟩ := begins
  exact LineController.tick_of_lt (by omega)

theorem lineTick_of_startBitBegins {rate : Nat} {s : State} {f : TxFrame} (begins : StartBitBegins (50 * rate) s.line f) :
    lineTick rate s = startBit f.cls (s.setLine fun l => l.tick rate) := by
  obtain ⟨flying, unbegun, lt, le⟩ := begins
  exact lineTick_of_begins flying unbegun (by simp [LineController.bitBegins, bitsPerTick, lt, le])

theorem lineTick_of_no_startBit {rate : Nat} {s : State} (h : ∀ f, ¬StartBitBegins (50 * rate) s.line f) :
    lineTick rate s = s.setLine fun l => l.tick rate := by
  refine lineTick_of_not_begins fun f flying unbegun => ?_
  have never := h f
  simp only [StartBitBegins, flying, unbegun, true_and] at never
  rw [LineController.bitBegins, bitsPerTick, ← Bool.decide_and]
  exact decide_eq_false never

/-- A class left without content sends nothing at its start bit. -/
theorem startBit_of_none {c : LineClass} {s : State} (h : s.content c = none) :
    startBit c s = lineSettle (s.setLine fun l => { l with inFlight := none }) := by
  simp [startBit, h]

theorem startBit_of_some {c : LineClass} {k : Content} {s : State} (h : s.content c = some k) :
    startBit c s = freeze k (s.setLine fun l => { l with inFlight := some { l.frame c k with begun := true } }) := by
  simp [startBit, h]

theorem freeze_line (k : Content) (s : State) : (freeze k s).line = s.line :=
  (freeze_only k s).line_eq (by decide) (by decide)

theorem freeze_table (k : Content) (s : State) (i : Fin 32) :
    (freeze k s).faults.table[i] =
      if k.kind = 0x42 ∧ i ∈ k.carried then
        { s.faults.table[i] with carried := s.faults.table[i].record.map FaultRecord.state }
      else s.faults.table[i] := by
  unfold freeze
  by_cases report : k.kind = kindFaultReport
  · simp [report, show kindFaultReport = 0x42 from rfl]
  · have report' : ¬k.kind = 0x42 := report
    simp only [report, report', if_false, false_and]
    split <;> rfl

/-- The rest of the Fault Manager stands as a content is frozen. -/
theorem freeze_faults (k : Content) (s : State) : { (freeze k s).faults with table := s.faults.table } = s.faults := by
  unfold freeze
  split
  · simp only [State.setFaults_faults]
  · split <;> simp only [State.setReports_faults]

theorem freeze_reports (k : Content) (s : State) :
    (k.kind = 0x42 → (freeze k s).reports = s.reports) ∧
      (k.kind = 0x43 → (freeze k s).reports = { s.reports with confirmRenewed := false }) ∧
      (k.kind = 0x41 → (freeze k s).reports = { s.reports with stateRenewed := false, healthRenewed := false }) := by
  refine ⟨fun h => ?_, fun h => ?_, fun h => ?_⟩ <;> simp [freeze, h, kindFaultReport, kindConfirm]

/-- The state whose content a start bit fixes: the clock as it will be, the frame that asked for the line withdrawn. -/
def startView (n : Nat) (now : Time) (s : State) : State :=
  { s with now := now, line := { s.line with bitAcc := s.line.bitAcc + n, waitTest := false, inFlight := none } }

/-- What a start bit leaves depends on the state only in what its content, its line and its marks show: the samples of
the tick in which it begins do not matter. -/
theorem startsWithItsContent {strap : BitVec 2} {s u : State} {f : TxFrame}
    (begins : StartBitBegins (50 * Config.lineRate strap) s.line f)
    (keeps : Only [.clock, .points, .barriers, .supply, .port] s u) :
    StartsWithItsContent (50 * Config.lineRate strap) f s (lineTick (Config.lineRate strap) u) := by
  have line : u.line = s.line := keeps.line_eq (by decide) (by decide)
  have faults : u.faults = s.faults := keeps.faults_eq (by decide)
  have reports : u.reports = s.reports := keeps.reports_eq (by decide)
  have seq : u.seq = s.seq := keeps.seq_eq (by decide) (by decide)
  have part : u.part = s.part := keeps.part_eq (by decide)
  have now : (lineTick (Config.lineRate strap) u).now = u.now := ((lineTick_only _ u).clock_eq (by decide)).1
  have ticked := lineTick_begins_acc begins
  have content : (u.setLine fun l => l.tick (Config.lineRate strap)).content f.cls =
      (startView (50 * Config.lineRate strap) (lineTick (Config.lineRate strap) u).now s).content f.cls :=
    content_congr (s := startView _ _ s) faults reports now.symm seq (keeps.sections_eq (by decide)) (keeps.slots_eq (by decide)) f.cls
  have bit := lineTick_of_startBitBegins (s := u) (line ▸ begins)
  refine ⟨fun none => ?_, fun c some => ?_⟩
  · have settled := lineSettle_only ((u.setLine fun l => l.tick (Config.lineRate strap)).setLine fun l =>
      { l with inFlight := Option.none })
    rw [bit, startBit_of_none (content.trans none)]
    refine ⟨lineSettle_line_congr part ?_ faults reports, (settled.faults_eq (by decide)).trans faults,
      (settled.reports_eq (by decide)).trans reports⟩
    simp only [State.setLine_line, line, ticked]
  · obtain ⟨report, confirm, status⟩ := freeze_reports c
      ((u.setLine fun l => l.tick (Config.lineRate strap)).setLine fun l =>
        { l with inFlight := Option.some { l.frame f.cls c with begun := true } })
    simp only [State.setLine_reports, reports] at report confirm status
    rw [bit, startBit_of_some (content.trans some), freeze_line]
    refine ⟨?_, fun i => ?_, ?_, report, confirm, status⟩
    · simp only [State.setLine_line, line, ticked, LineController.frame]
    · rw [freeze_table]
      simp only [State.setLine_faults, faults]
    · have frozen := freeze_faults c ((u.setLine fun l => l.tick (Config.lineRate strap)).setLine fun l =>
        { l with inFlight := Option.some { l.frame f.cls c with begun := true } })
      simpa only [State.setLine_faults, faults] using frozen

/-! ### The idle step -/

theorem runTick_eq (s : State) : runTick s = lineTick (Config.lineRate s.lrate) (tickSamples s) := by
  have rate : (tickSamples s).lrate = s.lrate := ((tickSamples_only s).straps_eq (by decide)).1
  rw [← rate]
  rfl

theorem tick_of_config {s : State} (h : s.part = .config) : tick s = tickBase s := by
  have part : (tickBase s).part = .config := ((tickBase_only s).part_eq (by decide)).trans h
  unfold tick
  exact if_neg (show ¬(tickBase s).part = .run by rw [part]; decide)

theorem tick_of_run {s : State} (h : s.part = .run) :
    tick s = lineTick (Config.lineRate s.lrate) (tickSamples (tickBase s)) := by
  have part : (tickBase s).part = .run := ((tickBase_only s).part_eq (by decide)).trans h
  have rate : (tickBase s).lrate = s.lrate := ((tickBase_only s).straps_eq (by decide)).1
  rw [← rate, ← runTick_eq]
  unfold tick
  exact if_pos part

/-- What a head tick may change. -/
def tickBlocks : List Block := [.clock, .points, .barriers, .supply, .line, .port, .faults, .reports]

theorem tick_only (s : State) : Only tickBlocks s (tick s) := by
  have base := (tickBase_only s).mono (bs := tickBlocks) (by decide)
  unfold tick
  refine Only.ite (c := (tickBase s).part = .run) ?_ base
  rw [runTick_eq]
  exact base.trans ((tickSamples_only _).seq (lineTick_only _ _) (by decide) (by decide))

theorem pick_mem (n : Nat) (c : Instr) (cs : List Instr) : pick n c cs ∈ c :: cs := by
  have lt : Config.freePick n % (cs.length + 1) < (c :: cs).length := Nat.mod_lt _ (by simp)
  unfold pick
  rw [List.getD_eq_getElem _ _ lt]
  exact List.getElem_mem lt

theorem step_idle {s : State} (h : s.pending = []) : step s = idleStep s := by
  simp [step, h]

/-- The clock, the phase and the host transmitter after a head tick are those of its base. -/
theorem tick_base (s : State) :
    ((tick s).now = (tickBase s).now ∧ (tick s).phase = (tickBase s).phase ∧
      (tick s).sample10 = (tickBase s).sample10) ∧ (tick s).host = (tickBase s).host := by
  have run := (tickSamples_only (tickBase s)).seq (lineTick_only (Config.lineRate s.lrate) _)
    (cs := [.points, .barriers, .supply, .line, .faults, .reports]) (by decide) (by decide)
  cases part : s.part
  · rw [tick_of_config part]
    exact ⟨⟨rfl, rfl, rfl⟩, rfl⟩
  · rw [tick_of_run part]
    exact ⟨run.clock_eq (by decide), run.host_eq (by decide) (by decide)⟩

/-- In RUN the tick's line is the line's tick on the state with its samples taken. -/
theorem tickSamples_tickBase_only (s : State) :
    Only [.clock, .points, .barriers, .supply, .port] s (tickSamples (tickBase s)) :=
  (tickBase_only s).seq (tickSamples_only _) (by decide) (by decide)

/-- Settles O2: the clock and the transmitter go on as `tickBase` says; in RUN the samples and the line's tick follow, each
within its own blocks. -/
theorem idleStepIsOneHeadTick : Obligations.IdleStepIsOneHeadTick := by
  unfold Obligations.IdleStepIsOneHeadTick
  intro s queue
  rw [step_idle queue]
  obtain ⟨⟨now, phase, sample10⟩, host⟩ := tick_base s
  obtain ⟨now', phase', sample10'⟩ : (tickBase s).now = (clockTick s).now ∧ (tickBase s).phase = (clockTick s).phase ∧
    (tickBase s).sample10 = (clockTick s).sample10 := ⟨rfl, rfl, rfl⟩
  refine ⟨fun none => ⟨tick s, by simp [idleStep, none], fun within => ?_, fun wraps => ?_, ?_, fun config => ?_,
    fun run => ?_, tick_only s⟩, fun c one => by simp [idleStep, one], fun c d cs many => ?_⟩
  · rw [now, phase, sample10]
    exact clockTick_within within
  · rw [now, phase, sample10]
    exact clockTick_wraps wraps
  · have kept : (clockTick s).host = s.host := (clockTick_only s).host_eq (by decide) (by decide)
    rw [host, show (tickBase s).host = (clockTick s).host.tick (Config.hostRate s.hrate) from rfl, kept]
    rfl
  · rw [tick_of_config config]
    exact tickBase_only s
  · have base := tickBase_only s
    have samples := tickSamples_tickBase_only s
    have line := lineTick_only (Config.lineRate s.lrate) (tickSamples (tickBase s))
    have controller : (tickSamples (tickBase s)).line = s.line := samples.line_eq (by decide) (by decide)
    have phase0 := phase
    have sample0 := sample10
    rw [tick_of_run run] at phase0 sample0 ⊢
    refine ⟨fun p => ?_, fun b => ?_, ?_, fun f begins => startsWithItsContent begins samples, fun never => ?_⟩
    · rw [line.points_eq (by decide), tickSamples_points, base.points_eq (by decide), base.pins_eq (by decide)]
    · rw [line.barriers_eq (by decide), tickSamples_barriers, base.barriers_eq (by decide), base.pins_eq (by decide),
        phase0, sample0]
    · rw [line.supply_eq (by decide), tickSamples_supply, base.supply_eq (by decide), base.pins_eq (by decide),
        phase0, sample0]
    · rw [lineTick_of_no_startBit (by rwa [controller])]
      refine ⟨?_, samples.faults_eq (by decide), samples.reports_eq (by decide)⟩
      rw [State.setLine_line, controller]
      exact lineTicks_tick _ _
  · have taken : idleStep s = exec (pick s.free c (d :: cs)) s.tookFree := by simp [idleStep, many]
    exact ⟨_, pick_mem _ _ _, taken⟩

end Sys2Proof.Machine
end

section
/-! PROOFS. The reply to READ_STATE, field by field (ch. 12.2): each block's bytes stand at their offset, and show what the
table of the block says. -/

namespace Sys2Proof.Machine

/-! ### Fields of a byte string -/

/-- A field stands at an offset of a byte string. -/
def StandsAt (n : Nat) (field l : List Byte) : Prop := ∃ before after, l = before ++ (field ++ after) ∧ before.length = n

theorem StandsAt.slice {n k : Nat} {field l : List Byte} (h : StandsAt n field l) (length : field.length = k) :
    (l.drop n).take k = field := by
  obtain ⟨before, after, rfl, rfl⟩ := h
  subst length
  simp

/-- A part of a field, read from the whole string or from the field alone. -/
theorem StandsAt.part {n : Nat} {field l : List Byte} (h : StandsAt n field l) (m k : Nat) (fits : m + k ≤ field.length) :
    (l.drop (n + m)).take k = (field.drop m).take k := by
  obtain ⟨before, after, rfl, rfl⟩ := h
  rw [List.drop_append, List.drop_eq_nil_of_le (by omega), List.nil_append, Nat.add_sub_cancel_left,
    List.drop_append_of_le_length (by omega), List.take_append_of_le_length (by rw [List.length_drop]; omega)]

theorem StandsAt.trans {n m : Nat} {a b c : List Byte} (outer : StandsAt n b c) (inner : StandsAt m a b) :
    StandsAt (n + m) a c := by
  obtain ⟨before, after, rfl, rfl⟩ := outer
  obtain ⟨before', after', rfl, rfl⟩ := inner
  exact ⟨before ++ before', after' ++ after, by simp, by simp⟩

theorem standsAt_append (a b c : List Byte) : StandsAt a.length b (a ++ b ++ c) := ⟨a, c, by simp, rfl⟩

/-- A row of a table whose rows are all of one length. -/
theorem standsAt_row {α : Type} {f : α → List Byte} {k : Nat} (length : ∀ x, (f x).length = k) (l : List α) (i : Nat)
    (h : i < l.length) : StandsAt (k * i) (f l[i]) (l.map f).flatten := by
  induction l generalizing i with
  | nil => exact absurd h (Nat.not_lt_zero i)
  | cons x l ih =>
    cases i with
    | zero => exact ⟨[], (l.map f).flatten, by simp, rfl⟩
    | succ i =>
      have row := ih i (Nat.lt_of_succ_lt_succ h)
      have rest : StandsAt k (l.map f).flatten (f x ++ (l.map f).flatten) :=
        ⟨f x, [], by simp, length x⟩
      rw [Nat.mul_succ, Nat.add_comm]
      exact rest.trans row

theorem standsAt_getElem (l : List Byte) (i : Nat) (h : i < l.length) : StandsAt i [l[i]] l :=
  ⟨l.take i, l.drop (i + 1), by simp, by simp; omega⟩

theorem rows_length {α : Type} {f : α → List Byte} {k : Nat} (length : ∀ x, (f x).length = k) (l : List α) :
    (l.map f).flatten.length = k * l.length := by
  rw [List.length_flatten, List.map_map, show List.length ∘ f = fun _ => k from funext length]
  simp [Nat.mul_comm]

theorem allPoints_getElem (p : Fin 12) : allPoints[p.val]'p.isLt = p := by revert p; decide
theorem allLamps_getElem (c : Fin 10) : allLamps[c.val]'c.isLt = c := by revert c; decide
theorem allBarriers_getElem (b : Fin 4) : allBarriers[b.val]'b.isLt = b := by revert b; decide

/-! ### Lengths of the blocks' bytes -/

theorem sequencerBytes_length (s : State) : s.sequencerBytes.length = 15 := rfl
theorem Point.bytes_length (x : Point) : x.bytes.length = 2 := rfl
theorem Lamp.bytes_length (l : Lamp) : l.bytes.length = 5 := rfl

theorem Barrier.bytes_length (b : Barrier) (now : Time) : (b.bytes now).length = 12 := by
  unfold Barrier.bytes
  split <;> rfl

theorem pointsBytes_length (s : State) : (allPoints.map fun p => s.points[p].bytes).flatten.length = 24 :=
  rows_length (fun p : Fin 12 => Point.bytes_length s.points[p]) allPoints

theorem barriersBytes_length (s : State) : (allBarriers.map fun b => s.barriers[b].bytes s.now).flatten.length = 48 :=
  rows_length (fun b : Fin 4 => Barrier.bytes_length s.barriers[b] s.now) allBarriers

theorem LampDriver.bytes_length (d : LampDriver) : d.bytes.length = 53 := rfl

theorem LineController.bytes_length (l : LineController) (now : Time) : (l.bytes now).length = 17 := by
  simp [LineController.bytes, be32, be16]

theorem reportBytes_length (s : State) : s.reportBytes.length = 12 := by
  unfold State.reportBytes
  split <;> rfl

theorem stateReply_length (s : State) : s.stateReply.length = 169 := by
  simp only [State.stateReply, List.length_append, sequencerBytes_length, LampDriver.bytes_length,
    LineController.bytes_length, reportBytes_length, pointsBytes_length, barriersBytes_length]

/-! ### Where the blocks stand in the reply, its result byte counted -/

section
variable (s : State)

/-- Whatever stands at an offset of READ_STATE's bytes stands one further in the reply, which begins with the result. -/
theorem standsAt_reply {n : Nat} {a l : List Byte} (h : StandsAt n a l) : StandsAt (1 + n) a (0 :: l) :=
  StandsAt.trans ⟨[0], [], by simp, rfl⟩ h

theorem sequencer_standsAt : StandsAt 1 s.sequencerBytes (0 :: s.stateReply) :=
  standsAt_reply (n := 0) ⟨[], _, by simp [State.stateReply]; rfl, rfl⟩

theorem points_standsAt : StandsAt 16 (allPoints.map fun p => s.points[p].bytes).flatten (0 :: s.stateReply) :=
  standsAt_reply (n := 15) ⟨s.sequencerBytes, _, by simp only [State.stateReply, List.append_assoc]; rfl, rfl⟩

theorem lamps_standsAt : StandsAt 40 s.lamps.bytes (0 :: s.stateReply) :=
  standsAt_reply (n := 39) ⟨s.sequencerBytes ++ (allPoints.map fun p => s.points[p].bytes).flatten, _,
    by simp only [State.stateReply, List.append_assoc]; rfl, rfl⟩

theorem barriers_standsAt :
    StandsAt 93 (allBarriers.map fun b => s.barriers[b].bytes s.now).flatten (0 :: s.stateReply) :=
  standsAt_reply (n := 92)
    ⟨s.sequencerBytes ++ (allPoints.map fun p => s.points[p].bytes).flatten ++ s.lamps.bytes, _,
      by simp only [State.stateReply, List.append_assoc]; rfl, rfl⟩

theorem line_standsAt : StandsAt 141 (s.line.bytes s.now) (0 :: s.stateReply) :=
  standsAt_reply (n := 140)
    ⟨s.sequencerBytes ++ (allPoints.map fun p => s.points[p].bytes).flatten ++ s.lamps.bytes ++
        (allBarriers.map fun b => s.barriers[b].bytes s.now).flatten, s.reportBytes,
      by simp only [State.stateReply, List.append_assoc], by
        simp only [List.length_append, sequencerBytes_length, LampDriver.bytes_length, pointsBytes_length,
          barriersBytes_length]⟩

theorem reports_standsAt : StandsAt 158 s.reportBytes (0 :: s.stateReply) :=
  standsAt_reply (n := 157)
    ⟨s.sequencerBytes ++ (allPoints.map fun p => s.points[p].bytes).flatten ++ s.lamps.bytes ++
        (allBarriers.map fun b => s.barriers[b].bytes s.now).flatten ++ s.line.bytes s.now, [],
      by simp only [State.stateReply, List.append_assoc, List.append_nil], by
        simp only [List.length_append, sequencerBytes_length, LampDriver.bytes_length, LineController.bytes_length,
          pointsBytes_length, barriersBytes_length]⟩

theorem point_standsAt (p : Fin 12) : StandsAt (16 + 2 * p.val) s.points[p].bytes (0 :: s.stateReply) := by
  have row := standsAt_row (fun q : Fin 12 => Point.bytes_length s.points[q]) allPoints p.val p.isLt
  rw [allPoints_getElem] at row
  exact (points_standsAt s).trans row

theorem lamp_standsAt (c : Fin 10) : StandsAt (43 + 5 * c.val) s.lamps.lamps[c].bytes (0 :: s.stateReply) := by
  have row := standsAt_row (fun d : Fin 10 => Lamp.bytes_length s.lamps.lamps[d]) allLamps c.val c.isLt
  rw [allLamps_getElem] at row
  have table : StandsAt 3 (allLamps.map fun d => s.lamps.lamps[d].bytes).flatten s.lamps.bytes :=
    ⟨_, [], by rw [List.append_nil]; rfl, rfl⟩
  exact ((lamps_standsAt s).trans table).trans row

theorem barrier_standsAt (b : Fin 4) :
    StandsAt (93 + 12 * b.val) (s.barriers[b].bytes s.now) (0 :: s.stateReply) := by
  have row := standsAt_row (fun a : Fin 4 => Barrier.bytes_length s.barriers[a] s.now) allBarriers b.val b.isLt
  rw [allBarriers_getElem] at row
  exact (barriers_standsAt s).trans row

end

/-! ### What the bytes show -/

theorem Point.bytes_eq (x : Point) :
    x.bytes = [byte (128 * flag x.inService + 64 * flag x.accA + 32 * flag x.accB + 16 * flag x.headFault),
      byte x.seq.code] := by
  have bits : packBits [false, false, false, false, x.headFault, x.accB, x.accA, x.inService] =
      128 * flag x.inService + 64 * flag x.accA + 32 * flag x.accB + 16 * flag x.headFault := by
    simp only [packBits, show flag false = 0 from rfl]
    omega
  rw [Point.bytes, bits]

theorem Lamp.bytes_eq (l : Lamp) :
    l.bytes = [byte (flag l.enabled + 2 * flag l.lit + 4 * flag l.failed + 8 * flag l.stuckOn), byte l.bad,
      byte l.good] ++ be16 (l.current.getD 65535) := by
  have bits : packBits [l.enabled, l.lit, l.failed, l.stuckOn] =
      flag l.enabled + 2 * flag l.lit + 4 * flag l.failed + 8 * flag l.stuckOn := by
    simp only [packBits]
    omega
  rw [Lamp.bytes, bits]

theorem flag_isExit (r : BarrierRole) : flag (r == .exit) = r.code := by cases r <;> rfl
theorem flag_isB (x : Side) : flag (x == .b) = x.code := by cases x <;> rfl
theorem sinceOrZero_eq (now : Time) (t : Option Time) : sinceOrZero now t = msSince now t := by cases t <;> rfl

theorem Barrier.bytes_eq (b : Barrier) (now : Time) :
    b.bytes now =
      if b.configured then
        [byte (1 + 2 * b.role.code + 4 * b.side.code + 8 * flag b.holdOut + 16 * flag b.raiseOut +
            32 * flag b.up.accepted + 64 * flag b.down.accepted + 128 * flag b.disturbed),
          codeOrFF (b.state.map BarrierState.code), codeOrFF (b.phase.map MotionPhase.code), byte b.detail] ++
        be32 (msSince now b.motionStart) ++ be32 (msSince now b.phaseStart)
      else [0, 0xFF, 0xFF, 0, 0, 0, 0, 0, 0, 0, 0, 0] := by
  have bits : packBits [true, b.role == .exit, b.side == .b, b.holdOut, b.raiseOut, b.up.accepted, b.down.accepted,
        b.disturbed] = 1 + 2 * b.role.code + 4 * b.side.code + 8 * flag b.holdOut + 16 * flag b.raiseOut +
      32 * flag b.up.accepted + 64 * flag b.down.accepted + 128 * flag b.disturbed := by
    simp only [packBits, flag_isExit, flag_isB, show flag true = 1 from rfl]
    omega
  rw [Barrier.bytes, bits, sinceOrZero_eq, sinceOrZero_eq]
  rfl

theorem allFailed_iff (d : LampDriver) (cs : List (Fin 10)) :
    d.allFailed cs = true ↔ ∀ c ∈ cs, d.lamps[c].enabled = true → d.lamps[c].failed = true := by
  simp [LampDriver.allFailed, imp_iff_not_or]

/-- A road side is dark as R96 says. -/
theorem sideDark_iff (s : State) (x : Side) : s.lamps.sideDark x = true ↔ DarkSide s (leftOf x) (rightOf x) := by
  rw [LampDriver.sideDark, Bool.and_eq_true, Bool.or_eq_true, List.any_eq_true, allFailed_iff, allFailed_iff]

theorem packSides_eq (s : State) :
    packBits [s.lamps.sideDark .a, s.lamps.sideDark .b] =
      flag (decide (DarkSide s [1, 3] [2, 4])) + 2 * flag (decide (DarkSide s [6, 8] [7, 9])) := by
  have a : s.lamps.sideDark .a = decide (DarkSide s [1, 3] [2, 4]) :=
    Bool.eq_iff_iff.2 ((sideDark_iff s .a).trans decide_eq_true_iff.symm)
  have b : s.lamps.sideDark .b = decide (DarkSide s [6, 8] [7, 9]) :=
    Bool.eq_iff_iff.2 ((sideDark_iff s .b).trans decide_eq_true_iff.symm)
  rw [a, b]
  simp only [packBits]
  omega

/-- The records of a class that are due, as R167 tells them (R174). -/
theorem dueSlots_eq (s : State) (p : FaultClass → Bool) : s.faults.dueSlots p = allFaultSlots.filter (dueIn s p) := by
  refine List.filter_congr fun i _ => ?_
  simp only [FaultSlot.due, dueIn]
  cases s.faults.table[i].record with
  | none => rfl
  | some r => simp [Bool.and_comm]

theorem remaining_eq (now : Time) (t : Option Time) :
    remaining now t = match t with
      | some e => if atOrBefore e now then 0 else elapsed e now
      | none => 4294967295 := by
  cases t <;> rfl

/-- The time that the link's supervision shows (R157). -/
theorem supervised_eq (l : LineController) (now : Time) :
    sinceOrZero now l.supervised = match l.link with
      | .sync => msSince now l.firstBeacon
      | .active => msSince now l.lastBeacon
      | _ => 0 := by
  rw [sinceOrZero_eq, LineController.supervised]
  cases l.link <;> rfl

theorem sequencerFlags_eq (s : State) :
    packBits [s.faults.latch, s.seq.holdSignaller, s.seq.holdLocal, s.seq.longFlag, s.seq.exitMark.isSome] =
      flag s.faults.latch + 2 * flag s.seq.holdSignaller + 4 * flag s.seq.holdLocal + 8 * flag s.seq.longFlag +
        16 * flag s.seq.exitMark.isSome := by
  simp only [packBits]
  omega

theorem raisedFlags_eq (l : LineController) :
    packBits [l.raisedAlarm, l.raisedState, l.raisedRoutine] =
      flag l.raisedAlarm + 2 * flag l.raisedState + 4 * flag l.raisedRoutine := by
  simp only [packBits]
  omega

theorem markFlags_eq (r : ReportScheduler) : packBits [r.stateMark, r.healthMark] = flag r.stateMark + 2 * flag r.healthMark := by
  simp only [packBits]
  omega

/-- The Line Controller's six bytes of READ_STATE that follow the link's (R157). -/
theorem lineState_eq (l : LineController) :
    [byte l.rx.code, byte (match l.wait with | some c => 128 + c.code | none => 0),
      byte (match l.inFlight with | some f => 128 + f.cls.code | none => 0), l.flightKind,
      byte (packBits [l.raisedAlarm, l.raisedState, l.raisedRoutine]), byte ((l.own.map BitVec.toNat).getD 0)] =
    [match l.rx with | .idle => 0 | .assembling => 1 | .skipping => 2,
      match l.wait with
      | some c => byte (128 + c.code)
      | none => 0,
      match l.inFlight with
      | some f => byte (128 + f.cls.code)
      | none => 0,
      match l.inFlight with
      | some f => f.kind
      | none => 0xFF,
      byte (flag l.raisedAlarm + 2 * flag l.raisedState + 4 * flag l.raisedRoutine),
      match l.own with
      | some a => byte a.toNat
      | none => 0] := by
  rw [raisedFlags_eq, LineController.flightKind]
  congr 1
  · cases l.rx <;> rfl
  congr 1
  · cases l.wait <;> rfl
  congr 1
  · cases l.inFlight <;> rfl
  congr 2
  cases l.own <;> rfl

theorem lampState_eq (s : State) :
    [byte (match s.lamps.gen with | some g => 128 + g.part.code | none => 0),
      byte (match s.lamps.test with | some t => 128 + t.channel.val | none => 0),
      byte (packBits [s.lamps.sideDark .a, s.lamps.sideDark .b])] =
    [match s.lamps.gen with
      | some g => byte (128 + match g.part with | .lOn => 0 | .g1 => 1 | .rOn => 2 | .g2 => 3)
      | none => 0,
      match s.lamps.test with
      | some x => byte (128 + x.channel.val)
      | none => 0,
      byte (flag (decide (DarkSide s [1, 3] [2, 4])) + 2 * flag (decide (DarkSide s [6, 8] [7, 9])))] := by
  rw [packSides_eq]
  congr 1
  · rcases s.lamps.gen with _ | ⟨part, since⟩
    · rfl
    · cases part <;> rfl
  congr 1
  cases s.lamps.test <;> rfl

/-- A group entry's byte stands after the own address (R157). -/
theorem group_standsAt (l : LineController) (now : Time) (g : Fin 4) :
    StandsAt (11 + g.val) [byte ((l.groups[g].map BitVec.toNat).getD 0)] (l.bytes now) := by
  have table : StandsAt 11 (l.groups.toList.map fun g => byte ((g.map BitVec.toNat).getD 0)) (l.bytes now) :=
    ⟨_, be16 l.beaconMs, by rw [LineController.bytes, List.append_assoc], rfl⟩
  have entry := standsAt_getElem (l.groups.toList.map fun g => byte ((g.map BitVec.toNat).getD 0)) g.val (by simp)
  simp only [List.getElem_map, Vector.getElem_toList] at entry
  exact table.trans entry

theorem beaconMs_standsAt (l : LineController) (now : Time) : StandsAt 15 (be16 l.beaconMs) (l.bytes now) :=
  ⟨_, [], by rw [LineController.bytes, List.append_nil], by simp [be32]⟩

/-- The Report Scheduler's bytes of READ_STATE (R174): its CONFIRM slot and marks, its timer, its counts, its frame. -/
theorem reportBytes_fields (s : State) :
    (s.reportBytes.drop 0).take 3 =
        (match s.reports.confirm with
          | some c => [c.kind, byte c.result.code]
          | none => [0xFF, 0xFF]) ++ [byte (packBits [s.reports.stateMark, s.reports.healthMark])] ∧
      (s.reportBytes.drop 3).take 4 = be32 (remaining s.now s.reports.healthTimer) ∧
      (s.reportBytes.drop 7).take 3 =
        ([FaultClass.severe, .minor, .notice].map fun c => byte (s.faults.dueSlots fun k => k == c).length) ∧
      (s.reportBytes.drop 10).take 2 = [s.line.flightKind, byte s.line.entries] := by
  unfold State.reportBytes
  cases s.reports.confirm <;> exact ⟨rfl, rfl, rfl, rfl⟩

/-- The frame in flight as the Report Scheduler shows it (R174). -/
theorem flight_eq (l : LineController) :
    [l.flightKind, byte l.entries] =
      match l.inFlight with
      | some f => [f.kind, if f.kind = 0x42 then byte (f.payload.length / 8) else 0]
      | none => [0xFF, 0] := by
  unfold LineController.flightKind LineController.entries
  cases l.inFlight with
  | none => rfl
  | some f =>
    dsimp only
    rw [show kindFaultReport = 0x42 from rfl]
    split <;> rfl

/-! ### The reply -/

theorem exec_readState (tag : Byte) {s : State} (run : s.part = .run) (free : HostFree s) :
    ∃ t, Accepts (.readState tag []) 0x20 tag s.stateReply [] s t :=
  ⟨_, accepts_of_serve (q := .readState) rfl free (by decide) rfl (by rw [run]; rfl) rfl (Only.refl _ _) (by decide)⟩

/-- Settles O19: each block's bytes stand at the block's offset, each field at its own within them. -/
theorem readStateRepliesWithTheWholeState : Obligations.ReadStateRepliesWithTheWholeState := by
  unfold Obligations.ReadStateRepliesWithTheWholeState
  intro tag s run free
  obtain ⟨t, accepts⟩ := exec_readState tag run free
  refine ⟨t, s.stateReply, accepts, ?_⟩
  have seq := sequencer_standsAt s
  have lamps := lamps_standsAt s
  have line := line_standsAt s
  have reports := reports_standsAt s
  obtain ⟨confirm, timer, counts, flight⟩ := reportBytes_fields s
  dsimp only
  refine ⟨congrArg (· + 1) (stateReply_length s), ?_, ?_, fun p => ?_, ?_, fun c => ?_, fun b => ?_, ?_, ?_, fun g => ?_,
    ?_, ?_, ?_, ?_, ?_⟩
  · rw [← sequencerFlags_eq]
    exact seq.part 0 3 (by rw [sequencerBytes_length]; decide)
  · exact seq.part 3 12 (by rw [sequencerBytes_length])
  · exact ((point_standsAt s p).slice rfl).trans (Point.bytes_eq _)
  · exact (lamps.part 0 3 (by rw [LampDriver.bytes_length]; decide)).trans (lampState_eq s)
  · exact ((lamp_standsAt s c).slice rfl).trans (Lamp.bytes_eq _)
  · exact ((barrier_standsAt s b).slice (Barrier.bytes_length _ _)).trans (Barrier.bytes_eq _ _)
  · exact (line.part 0 5 (by rw [LineController.bytes_length]; decide)).trans
      (congrArg (fun n => byte s.line.link.code :: be32 n) (supervised_eq s.line s.now))
  · exact (line.part 5 6 (by rw [LineController.bytes_length]; decide)).trans (lineState_eq s.line)
  · have entry := (line.trans (group_standsAt s.line s.now g)).slice rfl
    rw [← Nat.add_assoc] at entry
    refine entry.trans (congrArg (· :: []) ?_)
    cases s.line.groups[g] <;> rfl
  · exact (line.trans (beaconMs_standsAt s.line s.now)).slice rfl
  · rw [← markFlags_eq]
    exact (reports.part 0 3 (by rw [reportBytes_length]; decide)).trans confirm
  · exact (reports.part 3 4 (by rw [reportBytes_length]; decide)).trans (timer.trans (congrArg be32 (remaining_eq _ _)))
  · refine (reports.part 7 3 (by rw [reportBytes_length]; decide)).trans (counts.trans ?_)
    simp only [dueSlots_eq]
  · exact (reports.part 10 2 (by rw [reportBytes_length])).trans (flight.trans (flight_eq s.line))

end Sys2Proof.Machine
end

section
/-! PROOFS. Which operations leave a statistics counter alone (10.4): raises and ends count nothing, and no axle counter rises
but by its own point's axle. -/

namespace Sys2Proof.Machine

/-! ### Counters and outputs -/

theorem queueNotice_counters (n : Notice) (s : State) : (queueNotice n s).counters = s.counters :=
  (queueNotice_only n s).counters_eq (by decide)

theorem bump_counters (i : Fin 32) (s : State) : (bump i s).counters = upd s.counters i Counter.bumped := by
  unfold bump
  dsimp only
  split <;> split <;> simp only [queueNotice_counters, State.setCounter_counters] <;> rfl

/-- An output that counts nothing leaves the counters. -/
theorem emit1_counters {o : Output} (h : ∀ i, o ≠ .count i) (s : State) : (emit1 s o).counters = s.counters := by
  cases o with
  | log k n d => exact (writeLog_only k n d s).counters_eq (by decide)
  | notice n => exact queueNotice_counters n s
  | stateNotice => exact queueNotice_counters _ s
  | count i => exact absurd rfl (h i)
  | statusDue => rfl

theorem emit_counters {os : List Output} (h : ∀ i, .count i ∉ os) (s : State) : (emit os s).counters = s.counters := by
  induction os generalizing s with
  | nil => rfl
  | cons o os ih =>
    simp only [List.mem_cons, not_or] at h
    exact (ih (fun i => (h i).2) _).trans (emit1_counters (fun i => Ne.symm (h i).1) s)

/-- A counter stands. -/
def CountKept (i : Fin 32) (s t : State) : Prop := t.counters[i] = s.counters[i]

theorem CountKept.refl (i : Fin 32) (s : State) : CountKept i s s := rfl

theorem CountKept.trans {i : Fin 32} {s t u : State} (h : CountKept i s t) (h' : CountKept i t u) : CountKept i s u :=
  Eq.trans h' h

theorem CountKept.of_eq {i : Fin 32} {s t : State} (h : t.counters = s.counters) : CountKept i s t := by
  rw [CountKept, h]

theorem CountKept.of_only {i : Fin 32} {bs : List Block} {s t : State} (h : Only bs s t) (off : .counters ∉ bs) :
    CountKept i s t := .of_eq (h.counters_eq off)

theorem CountKept.ite {i : Fin 32} {s t u : State} {c : Prop} [Decidable c] (ht : CountKept i s t)
    (hu : CountKept i s u) : CountKept i s (if c then t else u) := by
  split
  · exact ht
  · exact hu

theorem CountKept.foldl {α : Type} {i : Fin 32} {f : State → α → State} (hf : ∀ s a, CountKept i s (f s a)) (l : List α)
    (s : State) : CountKept i s (l.foldl f s) := by
  induction l generalizing s with
  | nil => exact .refl i s
  | cons a l ih => exact (hf s a).trans (ih (f s a))

/-- Counting one counter leaves the others. -/
theorem emit_count_kept {i j : Fin 32} (h : j ≠ i) (s : State) : CountKept i s (emit [.count j] s) := by
  change (bump j s).counters[i] = _
  rw [bump_counters, Fin.getElem_fin, upd_getElem, if_neg (mt Fin.ext h)]
  rfl

theorem emit_count_self (i : Fin 32) (s : State) : (emit [.count i] s).counters[i] = s.counters[i].bumped := by
  change (bump i s).counters[i] = _
  rw [bump_counters, Fin.getElem_fin, upd_getElem, if_pos rfl]
  rfl

/-! ### Faults count nothing -/

/-- What a change of the Fault Manager hands on holds no count. -/
def FaultStep.Countless (x : FaultStep) : Prop := ∀ i, Output.count i ∉ x.2

theorem faultOuts_countless (a : FaultAction) (r : FaultRecord) (n : Byte) (st : Option FaultState) (sl : Option (Fin 32))
    (q : Requester) (i : Fin 32) : Output.count i ∉ faultOuts a r n st sl q := by
  simp [faultOuts]

theorem FaultStep.Countless.next {x : FaultStep} {g : FaultManager → FaultStep} (hx : x.Countless)
    (hg : ∀ f, (g f).Countless) : (x.next g).Countless := fun i h => by
  rcases List.mem_append.1 h with h | h
  · exact hx i h
  · exact hg _ i h

theorem reraise_countless (f : FaultManager) (now : Time) (i : Fin 32) (d : Nat) : (f.reraise now i d).Countless := by
  unfold FaultManager.reraise
  split
  · exact fun _ => List.not_mem_nil
  · exact fun _ => faultOuts_countless _ _ _ _ _ _ _

theorem create_countless (f : FaultManager) (now : Time) (i : Fin 32) (k : FaultKind) (o d : Nat) :
    (f.create now i k o d).Countless := fun _ => faultOuts_countless _ _ _ _ _ _ _

theorem raiseTableFull_countless (f : FaultManager) (now : Time) (k : FaultKind) : (f.raiseTableFull now k).Countless := by
  unfold FaultManager.raiseTableFull
  split
  · exact reraise_countless _ _ _ _
  · exact create_countless _ _ _ _ _ _

theorem raised_countless (f : FaultManager) (now : Time) (n : Byte) (k : FaultKind) (o d : Nat) :
    (f.raised now n k o d).Countless := by
  unfold FaultManager.raised
  split
  · exact reraise_countless _ _ _ _
  · exact create_countless _ _ _ _ _ _
  · refine FaultStep.Countless.next ?_ fun f => create_countless f _ _ _ _ _
    intro j
    dsimp only
    split
    · exact faultOuts_countless _ _ _ _ _ _ _
    · exact List.not_mem_nil
  · exact FaultStep.Countless.next (fun _ => faultOuts_countless _ _ _ _ _ _ _) fun f => raiseTableFull_countless f _ _

theorem remove_countless (f : FaultManager) (i : Fin 32) (q : Requester) : (f.remove i q).Countless := by
  unfold FaultManager.remove
  split
  · exact fun _ => List.not_mem_nil
  · exact fun _ => faultOuts_countless _ _ _ _ _ _ _

theorem restate_countless (f : FaultManager) (now : Time) (i : Fin 32) (st : FaultState) (a : FaultAction) (q : Requester) :
    (f.restate now i st a q).Countless := by
  unfold FaultManager.restate
  split
  · exact fun _ => List.not_mem_nil
  · exact fun _ => faultOuts_countless _ _ _ _ _ _ _

theorem endAt_countless (f : FaultManager) (now : Time) (i : Fin 32) : (f.endAt now i).Countless := by
  unfold FaultManager.endAt
  split
  · exact fun _ => List.not_mem_nil
  · split
    · exact restate_countless _ _ _ _ _ _
    · exact remove_countless _ _ _
    · exact fun _ => List.not_mem_nil

theorem testTableFull_countless (f : FaultManager) (now : Time) : (f.testTableFull now).Countless := by
  unfold FaultManager.testTableFull
  split
  · exact endAt_countless _ _ _
  · exact fun _ => List.not_mem_nil

theorem ended_countless (f : FaultManager) (now : Time) (k : FaultKind) (o : Nat) : (f.ended now k o).Countless := by
  unfold FaultManager.ended
  split
  · exact fun _ => List.not_mem_nil
  · split
    · exact fun _ => List.not_mem_nil
    · exact (endAt_countless _ _ _).next fun f => testTableFull_countless f _

theorem applyFault_counters {g : FaultManager → FaultStep} (h : ∀ f, (g f).Countless) (s : State) :
    (applyFault g s).counters = s.counters := emit_counters (h s.faults) _

theorem deriveMode_counters (c : ModeCause) (s : State) : (deriveMode c s).counters = s.counters := by
  unfold deriveMode
  split
  · rfl
  · exact emit_counters (by simp) _

theorem raise_counters (k : FaultKind) (o d : Nat) (s : State) : (raise k o d s).counters = s.counters := by
  have applied := applyFault_counters (fun f => raised_countless f s.now (Config.freeByte s.free) k o d) s
  unfold raise
  dsimp only
  rw [deriveMode_counters]
  split
  · exact applied
  · exact applied

theorem endCondition_counters (k : FaultKind) (o : Nat) (s : State) : (endCondition k o s).counters = s.counters :=
  (deriveMode_counters _ _).trans (applyFault_counters (fun f => ended_countless f s.now k o) s)

/-! ### Trains -/

theorem commitRecord_counters (k : Fin 4) (c : CommitCause) (t : Time) (sh : Bool) (s : State) :
    (commitRecord k c t sh s).counters = s.counters := by
  unfold commitRecord
  split
  · rfl
  · split
    · rfl
    · exact emit_counters (by simp) _

theorem createRecord_counters (k : Fin 4) (p : Fin 12) (s : State) : (createRecord k p s).counters = s.counters :=
  emit_counters (by simp) _

theorem testPrepared_counters (k : Fin 4) (s : State) : (testPrepared k s).counters = s.counters := by
  unfold testPrepared
  split
  · exact commitRecord_counters _ _ _ _ _
  · rfl

theorem arriveRecord_counters (k : Fin 4) (p : Fin 12) (s : State) : (arriveRecord k p s).counters = s.counters := by
  unfold arriveRecord
  dsimp only
  split
  · exact commitRecord_counters _ _ _ _ _
  · exact (emit_counters (by simp) _).trans (commitRecord_counters _ _ _ _ _)

theorem guardCommit_kept (i : Fin 32) (g : Nat) (s : State) : CountKept i s (guardCommit g s) :=
  .foldl (fun s k => by split; exacts [.of_eq (commitRecord_counters _ _ _ _ _), .refl _ _]) _ _

theorem storePassage_kept (i : Fin 32) (p : PassageRecord) (s : State) : CountKept i s (storePassage p s) :=
  .of_only (storePassage_only p s) (by decide)

/-- A record that ends counts in TRAINS_PASSED or TRAINS_WITHDRAWN alone. -/
theorem endRecord_kept {i : Fin 32} (passed : cntTrainsPassed ≠ i) (withdrawn : cntTrainsWithdrawn ≠ i) (k : Fin 4)
    (s : State) : CountKept i s (endRecord k s) := by
  unfold endRecord
  split
  · exact .refl _ _
  · next r _ =>
    dsimp only
    refine CountKept.trans ?_ (storePassage_kept i _ _)
    have counted : ∀ (c : Fin 32) (o : Output) (t : State), c ≠ i → (∀ j, o ≠ .count j) →
        CountKept i t (emit [.count c, o] t) := fun c o t hc ho =>
      (emit_count_kept hc t).trans (.of_eq (emit1_counters ho _))
    refine CountKept.trans (.of_only (setRecord_only s k none) (by decide)) (counted _ _ _ ?_ (by simp))
    cases r.outcome
    · exact passed
    · exact withdrawn

theorem endRecords_kept {i : Fin 32} (passed : cntTrainsPassed ≠ i) (withdrawn : cntTrainsWithdrawn ≠ i)
    (l : List (Fin 10)) (s : State) : CountKept i s (endRecords l s) := by
  unfold endRecords
  dsimp only
  split
  · exact .refl _ _
  · exact endRecord_kept passed withdrawn _ _
  · exact CountKept.trans (.of_only (tookFree_only s) (by decide))
      (.foldl (fun s k => endRecord_kept passed withdrawn k s) _ _)

/-! ### The counters of the axles: what the Predictor and the Sequencer do does not count one -/

section
variable {i : Fin 32} (axle : i.val < 12)
include axle

theorem axle_ne {j : Fin 32} (h : 12 ≤ j.val) : j ≠ i := fun e => by subst e; omega

theorem speedChecks_kept (k : Fin 4) (p : Fin 12) (n : Option Nat) (s : State) : CountKept i s (speedChecks k p n s) := by
  unfold speedChecks
  split
  · exact emit_count_kept (axle_ne axle (by decide)) _
  · split
    · exact .refl _ _
    · split
      · exact (emit_count_kept (axle_ne axle (by decide)) _).trans (.of_eq (raise_counters _ _ _ _))
      · exact .refl _ _

theorem commitTest_kept (k : Fin 4) (t : Nat) (s : State) : CountKept i s (commitTest k t s) := by
  have commits := fun sh => CountKept.of_eq (i := i) (commitRecord_counters k .prediction s.now sh s)
  unfold commitTest
  split
  · exact .refl _ _
  · split
    · exact .refl _ _
    · split
      · split
        · exact ((commits _).trans (emit_count_kept (axle_ne axle (by decide)) _)).trans (.of_eq (raise_counters _ _ _ _))
        · exact commits _
      · exact .refl _ _

theorem predict_kept (k : Fin 4) (p : Fin 12) (n : Option Nat) (s : State) : CountKept i s (predict k p n s) := by
  unfold predict
  split
  · exact .refl _ _
  · dsimp only
    refine CountKept.trans ?_ (commitTest_kept axle _ _ _)
    refine CountKept.trans ?_ (.of_eq (emit_counters (by simp) _))
    exact (speedChecks_kept axle _ _ _ _).trans (.of_only (setRecord_only _ _ _) (by decide))

theorem lateClosureTest_kept (k : Fin 4) (s : State) : CountKept i s (lateClosureTest k s) := by
  unfold lateClosureTest
  split
  · exact .refl _ _
  · exact (emit_count_kept (axle_ne axle (by decide)) _).trans (.of_eq (raise_counters _ _ _ _))

omit axle in
theorem seqGo_counters (x : SeqState) (c : SeqCause) (b : Bool) (n : Option Nat) (s : State) :
    (seqGo x c b n s).counters = s.counters := emit_counters (by simp) _

omit axle in
theorem seqMove_kept (x : SeqState) (c : SeqCause) (s : State) : CountKept i s (seqMove x c s) :=
  .of_eq (seqGo_counters _ _ _ _ _)

omit axle in
theorem lampCommand_kept (c : LampCmd) (s : State) : CountKept i s (lampCommand c s) :=
  .of_only (lampCommand_only c s) (by decide)

omit axle in
theorem releaseBarrier_kept (b : Fin 4) (s : State) : CountKept i s (releaseBarrier b s) :=
  .of_only (releaseBarrier_only b s) (by decide)

omit axle in
theorem raiseBarrier_kept (b : Fin 4) (s : State) : CountKept i s (raiseBarrier b s) := by
  unfold raiseBarrier
  dsimp only
  split
  · exact .of_eq (endCondition_counters _ _ _)
  · exact .refl _ _

omit axle in
theorem toBarriers_kept (p : Barrier → Bool) (f : Fin 4 → State → State) (h : ∀ b s, CountKept i s (f b s)) (s : State) :
    CountKept i s (toBarriers p f s) :=
  .foldl (fun s b => by split; exacts [h b s, .refl _ _]) _ _

theorem cntClosureBin_ne (ms : Nat) : cntClosureBin ms ≠ i := by
  refine axle_ne axle ?_
  unfold cntClosureBin
  repeat' split
  all_goals decide

theorem enterOpen_kept (s : State) : CountKept i s (enterOpen s) := by
  have opens := fun t b n => (CountKept.of_eq (i := i) (seqGo_counters .roadOpen .barriers b n t)).trans
    (lampCommand_kept .dark _)
  have ends := fun t => CountKept.of_eq (i := i) (endCondition_counters .longClosure 0 t)
  have bins : ∀ (len : Option Nat) (t : State), CountKept i t
      (match len with | some ms => emit [.count (cntClosureBin ms)] t | none => t) := fun len t => by
    cases len with
    | none => exact .refl _ _
    | some ms => exact emit_count_kept (cntClosureBin_ne axle ms) t
  unfold enterOpen
  dsimp only
  split
  · exact ((opens (s.setSeq _) _ _).trans (bins _ _)).trans (ends _)
  · exact (opens (s.setSeq _) _ _).trans (bins _ _)

theorem leaveOpen_kept (x : SeqState) (c : SeqCause) (l : LampCmd) (s : State) : CountKept i s (leaveOpen x c l s) := by
  unfold leaveOpen
  dsimp only
  refine CountKept.trans ?_ (lampCommand_kept _ _)
  refine CountKept.trans ?_ (.of_only (abortTest_only _) (by decide))
  refine CountKept.trans ?_ (.of_eq (seqGo_counters _ _ _ _ _))
  exact emit_count_kept (axle_ne axle (by decide)) (s.setSeq _)

theorem testRaising_kept (s : State) : CountKept i s (testRaising s) := .ite (enterOpen_kept axle s) (.refl _ _)

theorem enterRaising_kept (s : State) : CountKept i s (enterRaising s) :=
  (((seqMove_kept _ _ s).trans (lampCommand_kept _ _)).trans (toBarriers_kept _ _ raiseBarrier_kept _)).trans
    (testRaising_kept axle _)

theorem testClosed_kept (s : State) : CountKept i s (testClosed s) :=
  .ite (.ite (guardCommit_kept _ _ _) (enterRaising_kept axle s)) (.refl _ _)

omit axle in
/-- A move of the Sequencer with its lamp and release commands. -/
theorem moveAndRelease_kept (x : SeqState) (c : SeqCause) (l : LampCmd) (p : Barrier → Bool) (s : State) :
    CountKept i s (toBarriers p releaseBarrier (lampCommand l (seqMove x c s))) :=
  ((seqMove_kept _ _ s).trans (lampCommand_kept _ _)).trans (toBarriers_kept _ _ releaseBarrier_kept _)

theorem enterClosed_kept (s : State) : CountKept i s (enterClosed s) :=
  (moveAndRelease_kept _ _ _ _ s).trans (testClosed_kept axle _)

theorem testLowerExit_kept (s : State) : CountKept i s (testLowerExit s) := .ite (enterClosed_kept axle s) (.refl _ _)

theorem enterLowerExit_kept (s : State) : CountKept i s (enterLowerExit s) :=
  (moveAndRelease_kept _ _ _ _ s).trans (testLowerExit_kept axle _)

theorem testLowerEntry_kept (s : State) : CountKept i s (testLowerEntry s) :=
  .ite (.ite (enterLowerExit_kept axle (s.setSeq _)) (enterClosed_kept axle (s.setSeq _))) (.refl _ _)

theorem reclose_kept (s : State) : CountKept i s (reclose s) := by
  unfold reclose
  dsimp only
  refine CountKept.trans ?_ (testLowerEntry_kept axle _)
  exact (moveAndRelease_kept _ _ _ _ s).trans (.of_only (setExitMark_only _) (by decide))

theorem takeDemand_kept (s : State) : CountKept i s (takeDemand s) := by
  unfold takeDemand
  split
  · exact .ite (leaveOpen_kept axle _ _ _ _) (.refl _ _)
  · exact .ite (reclose_kept axle _) (.refl _ _)
  · exact testClosed_kept axle _
  · exact .refl _ _

theorem arrival_kept (k : Fin 4) (p : Fin 12) (s : State) : CountKept i s (arrival k p s) := by
  have arrives : CountKept i s (arriveRecord k p s) := .of_eq (arriveRecord_counters k p s)
  unfold arrival
  dsimp only
  split
  · refine CountKept.trans ?_ (lateClosureTest_kept axle _ _)
    exact .ite (arrives.trans (takeDemand_kept axle (State.tookFree _))) arrives
  · exact arrives.trans (lateClosureTest_kept axle _ _)

theorem takeAxle_kept (p : Fin 12) (d : Dir) (n : Option Nat) (s : State) : CountKept i s (takeAxle p d n s) := by
  have creates := fun k => CountKept.of_eq (i := i) (createRecord_counters k p s)
  unfold takeAxle
  split
  · exact .refl _ _
  · dsimp only
    split
    · split
      · exact (creates _).trans (arrival_kept axle _ _ _)
      · split
        · exact arrival_kept axle _ _ _
        · exact .of_only (islandEntry_only _ s) (by decide)
    · split
      · split
        · exact ((creates _).trans (predict_kept axle _ _ _ _)).trans (.of_eq (testPrepared_counters _ _))
        · exact .ite (predict_kept axle _ _ _ _) (.refl _ _)
      · exact .refl _ _

end

end Sys2Proof.Machine
end

section
/-! PROOFS. What an axle event and a skew event bring to the sections of their point, with the records and raises that follow
(R23 to R30), and the records of trains that end (R59). -/

namespace Sys2Proof.Machine

/-! ### Records written one after another -/

/-- The SECTION records of an event: object and data. -/
def sectionLogs (rows : List (Nat × List Byte)) : List Output := rows.map fun x => .log .sectionState x.1 x.2

theorem emit_sectionLogs_only (rows : List (Nat × List Byte)) (s : State) :
    Only [.log, .notices] s (emit (sectionLogs rows) s) := by
  induction rows generalizing s with
  | nil => exact Only.refl _ _
  | cons x rows ih => exact (writeLog_only .sectionState x.1 x.2 s).trans (ih _)

theorem writeLog_memory {s : State} (run : s.part = .run) (k : LogKind) (o : Nat) (d : List Byte) :
    (writeLog k o d s).memory = s.memory.append s.now k o d := by
  unfold writeLog
  rw [if_pos run]
  dsimp only
  split
  · unfold queueNotice
    split <;> rfl
  · rfl

/-- In RUN the records join the log in the order they are handed over (R177, R179). -/
theorem emit_sectionLogs_memory (rows : List (Nat × List Byte)) {s : State} (run : s.part = .run) :
    (emit (sectionLogs rows) s).memory = rows.foldl (fun m x => m.append s.now .sectionState x.1 x.2) s.memory := by
  induction rows generalizing s with
  | nil => rfl
  | cons x rows ih =>
    have written := writeLog_only .sectionState x.1 x.2 s
    have rest := ih (s := writeLog .sectionState x.1 x.2 s) ((written.part_eq (by decide)).trans run)
    rw [(written.clock_eq (by decide)).1, writeLog_memory run] at rest
    exact rest

/-! ### One section's change -/

theorem sectionData_eq (old new : Sect) (c : SectionCause) (p : Fin 12) :
    sectionData old new c (some p) = sectionRow old new c (some p) := by
  cases c <;> rfl

theorem SectionCause.detail_eq (c : SectionCause) : c.detail = disturbDetail c := by cases c <;> rfl

/-- A section's cause names a change of its state: the two go together (R30). -/
def SectChange.Telling (old : Sect) (x : SectChange) : Prop := x.cause.isSome = true ↔ x.new.state ≠ old.state

theorem Sect.enter_telling (c : Sect) : c.enter.Telling c := by
  unfold Sect.enter SectChange.Telling
  split
  · next h => simp [Sect.become, h]
  · next h => split <;> simp [Sect.become, Sect.disturb, h]
  · next h => simp [Sect.become, h]
  · simp
  · simp

theorem Sect.leave_telling (c : Sect) : c.leave.Telling c := by
  unfold Sect.leave SectChange.Telling
  split
  · next h => split <;> simp [Sect.become, h]
  · next h => simp [Sect.become, Sect.disturb, h]
  · next h => simp [Sect.become, Sect.disturb, h]
  · simp
  · simp

theorem Sect.skewed_telling (c : Sect) : c.skewed.Telling c := by
  unfold Sect.skewed SectChange.Telling
  split
  · simp
  · next st notDisturbed h =>
    have differs : SectionState.disturbed ≠ st := fun e => notDisturbed e.symm
    simp [Sect.disturb, Sect.become, h, differs]
  · simp

/-! ### An event's effects taken by the Section Counter -/

/-- The SECTION records of an event's effects, as the statements list them. -/
def effectRows (es : List SectEffect) (p : Fin 12) : List (Nat × List Byte) :=
  es.filterMap fun e => e.change.cause.map fun c => (e.index.val, sectionRow e.old e.change.new c (some p))

/-- The raises of SECTION_DISTURBED of an event's effects, as the statements list them. -/
def effectRaises (es : List SectEffect) : List (Nat × Nat) :=
  es.filterMap fun e => (e.change.cause.bind disturbDetail).map fun d => (e.index.val, d)

theorem effects_outs (es : List SectEffect) (p : Fin 12) :
    (es.map fun e => e.outs (some p)).flatten = sectionLogs (effectRows es p) := by
  induction es with
  | nil => rfl
  | cons e es ih =>
    rw [List.map_cons, List.flatten_cons, ih]
    simp only [effectRows, SectEffect.outs, List.filterMap_cons, sectionLogs]
    cases e.change.cause with
    | none => rfl
    | some c => simp [sectionData_eq]

theorem effects_raised (es : List SectEffect) (s : State) :
    es.foldl (fun s e => e.raised s) s =
      (effectRaises es).foldl (fun t x => raise .sectionDisturbed x.1 x.2 t) s := by
  induction es generalizing s with
  | nil => rfl
  | cons e es ih =>
    rw [List.foldl_cons, ih]
    simp only [effectRaises, SectEffect.raised, List.filterMap_cons]
    cases e.change.cause with
    | none => rfl
    | some c =>
      simp only [SectionCause.detail_eq, Option.bind_some]
      cases disturbDetail c <;> rfl

/-- The sections with an event's changes made. -/
def setEffects (es : List SectEffect) (s : State) : State := es.foldl (fun s e => s.setSect e.index fun _ => e.change.new) s

theorem applyEffects_eq (es : List SectEffect) (p : Fin 12) (s : State) :
    applyEffects es (some p) s =
      (effectRaises es).foldl (fun t x => raise .sectionDisturbed x.1 x.2 t)
        (emit (sectionLogs (effectRows es p)) (setEffects es s)) := by
  unfold applyEffects
  rw [effects_outs, effects_raised]
  rfl

theorem setEffects_memory (es : List SectEffect) (s : State) : (setEffects es s).memory = s.memory := by
  unfold setEffects
  induction es generalizing s with
  | nil => rfl
  | cons e es ih => exact ih _

theorem applyEffects_takes {es : List SectEffect} {p : Fin 12} {s : State} (run : s.part = .run)
    (keep : ∀ e ∈ es, e.Keeps s) : SectionsTake es p s (applyEffects es (some p) s) := by
  have set : Only [.sections] s (setEffects es s) := setEffects_only es s keep
  have logged := emit_sectionLogs_only (effectRows es p) (setEffects es s)
  refine ⟨_, set.seq logged (by decide) (by decide), ?_, applyEffects_eq es p s⟩
  rw [emit_sectionLogs_memory _ ((set.part_eq (by decide)).trans run), setEffects_memory,
    (set.clock_eq (by decide)).1]
  rfl

theorem applyEffects_sections (es : List SectEffect) (p : Option (Fin 12)) (s : State) :
    (applyEffects es p s).sections = (setEffects es s).sections := by
  have raised := Only.foldl (fun s (e : SectEffect) => e.raised_only s) es
    (emit (es.map fun e => e.outs p).flatten (setEffects es s))
  exact (raised.sections_eq (by decide)).trans ((emit_only _ _).sections_eq (by decide))

theorem applyEffects_counters (es : List SectEffect) (p : Fin 12) (s : State) :
    (applyEffects es (some p) s).counters = s.counters := by
  have raised : ∀ (rs : List (Nat × Nat)) (t : State),
      (rs.foldl (fun t x => raise .sectionDisturbed x.1 x.2 t) t).counters = t.counters := fun rs => by
    induction rs with
    | nil => exact fun _ => rfl
    | cons x rs ih => exact fun t => (ih _).trans (raise_counters _ _ _ _)
  have set : (setEffects es s).counters = s.counters := by
    unfold setEffects
    induction es generalizing s with
    | nil => rfl
    | cons e es ih => exact ih _
  rw [applyEffects_eq, raised, (emit_sectionLogs_only _ _).counters_eq (by decide), set]

/-! ### The two events' effects -/

theorem axleEffects_eq (s : State) (p : Fin 12) (d : Dir) : s.axleEffects p d = axleTurns s p d := by
  unfold State.axleEffects axleTurns
  cases s.leaving p d <;> cases s.entering p d <;> rfl

theorem skewEffects_eq (s : State) (p : Fin 12) : s.skewEffects p = skewTurns s p := by
  unfold State.skewEffects skewTurns State.leaving State.entering
  dsimp only
  cases s.sectionEndingAt p <;> cases s.sectionStartingAt p <;> rfl

theorem setSect_getElem (s : State) (j : Fin 10) (x : Sect) (i : Fin 10) :
    (s.setSect j fun _ => x).sections[i] = if j = i then x else s.sections[i] := by
  simp [Fin.ext_iff]

theorem setEffects_append (es fs : List SectEffect) (s : State) :
    setEffects (es ++ fs) s = setEffects fs (setEffects es s) := List.foldl_append

/-- The section that a half of an event names, where it names one, takes the half's change. -/
theorem setEffects_half (s t : State) (o : Option (Fin 10)) (f : Sect → SectChange) (i : Fin 10) :
    (setEffects (o.map fun j => ⟨j, s.sections[j], f s.sections[j]⟩).toList t).sections[i] =
      if o = some i then (f s.sections[i]).new else t.sections[i] := by
  cases o with
  | none => rfl
  | some j =>
    change (t.setSect j fun _ => (f s.sections[j]).new).sections[i] = _
    rw [setSect_getElem]
    by_cases e : j = i
    · subst e; simp
    · simp [e]

theorem setEffects_axle (s : State) (p : Fin 12) (d : Dir) (i : Fin 10) :
    (setEffects (axleTurns s p d) s).sections[i] =
      if s.entering p d = some i then s.sections[i].enter.new
      else if s.leaving p d = some i then s.sections[i].leave.new else s.sections[i] := by
  rw [← axleEffects_eq, State.axleEffects, setEffects_append, setEffects_half, setEffects_half]

theorem setEffects_skew (s : State) (p : Fin 12) (i : Fin 10) :
    (setEffects (skewTurns s p) s).sections[i] =
      if s.sectionEndingAt p = some i ∨ s.sectionStartingAt p = some i then s.sections[i].skewed.new
      else s.sections[i] := by
  rw [← skewEffects_eq, State.skewEffects, setEffects_append, setEffects_half, setEffects_half]
  by_cases ending : s.sectionEndingAt p = some i <;> simp [ending]

/-- The sections whose state an event changes are those whose change has a cause. -/
theorem mem_changedBy (es : List SectEffect) (i : Fin 10) :
    i ∈ changedBy es ↔ ∃ e ∈ es, e.change.cause.isSome = true ∧ e.index = i := by
  simp [changedBy, and_assoc]

theorem mem_changedBy_axle (s : State) (p : Fin 12) (d : Dir) (i : Fin 10) :
    i ∈ changedBy (axleTurns s p d) ↔
      (s.leaving p d = some i ∧ s.sections[i].leave.new.state ≠ s.sections[i].state) ∨
        (s.entering p d = some i ∧ s.sections[i].enter.new.state ≠ s.sections[i].state) := by
  rw [mem_changedBy, ← axleEffects_eq]
  simp only [State.axleEffects, List.mem_append, Option.mem_toList, Option.map_eq_some_iff]
  constructor
  · rintro ⟨e, ⟨j, at_, rfl⟩ | ⟨j, at_, rfl⟩, told, rfl⟩
    · exact .inl ⟨at_, (Sect.leave_telling _).1 told⟩
    · exact .inr ⟨at_, (Sect.enter_telling _).1 told⟩
  · rintro (⟨at_, told⟩ | ⟨at_, told⟩)
    · exact ⟨_, .inl ⟨i, at_, rfl⟩, (Sect.leave_telling _).2 told, rfl⟩
    · exact ⟨_, .inr ⟨i, at_, rfl⟩, (Sect.enter_telling _).2 told, rfl⟩

theorem mem_changedBy_skew (s : State) (p : Fin 12) (i : Fin 10) :
    i ∈ changedBy (skewTurns s p) ↔
      (s.sectionEndingAt p = some i ∨ s.sectionStartingAt p = some i) ∧
        s.sections[i].skewed.new.state ≠ s.sections[i].state := by
  rw [mem_changedBy, ← skewEffects_eq]
  simp only [State.skewEffects, List.mem_append, Option.mem_toList, Option.map_eq_some_iff]
  constructor
  · rintro ⟨e, ⟨j, at_, rfl⟩ | ⟨j, at_, rfl⟩, told, rfl⟩
    · exact ⟨.inl at_, (Sect.skewed_telling _).1 told⟩
    · exact ⟨.inr at_, (Sect.skewed_telling _).1 told⟩
  · rintro ⟨at_ | at_, told⟩
    · exact ⟨_, .inl ⟨i, at_, rfl⟩, (Sect.skewed_telling _).2 told, rfl⟩
    · exact ⟨_, .inr ⟨i, at_, rfl⟩, (Sect.skewed_telling _).2 told, rfl⟩

/-! ### An axle event, a skew event -/

/-- The sections an event names depend on the sections alone. -/
theorem axleTurns_congr {s w : State} (h : w.sections = s.sections) (p : Fin 12) (d : Dir) :
    axleTurns w p d = axleTurns s p d := by
  have ends : w.sectionEndingAt p = s.sectionEndingAt p := by simp only [State.sectionEndingAt, h]
  have starts : w.sectionStartingAt p = s.sectionStartingAt p := by simp only [State.sectionStartingAt, h]
  cases d <;> simp only [axleTurns, State.leaving, State.entering, ends, starts, h]

theorem skewTurns_congr {s w : State} (h : w.sections = s.sections) (p : Fin 12) : skewTurns w p = skewTurns s p := by
  have ends : w.sectionEndingAt p = s.sectionEndingAt p := by simp only [State.sectionEndingAt, h]
  have starts : w.sectionStartingAt p = s.sectionStartingAt p := by simp only [State.sectionStartingAt, h]
  simp only [skewTurns, State.leaving, State.entering, ends, starts, h]

theorem emit_count_only (i : Fin 32) (s : State) : Only [.counters, .notices] s (emit [.count i] s) := bump_only i s

/-- The state after an event's count and its section changes. -/
def eventTaken (i : Fin 32) (es : List SectEffect) (p : Fin 12) (s : State) : State :=
  applyEffects es (some p) (emit [.count i] s)

theorem axleEvent_eq (p : Fin 12) (d : Dir) (n : Option Nat) (s : State) :
    axleEvent p d n s =
      endRecords (changedBy (axleTurns s p d))
        (takeAxle p d n (eventTaken (cntAxles p) (axleTurns s p d) p s)) := by
  have sections := (emit_count_only (cntAxles p) s).sections_eq (by decide)
  unfold axleEvent eventTaken
  dsimp only
  rw [axleEffects_eq, axleTurns_congr sections]

theorem skewEvent_eq (p : Fin 12) (s : State) :
    skewEvent p s =
      endRecords (changedBy (skewTurns s p)) (eventTaken cntSequenceErrors (skewTurns s p) p s) := by
  have sections := (emit_count_only cntSequenceErrors s).sections_eq (by decide)
  unfold skewEvent eventTaken
  dsimp only
  rw [skewEffects_eq, skewTurns_congr sections]

section
variable {s : State} {es : List SectEffect} (i : Fin 32) (p : Fin 12) (keep : ∀ e ∈ es, e.Keeps s)
include keep

theorem counted_keep : ∀ e ∈ es, e.Keeps (emit [.count i] s) := fun e he => by
  have sections := (emit_count_only i s).sections_eq (by decide)
  unfold SectEffect.Keeps
  rw [sections]
  exact keep e he

theorem eventTaken_only : Only (.sections :: faultBlocks) s (eventTaken i es p s) :=
  ((emit_count_only i s).mono (by decide)).trans (applyEffects_only es (some p) _ (counted_keep i keep))

theorem eventTaken_takes (run : s.part = .run) : SectionsTake es p (emit [.count i] s) (eventTaken i es p s) :=
  applyEffects_takes (((emit_count_only i s).part_eq (by decide)).trans run) (counted_keep i keep)

end

theorem setEffects_congr {s w : State} (h : w.sections = s.sections) (es : List SectEffect) :
    (setEffects es w).sections = (setEffects es s).sections := by
  unfold setEffects
  induction es generalizing s w with
  | nil => exact h
  | cons e es ih => exact ih (by simp only [State.setSect_sections, h])

theorem eventTaken_sections (i : Fin 32) (es : List SectEffect) (p : Fin 12) (s : State) :
    (eventTaken i es p s).sections = (setEffects es s).sections :=
  (applyEffects_sections es (some p) _).trans (setEffects_congr ((emit_count_only i s).sections_eq (by decide)) es)

theorem eventTaken_count (i : Fin 32) (es : List SectEffect) (p : Fin 12) (s : State) :
    (eventTaken i es p s).counters[i] = s.counters[i].bumped := by
  rw [eventTaken, applyEffects_counters, emit_count_self]

theorem axleTurns_keep (s : State) (p : Fin 12) (d : Dir) : ∀ e ∈ axleTurns s p d, e.Keeps s := by
  rw [← axleEffects_eq]
  exact axleEffects_keep s p d

theorem skewTurns_keep (s : State) (p : Fin 12) : ∀ e ∈ skewTurns s p, e.Keeps s := by
  rw [← skewEffects_eq]
  exact skewEffects_keep s p

/-- What an axle event does: the count, the two sections with their records and raises, the Predictor, the records that
end (R23, R24, R30, R42, R59). -/
theorem axleEvent_effect (p : Fin 12) (d : Dir) (n : Option Nat) {s : State} (run : s.part = .run) :
    (axleEvent p d n s).points = s.points ∧
      (axleEvent p d n s).counters[cntAxles p] = s.counters[cntAxles p].bumped ∧
      (∀ i : Fin 10, (axleEvent p d n s).sections[i] =
        if s.entering p d = some i then s.sections[i].enter.new
        else if s.leaving p d = some i then s.sections[i].leave.new else s.sections[i]) ∧
      ∃ (w v : State) (changed : List (Fin 10)),
        axleEvent p d n s = endRecords changed (takeAxle p d n v) ∧ Only [.counters, .notices] s w ∧
        SectionsTake (axleTurns s p d) p w v ∧
        (∀ i : Fin 10, i ∈ changed ↔
          (s.leaving p d = some i ∧ s.sections[i].leave.new.state ≠ s.sections[i].state) ∨
            (s.entering p d = some i ∧ s.sections[i].enter.new.state ≠ s.sections[i].state)) ∧
        v.points = (axleEvent p d n s).points ∧ v.sections = (axleEvent p d n s).sections ∧
        Only (.sections :: faultBlocks) s v := by
  have taken := eventTaken_only (cntAxles p) p (axleTurns_keep s p d)
  have rest := (takeAxle_only p d n (eventTaken (cntAxles p) (axleTurns s p d) p s)).seq
    (endRecords_only (changedBy (axleTurns s p d)) _) (cs := ([.passages, .free] : List Block) ++ seqBlocks) (by decide) (by decide)
  rw [← axleEvent_eq] at rest
  refine ⟨(axleEvent_only p d n s).points_eq (by decide), ?_, fun i => ?_, _, _, _, axleEvent_eq p d n s,
    emit_count_only _ _, eventTaken_takes (cntAxles p) p (axleTurns_keep s p d) run, mem_changedBy_axle s p d,
    (rest.points_eq (by decide)).symm, (rest.sections_eq (by decide)).symm, taken⟩
  · have axle : (cntAxles p).val < 12 := p.isLt
    have ends := endRecords_kept (axle_ne axle (by decide)) (axle_ne axle (by decide)) (changedBy (axleTurns s p d))
      (takeAxle p d n (eventTaken (cntAxles p) (axleTurns s p d) p s))
    have kept := (takeAxle_kept axle p d n _).trans ends
    rw [axleEvent_eq]
    exact Eq.trans kept (eventTaken_count _ _ _ _)
  · rw [rest.sections_eq (by decide), eventTaken_sections, setEffects_axle]

/-- What a skew event does: the count, the sections of the point with their records and raises, the records that end (R11,
R27, R30, R59). -/
theorem skewEvent_effect (p : Fin 12) {s : State} (run : s.part = .run) :
    (skewEvent p s).points = s.points ∧
      (skewEvent p s).counters[(17 : Fin 32)] = s.counters[(17 : Fin 32)].bumped ∧
      (∀ i : Fin 10, (skewEvent p s).sections[i] =
        if s.sectionEndingAt p = some i ∨ s.sectionStartingAt p = some i then s.sections[i].skewed.new
        else s.sections[i]) ∧
      ∃ (w v : State) (changed : List (Fin 10)),
        skewEvent p s = endRecords changed v ∧ Only [.counters, .notices] s w ∧ SectionsTake (skewTurns s p) p w v ∧
        (∀ i : Fin 10, i ∈ changed ↔ (s.sectionEndingAt p = some i ∨ s.sectionStartingAt p = some i) ∧
          s.sections[i].skewed.new.state ≠ s.sections[i].state) ∧
        Only (.sections :: faultBlocks) s v := by
  have taken := eventTaken_only cntSequenceErrors p (skewTurns_keep s p)
  have rest := endRecords_only (changedBy (skewTurns s p)) (eventTaken cntSequenceErrors (skewTurns s p) p s)
  refine ⟨(skewEvent_only p s).points_eq (by decide), ?_, fun i => ?_, _, _, _, skewEvent_eq p s, emit_count_only _ _,
    eventTaken_takes cntSequenceErrors p (skewTurns_keep s p) run, mem_changedBy_skew s p, taken⟩
  · have kept := endRecords_kept (i := 17) (by decide) (by decide) (changedBy (skewTurns s p))
      (eventTaken cntSequenceErrors (skewTurns s p) p s)
    rw [skewEvent_eq]
    exact Eq.trans kept (eventTaken_count cntSequenceErrors _ _ _)
  · rw [skewEvent_eq, rest.sections_eq (by decide), eventTaken_sections, setEffects_skew]

end Sys2Proof.Machine
end

section
/-! PROOFS. The Point Monitor (ch. 1): the machine's turn in one head tick by the table of section 1.3, and what a tick of a
point brings to the rest of the part. -/

namespace Sys2Proof.Machine

/-! ### The turn of the machine in one head tick -/

/-- What one head tick makes of a point whose stuck timeout does not expire: the samples accepted, then the machine. -/
def Point.turn (x : Point) (a b : Window) (t : Tick) : PointStep :=
  (x.accept a b).evaluate (x.accA != a.accepted) (x.accB != b.accepted) t

theorem Point.quietUpdate_eq (x : Point) (now : Time) :
    x.quietUpdate now = { x with quiet := quietAfter x x.accA x.accB now } := by
  unfold Point.quietUpdate quietAfter
  by_cases fault : x.headFault = true
  · rw [if_pos fault, if_pos fault]
    split <;> rfl
  · rw [if_neg fault, if_neg fault]

theorem Point.taken_eq (x : Point) (t : Tick) :
    x.taken t = if x.rocked then none
      else x.stamp.bind fun t0 => if 65535 < ticksSince t t0 then none else some (max 1 (ticksSince t t0)) := by
  unfold Point.taken
  cases x.stamp <;> rfl

/-- Out of SKEW, a change of head A alone is taken by the machine's A side. -/
theorem Point.turn_changeA {x : Point} {a b : Window} {on : Bool} (t : Tick) (noSkew : x.seq ≠ .skew)
    (alone : ChangesAlone x a b true on) : x.turn a b t = (x.accept a b).changeA t := by
  obtain ⟨shows, was, other⟩ : a.accepted = on ∧ x.accA = !on ∧ b.accepted = x.accB := alone
  have changed : (x.accA != a.accepted) = true := by rw [shows, was]; cases on <;> rfl
  have same : (x.accB != b.accepted) = false := by rw [other]; simp
  unfold Point.turn Point.evaluate
  rw [changed, same]
  split
  · next e => exact absurd e noSkew
  · rfl

/-- Out of SKEW, a change of head B alone is taken by the machine's B side. -/
theorem Point.turn_changeB {x : Point} {a b : Window} {on : Bool} (t : Tick) (noSkew : x.seq ≠ .skew)
    (alone : ChangesAlone x a b false on) : x.turn a b t = (x.accept a b).changeB t := by
  obtain ⟨shows, was, other⟩ : b.accepted = on ∧ x.accB = !on ∧ a.accepted = x.accA := alone
  have changed : (x.accB != b.accepted) = true := by rw [shows, was]; cases on <;> rfl
  have same : (x.accA != a.accepted) = false := by rw [other]; simp
  unfold Point.turn Point.evaluate
  rw [changed, same]
  split
  · next e => exact absurd e noSkew
  · rfl

/-- Out of SKEW, a change of both heads leads to SKEW (R10). -/
theorem Point.turn_both {x : Point} {a b : Window} (t : Tick) (noSkew : x.seq ≠ .skew) (changedA : x.accA ≠ a.accepted)
    (changedB : x.accB ≠ b.accepted) : x.turn a b t = (x.accept a b).enterSkew t := by
  unfold Point.turn Point.evaluate
  rw [bne_iff_ne.2 changedA, bne_iff_ne.2 changedB]
  split
  · next e => exact absurd e noSkew
  · rfl

/-- In SKEW the machine waits for both heads off (R11). -/
theorem Point.turn_skew {x : Point} {a b : Window} (t : Tick) (skew : x.seq = .skew) :
    x.turn a b t = (x.accept a b).waitSkew t := by
  unfold Point.turn Point.evaluate
  rw [show (x.accept a b).seq = .skew from skew]

theorem Point.waitSkew_on {x : Point} (t : Tick) (on : x.accA = true ∨ x.accB = true) : x.waitSkew t = ⟨x, none⟩ := by
  rcases on with on | on <;> simp [Point.waitSkew, on]

theorem Point.waitSkew_off {x : Point} (t : Tick) (offA : x.accA = false) (offB : x.accB = false) :
    x.waitSkew t = ⟨{ x with seq := .idle, lastCount := t.ms, quietMark := false }, some .skew⟩ := by
  simp [Point.waitSkew, Point.counted, offA, offB]

/-- A point as both heads change in one tick. -/
theorem Point.enterSkew_eq (x : Point) (t : Tick) :
    x.enterSkew t = ({ x with
      seq := .skew, stamp := none, interval := none, rocked := false
      leave := if x.seq = .idle then t.ms else x.leave } : Point).waitSkew t := by
  unfold Point.enterSkew
  dsimp only
  split <;> rfl

/-- The point that the table of section 1.3 leaves, the two counting transitions apart. -/
def Point.moved (x : Point) (m : HeadMove) (t : Tick) : Point :=
  { x with
    seq := m.next
    stamp := if m.seq = .idle then some t else if m.next = .idle then none else x.stamp
    interval :=
      if m.seq = .idle then none
      else if m.on ∧ (m.seq = .ab1 ∨ m.seq = .ba1) then
        (if x.rocked then none
          else x.stamp.bind fun t0 => if 65535 < ticksSince t t0 then none else some (max 1 (ticksSince t t0)))
      else x.interval
    rocked :=
      if m.seq = .idle then false
      else x.rocked || decide ((m.seq = .ab2 ∧ m.next = .ab1) ∨ (m.seq = .ba2 ∧ m.next = .ba1) ∨
        (m.seq = .ab3 ∧ m.next = .ab2) ∨ (m.seq = .ba3 ∧ m.next = .ba2))
    leave := if m.seq = .idle then t.ms else x.leave }

theorem Point.changeA_moved {x : Point} {m : HeadMove} (t : Tick) (row : m ∈ headMoves) (headA : m.headA = true)
    (seq : x.seq = m.seq) (shows : x.accA = m.on) : x.changeA t = ⟨x.moved m t, none⟩ := by
  simp only [headMoves, List.mem_cons, List.not_mem_nil, or_false] at row
  rcases row with rfl | rfl | rfl | rfl | rfl | rfl | rfl | rfl | rfl | rfl | rfl | rfl <;>
    simp_all [Point.changeA, Point.moved, Point.begin, Point.rollBack, Point.rock, Point.second, Point.taken_eq]

theorem Point.changeB_moved {x : Point} {m : HeadMove} (t : Tick) (row : m ∈ headMoves) (headB : m.headA = false)
    (seq : x.seq = m.seq) (shows : x.accB = m.on) : x.changeB t = ⟨x.moved m t, none⟩ := by
  simp only [headMoves, List.mem_cons, List.not_mem_nil, or_false] at row
  rcases row with rfl | rfl | rfl | rfl | rfl | rfl | rfl | rfl | rfl | rfl | rfl | rfl <;>
    simp_all [Point.changeB, Point.moved, Point.begin, Point.rollBack, Point.rock, Point.second, Point.taken_eq]

theorem headMoves_noSkew {m : HeadMove} (row : m ∈ headMoves) : m.seq ≠ .skew := by
  revert m; decide

/-- A move of the table, whichever head it is of (R5 to R8). -/
theorem Point.turn_moved {x : Point} {m : HeadMove} {a b : Window} (t : Tick) (row : m ∈ headMoves) (seq : x.seq = m.seq)
    (alone : ChangesAlone x a b m.headA m.on) : x.turn a b t = ⟨(x.accept a b).moved m t, none⟩ := by
  have noSkew : x.seq ≠ .skew := seq ▸ headMoves_noSkew row
  cases side : m.headA
  · rw [side] at alone
    rw [Point.turn_changeB t noSkew alone]
    exact Point.changeB_moved t row side seq alone.1
  · rw [side] at alone
    rw [Point.turn_changeA t noSkew alone]
    exact Point.changeA_moved t row side seq alone.1

/-- The last head off counts an axle (R8, R13). -/
theorem Point.turn_axle {x : Point} {a b : Window} {d : Dir} (t : Tick)
    (ab : d = .aToB → x.seq = .ab3 ∧ ChangesAlone x a b false false)
    (ba : d = .bToA → x.seq = .ba3 ∧ ChangesAlone x a b true false) :
    x.turn a b t =
      ⟨{ x.accept a b with
          seq := .idle, stamp := none, interval := none, rocked := false, lastCount := t.ms, quietMark := false },
        some (.axle d (if x.rocked then none else x.interval))⟩ := by
  cases d with
  | aToB =>
    obtain ⟨seq, alone⟩ := ab rfl
    have off : (x.accept a b).accB = false := alone.1
    rw [Point.turn_changeB t (by simp [seq]) alone]
    unfold Point.changeB
    rw [show (x.accept a b).seq = .ab3 from seq, off]
    rfl
  | bToA =>
    obtain ⟨seq, alone⟩ := ba rfl
    have off : (x.accept a b).accA = false := alone.1
    rw [Point.turn_changeA t (by simp [seq]) alone]
    unfold Point.changeA
    rw [show (x.accept a b).seq = .ba3 from seq, off]
    rfl

theorem Point.turn_settings (x : Point) (a b : Window) (t : Tick) : (x.turn a b t).point.settings = x.settings :=
  Point.evaluate_settings _ _ _ _

/-! ### A head tick that carries no stuck timeout -/

theorem setPoint_same (s : State) (p : Fin 12) (f : Point → Point) (y : Point) :
    ((s.setPoint p f).setPoint p fun _ => y) = s.setPoint p fun _ => y := by
  simp [State.setPoint, upd]

theorem setPoint_self (s : State) (p : Fin 12) (f : Point → Point) : (s.setPoint p f).points[p] = f s.points[p] := by
  simp

theorem setPoint_other (s : State) (p : Fin 12) (f : Point → Point) {q : Fin 12} (h : q ≠ p) :
    (s.setPoint p f).points[q] = s.points[q] := by
  simp [Ne.symm (mt Fin.ext h)]

/-- The state as a tick of a point leaves it before its event: the inputs set, the point replaced. -/
def headsSet (p : Fin 12) (a b : Window) (y : Point) (s : State) : State :=
  (setHeads p a.s4 b.s4 s).setPoint p fun _ => y

theorem headsSet_only {p : Fin 12} {a b : Window} {y : Point} {s : State} (h : y.settings = s.points[p].settings) :
    Only [.pins, .points] s (headsSet p a b y s) :=
  (setHeads_only p a.s4 b.s4 s).seq (setPoint_only' (setHeads p a.s4 b.s4 s) p y h) (by decide) (by decide)

/-- The stuck timeout of a point does not fall in this tick. -/
abbrev NotStuck (s : State) (p : Fin 12) : Prop :=
  ¬(s.phase = 0 ∧ s.tStuck < elapsed s.now s.points[p].leave ∧ s.points[p].seq ≠ .idle ∧
    ¬(s.points[p].seq = .skew ∧ s.points[p].headFault = true))

theorem not_stuck {s : State} {p : Fin 12} (h : NotStuck s p) :
    (s.phase == 0 && s.points[p].stuck s.now s.tStuck) = false := by
  apply Bool.eq_false_iff.2
  simp only [Point.stuck, ne_eq, Bool.and_eq_true, beq_iff_eq, bne_iff_ne, decide_eq_true_eq, Bool.not_eq_true',
    Bool.and_eq_false_iff, beq_eq_false_iff_ne]
  rintro ⟨phase, ⟨⟨-, seq⟩, late⟩, fresh⟩
  refine h ⟨phase, late, seq, fun ⟨skew, fault⟩ => ?_⟩
  rcases fresh with noSkew | noFault
  · exact noSkew skew
  · exact Bool.false_ne_true (noFault.symm.trans fault)

/-- HEAD_CHANGE at a point in service: the turn of the machine, its quiet time, its event (R3, R4, R15). -/
theorem exec_headChange {p : Fin 12} (a b : Window) {s : State} (run : s.part = .run)
    (inService : s.points[p].inService = true) (notStuck : NotStuck s p) :
    exec (.headChange p a b) s =
      .next (react (pointEvent p (s.points[p].turn a b ⟨s.now, s.phase⟩).event
        (headsSet p a b ((s.points[p].turn a b ⟨s.now, s.phase⟩).point.quietUpdate s.now) s))) := by
  have sampled : (setHeads p a.s4 b.s4 s).sampled p = true := by
    change (s.part == .run && s.points[p].inService) = true
    rw [run, inService]
    rfl
  have expiring : ((setHeads p a.s4 b.s4 s).phase == 0 &&
      (setHeads p a.s4 b.s4 s).points[p].stuck (setHeads p a.s4 b.s4 s).now (setHeads p a.s4 b.s4 s).tStuck) = false :=
    not_stuck notStuck
  change Host.Outcome.next (if (setHeads p a.s4 b.s4 s).sampled p = true then _ else _) = _
  rw [if_pos sampled]
  congr 2
  unfold headTick
  dsimp only
  rw [expiring]
  unfold pointTick
  dsimp only
  rw [setPoint_self, setPoint_same]
  simp only [Bool.false_eq_true, if_false, Bool.and_not_self]
  rfl

/-! ### What a head tick brings: nothing more, a skew event, an axle -/

theorem sectionEndingAt_congr {s w : State} (h : w.sections = s.sections) (p : Fin 12) :
    w.sectionEndingAt p = s.sectionEndingAt p := by simp only [State.sectionEndingAt, h]

theorem sectionStartingAt_congr {s w : State} (h : w.sections = s.sections) (p : Fin 12) :
    w.sectionStartingAt p = s.sectionStartingAt p := by simp only [State.sectionStartingAt, h]

theorem leaving_congr {s w : State} (h : w.sections = s.sections) (p : Fin 12) (d : Dir) :
    w.leaving p d = s.leaving p d := by
  cases d
  · exact sectionEndingAt_congr h p
  · exact sectionStartingAt_congr h p

theorem entering_congr {s w : State} (h : w.sections = s.sections) (p : Fin 12) (d : Dir) :
    w.entering p d = s.entering p d := by
  cases d
  · exact sectionStartingAt_congr h p
  · exact sectionEndingAt_congr h p

/-- A skew event after a change that left the sections and the counters, told of the state before that change. -/
theorem skewEvent_after {p : Fin 12} {s t : State} (sections : t.sections = s.sections) (counters : t.counters = s.counters)
    (run : t.part = .run) :
    (skewEvent p t).points = t.points ∧
      (skewEvent p t).counters[(17 : Fin 32)] = s.counters[(17 : Fin 32)].bumped ∧
      (∀ i : Fin 10, (skewEvent p t).sections[i] =
        if s.sectionEndingAt p = some i ∨ s.sectionStartingAt p = some i then s.sections[i].skewed.new
        else s.sections[i]) ∧
      ∃ (w v : State) (changed : List (Fin 10)),
        skewEvent p t = endRecords changed v ∧ Only [.counters, .notices] t w ∧ SectionsTake (skewTurns s p) p w v ∧
        (∀ i : Fin 10, i ∈ changed ↔ (s.sectionEndingAt p = some i ∨ s.sectionStartingAt p = some i) ∧
          s.sections[i].skewed.new.state ≠ s.sections[i].state) ∧
        Only (.sections :: faultBlocks) t v := by
  have effect := skewEvent_effect p run
  rw [skewTurns_congr sections, sectionEndingAt_congr sections, sectionStartingAt_congr sections, sections, counters]
    at effect
  exact effect

theorem turn_keeps_settings {p : Fin 12} {a b : Window} {s : State} {y : Point} {e : Option PointEvent}
    (turn : s.points[p].turn a b ⟨s.now, s.phase⟩ = ⟨y, e⟩) :
    Only [.pins, .points] s (headsSet p a b (y.quietUpdate s.now) s) := by
  refine headsSet_only ?_
  have kept := s.points[p].turn_settings a b ⟨s.now, s.phase⟩
  rw [turn] at kept
  rw [Point.quietUpdate_settings, kept]

section
variable {p : Fin 12} {a b : Window} {s : State} {y : Point} (run : s.part = .run)
  (inService : s.points[p].inService = true) (notStuck : NotStuck s p)
include run inService notStuck

/-- A turn with no event changes the inputs and the point alone. -/
theorem headChange_quiet (turn : s.points[p].turn a b ⟨s.now, s.phase⟩ = ⟨y, none⟩) :
    ∃ u, exec (.headChange p a b) s = .next (react u) ∧ Only [.pins, .points] s u ∧
      u.points[p] = { y with quiet := quietAfter y y.accA y.accB s.now } ∧
      ∀ q : Fin 12, q ≠ p → u.points[q] = s.points[q] := by
  refine ⟨headsSet p a b (y.quietUpdate s.now) s, ?_, turn_keeps_settings turn, ?_,
    fun q h => setPoint_other _ _ _ h⟩
  · rw [exec_headChange a b run inService notStuck, turn]
    rfl
  · rw [← Point.quietUpdate_eq]
    exact setPoint_self _ _ _

/-- A turn that ends a skew pass disturbs the sections of the point (R11, R27). -/
theorem headChange_skew (turn : s.points[p].turn a b ⟨s.now, s.phase⟩ = ⟨y, some .skew⟩) :
    ∃ u, exec (.headChange p a b) s = .next (react u) ∧
      u.points[p] = { y with quiet := quietAfter y y.accA y.accB s.now } ∧
      (∀ q : Fin 12, q ≠ p → u.points[q] = s.points[q]) ∧
      u.counters[(17 : Fin 32)] = s.counters[(17 : Fin 32)].bumped ∧
      (∀ i : Fin 10, u.sections[i] =
        if s.sectionEndingAt p = some i ∨ s.sectionStartingAt p = some i then s.sections[i].skewed.new
        else s.sections[i]) ∧
      (∃ (w v : State) (changed : List (Fin 10)), u = endRecords changed v ∧
        Only [.pins, .points, .counters, .notices] s w ∧ SectionsTake (skewTurns s p) p w v ∧
        (∀ i : Fin 10, i ∈ changed ↔ (s.sectionEndingAt p = some i ∨ s.sectionStartingAt p = some i) ∧
          s.sections[i].skewed.new.state ≠ s.sections[i].state) ∧
        Only (([.pins, .points, .sections] : List Block) ++ faultBlocks) s v) ∧
      Only (([.pins, .points, .sections, .passages, .free] : List Block) ++ reactBlocks) s u := by
  have before := turn_keeps_settings turn
  obtain ⟨points, counted, sections, w, v, changed, ends, wOnly, takes, told, vOnly⟩ :=
    skewEvent_after (p := p) (before.sections_eq (by decide)) (before.counters_eq (by decide))
      ((before.part_eq (by decide)).trans run)
  refine ⟨skewEvent p (headsSet p a b (y.quietUpdate s.now) s), ?_, ?_, fun q h => ?_, counted, sections,
    ⟨w, v, changed, ends, before.seq wOnly (by decide) (by decide), takes, told,
      before.seq vOnly (by decide) (by decide)⟩, before.seq (skewEvent_only p _) (by decide) (by decide)⟩
  · rw [exec_headChange a b run inService notStuck, turn]
    rfl
  · rw [points, ← Point.quietUpdate_eq]
    exact setPoint_self _ _ _
  · rw [points]
    exact setPoint_other _ _ _ h

/-- A turn that counts an axle (R13): the count, the two sections (R24), the Predictor (R42), the records that end (R59). -/
theorem headChange_axle {d : Dir} {n : Option Nat}
    (turn : s.points[p].turn a b ⟨s.now, s.phase⟩ = ⟨y, some (.axle d n)⟩) :
    ∃ u, exec (.headChange p a b) s = .next (react u) ∧
      u.points[p] = { y with quiet := quietAfter y y.accA y.accB s.now } ∧
      (∀ q : Fin 12, q ≠ p → u.points[q] = s.points[q]) ∧
      u.counters[cntAxles p] = s.counters[cntAxles p].bumped ∧
      (∀ i : Fin 10, u.sections[i] =
        if s.entering p d = some i then s.sections[i].enter.new
        else if s.leaving p d = some i then s.sections[i].leave.new else s.sections[i]) ∧
      (∃ (w v : State) (changed : List (Fin 10)), u = endRecords changed (takeAxle p d n v) ∧
        Only [.pins, .points, .counters, .notices] s w ∧ SectionsTake (axleTurns s p d) p w v ∧
        (∀ i : Fin 10, i ∈ changed ↔
          (s.leaving p d = some i ∧ s.sections[i].leave.new.state ≠ s.sections[i].state) ∨
            (s.entering p d = some i ∧ s.sections[i].enter.new.state ≠ s.sections[i].state)) ∧
        v.points = u.points ∧ v.sections = u.sections ∧ Only (([.pins, .points, .sections] : List Block) ++ faultBlocks) s v) ∧
      Only (([.pins, .points, .sections, .passages, .free] : List Block) ++ reactBlocks) s u := by
  have before := turn_keeps_settings turn
  have same := before.sections_eq (by decide)
  have effect := axleEvent_effect p d n ((before.part_eq (by decide)).trans run)
  rw [axleTurns_congr same, leaving_congr same, entering_congr same, same, before.counters_eq (by decide)] at effect
  obtain ⟨points, counted, sections, w, v, changed, ends, wOnly, takes, told, vPoints, vSections, vOnly⟩ := effect
  refine ⟨axleEvent p d n (headsSet p a b (y.quietUpdate s.now) s), ?_, ?_, fun q h => ?_, counted, sections,
    ⟨w, v, changed, ends, before.seq wOnly (by decide) (by decide), takes, told, vPoints, vSections,
      before.seq vOnly (by decide) (by decide)⟩, before.seq (axleEvent_only p d n _) (by decide) (by decide)⟩
  · rw [exec_headChange a b run inService notStuck, turn]
    rfl
  · rw [points, ← Point.quietUpdate_eq]
    exact setPoint_self _ _ _
  · rw [points]
    exact setPoint_other _ _ _ h

end

theorem Window.accepted_eq (w : Window) :
    w.accepted = decide (3 ≤ [w.s0, w.s1, w.s2, w.s3, w.s4].count true) := by
  obtain ⟨s0, s1, s2, s3, s4⟩ := w
  cases s0 <;> cases s1 <;> cases s2 <;> cases s3 <;> cases s4 <;> rfl

/-- A point that is not sampled takes the inputs alone (R1, R16). -/
theorem exec_headChange_unsampled {p : Fin 12} (a b : Window) {s : State}
    (h : s.part = .config ∨ s.points[p].inService = false) :
    exec (.headChange p a b) s = .next (setHeads p a.s4 b.s4 s) := by
  have sampled : (setHeads p a.s4 b.s4 s).sampled p = false := by
    change (s.part == .run && s.points[p].inService) = false
    rcases h with h | h <;> rw [h]
    · rfl
    · exact Bool.and_false _
  change Host.Outcome.next (if (setHeads p a.s4 b.s4 s).sampled p = true then _ else _) = _
  rw [if_neg (by rw [sampled]; decide)]

/-- Settles O29: the turn of the machine decides the event, and each kind of event has its own effect. -/
theorem headChangesFollowTheWheel : Obligations.HeadChangesFollowTheWheel := by
  unfold Obligations.HeadChangesFollowTheWheel
  refine ⟨Window.accepted_eq, fun p a b s idle => ⟨_, exec_headChange_unsampled a b idle, ?_, setHeads_only _ _ _ _⟩,
    fun p a b s run inService notStuck => ⟨fun m row seq alone => ?_, fun d ab ba => ?_,
      fun noSkew changedA changedB on => ?_, fun skew on => ?_, fun skew offA offB => ?_,
      fun noSkew wasA wasB offA offB => ?_⟩⟩
  · simp [setHeads]
  · obtain ⟨u, steps, only, point, others⟩ :=
      headChange_quiet run inService notStuck (Point.turn_moved ⟨s.now, s.phase⟩ row seq alone)
    exact ⟨u, steps, only, others, point⟩
  · exact headChange_axle run inService notStuck (Point.turn_axle ⟨s.now, s.phase⟩ ab ba)
  · have turn := Point.turn_both ⟨s.now, s.phase⟩ noSkew changedA changedB
    rw [Point.enterSkew_eq, Point.waitSkew_on _ on] at turn
    exact headChange_quiet run inService notStuck turn
  · have turn := Point.turn_skew (a := a) (b := b) ⟨s.now, s.phase⟩ skew
    rw [Point.waitSkew_on _ on] at turn
    exact headChange_quiet run inService notStuck turn
  · have turn := Point.turn_skew (a := a) (b := b) ⟨s.now, s.phase⟩ skew
    rw [Point.waitSkew_off _ offA offB] at turn
    exact headChange_skew run inService notStuck turn
  · have turn := Point.turn_both (a := a) (b := b) ⟨s.now, s.phase⟩ noSkew (by rw [wasA, offA]; decide)
      (by rw [wasB, offB]; decide)
    rw [Point.enterSkew_eq, Point.waitSkew_off _ offA offB] at turn
    obtain ⟨u, steps, point, others, counted, rest⟩ := headChange_skew run inService notStuck turn
    exact ⟨u, steps, point, counted, others, rest⟩

end Sys2Proof.Machine
end

section
/-! PROOFS. The timers of a point: the stuck timeout (R14), the quiet period (R15) and the quiet mark (R9). -/

namespace Sys2Proof.Machine

/-! ### What a raise makes of the Fault Manager -/

theorem deriveMode_faults (c : ModeCause) (s : State) :
    (deriveMode c s).faults = { s.faults with mode := some s.faults.derived } := by
  unfold deriveMode
  split
  · next same => rw [← same]
  · exact (emit_only _ _).faults_eq (by decide)

theorem applyFault_faults (g : FaultManager → FaultStep) (s : State) : (applyFault g s).faults = (g s.faults).1 :=
  (emit_only _ _).faults_eq (by decide)

/-- A raise depends on the table, the clock and the free value alone (R123 to R125). -/
theorem raise_faults (k : FaultKind) (o d : Nat) (s : State) :
    (raise k o d s).faults =
      let f := (s.faults.raised s.now (Config.freeByte s.free) k o d).1
      { f with mode := some f.derived } := by
  have applied := applyFault_faults (fun f => f.raised s.now (Config.freeByte s.free) k o d) s
  unfold raise
  dsimp only
  rw [deriveMode_faults]
  split
  · rw [State.tookFree_faults, applied]
  · rw [applied]

theorem raise_setPoint_faults (k : FaultKind) (o d : Nat) (s : State) (p : Fin 12) (f : Point → Point) :
    (raise k o d (s.setPoint p f)).faults = (raise k o d s).faults := by
  rw [raise_faults, raise_faults]
  rfl

/-! ### The stuck timeout (R14) -/

/-- The point that an expiry leaves before its evaluation. -/
theorem Point.expire_eq (x : Point) :
    x.expire = { x with
      seq := .skew, headFault := true, quiet := if x.headFault then x.quiet else none
      stamp := if x.seq = .skew then x.stamp else none
      interval := if x.seq = .skew then x.interval else none
      rocked := x.rocked && decide (x.seq = .skew) } := by
  obtain ⟨-, -, -, -, -, -, -, -, seq, -, -, -, -, fault, -, -, -⟩ := x
  unfold Point.expire Point.discard
  dsimp only
  by_cases skew : seq = .skew <;> cases fault <;> simp [skew]

/-- The point that its stuck timeout leaves with a head still on. -/
theorem Point.expire_on {x : Point} (now : Time) (t : Tick) (on : x.accA = true ∨ x.accB = true) :
    (x.expire.waitSkew t).point.quietUpdate now = { x.expire with quiet := none } ∧ (x.expire.waitSkew t).event = none := by
  have on' : x.expire.accA = true ∨ x.expire.accB = true := by rw [Point.expire_eq]; exact on
  rw [Point.waitSkew_on t on', Point.quietUpdate_eq]
  refine ⟨?_, rfl⟩
  have fault : x.expire.headFault = true := by rw [Point.expire_eq]
  rcases on' with h | h <;> simp [quietAfter, fault, h]

/-- The point that its stuck timeout leaves with both heads off: the skew pass ends in the same tick (R11). -/
theorem Point.expire_off {x : Point} (now : Time) (t : Tick) (offA : x.accA = false) (offB : x.accB = false) :
    (x.expire.waitSkew t).point.quietUpdate now =
        { x.expire with
          seq := .idle, lastCount := t.ms, quietMark := false
          quiet := some (if x.headFault then x.quiet.getD now else now) } ∧
      (x.expire.waitSkew t).event = some .skew := by
  have offA' : x.expire.accA = false := by rw [Point.expire_eq]; exact offA
  have offB' : x.expire.accB = false := by rw [Point.expire_eq]; exact offB
  rw [Point.waitSkew_off t offA' offB', Point.quietUpdate_eq]
  refine ⟨?_, rfl⟩
  have fault : x.expire.headFault = true := by rw [Point.expire_eq]
  have quiet : x.expire.quiet = if x.headFault then x.quiet else none := by rw [Point.expire_eq]
  simp only [quietAfter, fault, offA', offB', quiet]
  cases x.headFault <;> simp

/-- An expiry out of SKEW with the head-fault flag already set discards the passage (R14). -/
theorem Point.expire_again {x : Point} (noSkew : x.seq ≠ .skew) (fault : x.headFault = true) :
    ({ x.expire with quiet := none } : Point) =
      { x with seq := .skew, stamp := none, interval := none, rocked := false, quiet := none } := by
  rw [Point.expire_eq]
  simp [noSkew, fault]

/-- The state before a stuck timeout's event: the point replaced, HEAD_FAULT raised unless its flag was set. -/
def stuckSet (p : Fin 12) (y : Point) (s : State) : State :=
  if s.points[p].headFault then s.setPoint p fun _ => y
  else raise .headFault p.val s.points[p].headDetail (s.setPoint p fun _ => y)

section
variable {p : Fin 12} {s : State} (run : s.part = .run) (phase : s.phase = 0) (inService : s.points[p].inService = true)
  (seq : s.points[p].seq ≠ .idle) (late : s.tStuck < elapsed s.now s.points[p].leave)
  (fresh : ¬(s.points[p].seq = .skew ∧ s.points[p].headFault = true))
include run phase inService seq late fresh

theorem exec_stuckTimeout :
    exec (.stuckTimeout p) s =
      .next (react (pointEvent p (s.points[p].expire.waitSkew ⟨s.now, s.phase⟩).event
        (stuckSet p ((s.points[p].expire.waitSkew ⟨s.now, s.phase⟩).point.quietUpdate s.now) s))) := by
  have due : s.stuckDue p = true := by
    simp only [State.stuckDue, Point.stuck, run, phase, inService, late, Bool.and_eq_true, beq_self_eq_true,
      decide_true, bne_iff_ne, ne_eq, seq, not_false_eq_true, Bool.not_eq_true', true_and]
    apply Bool.eq_false_iff.2
    simpa using fresh
  have skew : s.points[p].expire.seq = .skew := by rw [Point.expire_eq]
  have fault : s.points[p].expire.headFault = true := by rw [Point.expire_eq]
  change Host.Outcome.next (if s.stuckDue p = true then _ else _) = _
  rw [if_pos due]
  congr 2
  unfold pointTick stuckSet Point.evaluate
  dsimp only
  rw [if_pos rfl, skew, fault]
  cases s.points[p].headFault <;> rfl

end

theorem stuckSet_only {p : Fin 12} {y : Point} {s : State} (h : y.settings = s.points[p].settings) :
    Only (.points :: faultBlocks) s (stuckSet p y s) := by
  have set := setPoint_only' s p y h
  exact Only.ite (set.mono (by decide)) (set.seq (raise_only _ _ _ _) (by decide) (by decide))

theorem stuckSet_counters (p : Fin 12) (y : Point) (s : State) : (stuckSet p y s).counters = s.counters := by
  unfold stuckSet
  split
  · rfl
  · exact raise_counters _ _ _ _

theorem stuckSet_points (p : Fin 12) (y : Point) (s : State) :
    (stuckSet p y s).points[p] = y ∧ ∀ q : Fin 12, q ≠ p → (stuckSet p y s).points[q] = s.points[q] := by
  have set : (stuckSet p y s).points = (s.setPoint p fun _ => y).points := by
    unfold stuckSet
    split
    · rfl
    · exact (raise_only _ _ _ _).points_eq (by decide)
  rw [set]
  exact ⟨setPoint_self _ _ _, fun q h => setPoint_other _ _ _ h⟩

theorem stuckSet_faults {p : Fin 12} (y : Point) {s : State} (offA : s.points[p].accA = false)
    (offB : s.points[p].accB = false) :
    (stuckSet p y s).faults =
      if s.points[p].headFault then s.faults else (raise .headFault p.val 0 s).faults := by
  have detail : s.points[p].headDetail = 0 := by rw [Point.headDetail, offA, offB]; rfl
  unfold stuckSet
  rw [detail]
  split
  · rfl
  · exact raise_setPoint_faults _ _ _ _ _ _

/-! ### The quiet period and the quiet mark (R9, R15) -/

theorem exec_quietPeriodEnd {p : Fin 12} {q : Time} {s : State} (run : s.part = .run) (phase : s.phase = 0)
    (inService : s.points[p].inService = true) (fault : s.points[p].headFault = true)
    (quiet : s.points[p].quiet = some q) (long : 2000 ≤ elapsed s.now q) :
    exec (.quietPeriodEnd p) s = .next (react (endQuiet p s)) := by
  have due : s.quietEndDue p = true := by
    simp only [State.quietEndDue, Point.quietEnded, run, phase, inService, fault, quiet, agedBy, Config.settleMs, long,
      decide_true, beq_self_eq_true, Bool.and_self]
  exact congrArg Host.Outcome.next (if_pos due)

theorem exec_quietMark {p : Fin 12} {s : State} (run : s.part = .run) (inService : s.points[p].inService = true)
    (unset : s.points[p].quietMark = false) (long : 10000 ≤ elapsed s.now s.points[p].lastCount) :
    exec (.quietMark p) s = .next (s.setPoint p fun x => { x with quietMark := true }) := by
  have due : s.quietMarkDue p = true := by
    simp only [State.quietMarkDue, Point.quietMarkDue, run, inService, unset, Config.quietMarkMs, long, decide_true,
      beq_self_eq_true, Bool.not_false, Bool.and_self]
  exact congrArg Host.Outcome.next (if_pos due)

/-- Settles O30: the expiry forces SKEW, and the evaluation that follows it in the tick either waits or ends the pass. -/
theorem pointTimersExpire : Obligations.PointTimersExpire := by
  unfold Obligations.PointTimersExpire
  refine ⟨fun p s run phase inService seq late on => ⟨fun noSkew fault => ?_, fun noFault => ?_⟩,
    fun p s run phase inService seq late offA offB fresh => ?_,
    fun p q s run phase inService fault quiet long => exec_quietPeriodEnd run phase inService fault quiet long,
    fun p s run inService unset long => exec_quietMark run inService unset long⟩
  · obtain ⟨point, event⟩ := Point.expire_on s.now ⟨s.now, s.phase⟩ on
    rw [exec_stuckTimeout run phase inService seq late fun h => noSkew h.1, point, event]
    rw [stuckSet, if_pos fault, Point.expire_again noSkew fault]
    rfl
  · obtain ⟨point, event⟩ := Point.expire_on s.now ⟨s.now, s.phase⟩ on
    refine ⟨s.setPoint p fun _ => { s.points[p].expire with quiet := none }, ?_, ?_, fun q h => setPoint_other _ _ _ h, ?_⟩
    · rw [exec_stuckTimeout run phase inService seq late fun h => Bool.false_ne_true (noFault.symm.trans h.2), point, event, stuckSet,
        if_neg (by rw [noFault]; decide)]
      rfl
    · rw [setPoint_self, Point.expire_eq]
    · exact setPoint_only' s p _ (Point.expire_settings _)
  · obtain ⟨point, event⟩ := Point.expire_off s.now ⟨s.now, s.phase⟩ offA offB
    have steps := exec_stuckTimeout run phase inService seq late fun h =>
      Bool.false_ne_true ((fresh h.1).symm.trans h.2)
    rw [point, event, Point.expire_eq] at steps
    have before := stuckSet_only (p := p) (s := s) (y := { s.points[p] with
      seq := .idle, headFault := true, lastCount := s.now, quietMark := false
      quiet := some (if s.points[p].headFault then s.points[p].quiet.getD s.now else s.now)
      stamp := if s.points[p].seq = .skew then s.points[p].stamp else none
      interval := if s.points[p].seq = .skew then s.points[p].interval else none
      rocked := s.points[p].rocked && decide (s.points[p].seq = .skew) }) rfl
    obtain ⟨points, counted, sections, w, v, changed, ends, wOnly, takes, told, vOnly⟩ :=
      skewEvent_after (p := p) (before.sections_eq (by decide)) (stuckSet_counters p _ s)
        ((before.part_eq (by decide)).trans run)
    refine ⟨_, steps, ?_, fun q h => ?_, counted, sections,
      ⟨w, v, changed, ends, takes, told, before.seq vOnly (by decide) (by decide),
        (wOnly.faults_eq (by decide)).trans (stuckSet_faults _ offA offB),
        before.seq wOnly (by decide) (by decide)⟩, before.seq (skewEvent_only p _) (by decide) (by decide)⟩
    · exact (congrArg (fun v : Vector Point 12 => v[p]) points).trans (stuckSet_points p _ s).1
    · exact (congrArg (fun v : Vector Point 12 => v[q]) points).trans ((stuckSet_points p _ s).2 q h)

end Sys2Proof.Machine
end

section
/-! PROOFS. The start of service at COMMIT (R202, R203): what each block's start leaves, and what the blocks started after it
leave alone. -/

namespace Sys2Proof.Machine

/-! ### Frames of the blocks' starts -/

theorem startHost_only {s : State} (free : s.host.warmPending = false) : Only [.notices] s (startHost s) := by
  intro b hb; cases b <;> simp_all [Same, State.configuration, startHost, HostPort.ports]

theorem startReports_only (s : State) : Only [.reports] s (startReports s) := setReports_only _ _

theorem startLine_only (old : Option LinkState) (s : State) :
    Only (([.link, .line] : List Block) ++ recordBlocks) s (startLine old s) :=
  (setLine_only_link s LineController.started rfl).seq (emit_only _ _) (by decide) (by decide)

theorem startFaults_only (s : State) : Only (.faults :: recordBlocks) s (startFaults s) := by
  unfold startFaults
  exact (setFaults_only s _).seq (emit_only _ _) (by decide) (by decide)

theorem startLamps_only (s : State) : Only [.lamps] s (startLamps s) := by
  refine Only.trans (setLamps_only s _ ?_) (lampCommand_only .redStart _)
  unfold LampDriver.settings
  simp only [Prod.mk.injEq, and_true]
  exact remake_eq_of fun c => by simp [Lamp.started]

theorem startSequencer_only (s : State) :
    Only (([.seq, .holds] : List Block) ++ recordBlocks) s (startSequencer s) := by
  have set : ∀ f : Sequencer → Sequencer, (f s.seq).times = s.seq.times → Only [.seq, .holds] s (s.setSeq f) :=
    fun f times => by
      intro b hb; cases b <;> simp_all [Same, State.configuration, Sequencer.times]
  unfold startSequencer
  exact (set _ rfl).seq (emit_only _ _) (by decide) (by decide)

theorem Point.started_settings (x : Point) (now : Time) (a b : Bool) : (x.started now a b).settings = x.settings := by
  unfold Point.started
  split <;> rfl

theorem startPoints_only (s : State) : Only [.points] s (startPoints s) := by
  intro b hb; cases b <;> simp_all [Same, State.configuration, startPoints]
  exact remake_eq_of fun p => by
    rw [Fin.getElem_fin, remake_getElem]
    exact Point.started_settings _ _ _ _

theorem startSlots_only (s : State) : Only [.slots] s (startSlots s) := by
  intro b hb; cases b <;> simp_all [Same, State.configuration, startSlots]
  exact remake_eq_of fun k => by simp

/-- The effects of the start of service on the sections in use (R36). -/
def startEffects (s : State) : List SectEffect :=
  (allSections.filter fun i => s.sections[i].inUse).map fun i =>
    ⟨i, s.sections[i], ⟨s.sections[i].disturb, some .start⟩⟩

theorem startSections_eq (s : State) : startSections s = applyEffects (startEffects s) none s := rfl

theorem startSections_only (s : State) : Only (.sections :: faultBlocks) s (startSections s) := by
  refine applyEffects_only (startEffects s) none s fun e he => ?_
  simp only [startEffects, List.mem_map] at he
  obtain ⟨i, -, rfl⟩ := he
  rfl

theorem Barrier.started_settings (b : Barrier) (now : Time) (up down : Bool) :
    (b.started now up down).settings = b.settings := by
  unfold Barrier.started
  dsimp only
  split
  · exact Barrier.toFault_settings _ _ _
  · split
    · rfl
    · exact Barrier.lowerFrom_settings _ _

/-- The barriers as their start finds them, before the raises (R118). -/
def barriersSet (s : State) : State :=
  { s with barriers := remake s.barriers fun b x =>
      if x.configured then x.started s.now s.pins.contacts[b].fst s.pins.contacts[b].snd else x }

theorem barriersSet_only (s : State) : Only [.barriers] s (barriersSet s) := by
  intro b hb; cases b <;> simp_all [Same, State.configuration, barriersSet]
  exact remake_eq_of fun b => by
    rw [Fin.getElem_fin, remake_getElem]
    split
    · exact Barrier.started_settings _ _ _ _
    · rfl

theorem startBarrierFault_only (b : Fin 4) (s : State) : Only faultBlocks s (startBarrierFault b s) :=
  Only.ite ((raise_only _ _ _ _).seq (emit_only _ _) (by decide) (by decide)) (Only.refl _ _)

theorem startBarriers_eq (s : State) :
    startBarriers s = allBarriers.foldl (fun s b => startBarrierFault b s) (barriersSet s) := rfl

theorem startBarriers_faults_only (s : State) : Only faultBlocks (barriersSet s) (startBarriers s) :=
  Only.foldl (fun s b => startBarrierFault_only b s) _ _

theorem startBarriers_only (s : State) : Only (.barriers :: faultBlocks) s (startBarriers s) :=
  (barriersSet_only s).seq (startBarriers_faults_only s) (by decide) (by decide)

theorem startSupply_only (s : State) : Only (.supply :: faultBlocks) s (startSupply s) := by
  have raises : ∀ (c : Bool) (k : FaultKind) (t : State), Only faultBlocks t (if c then t else raise k 0 0 t) :=
    fun c k t => Only.ite (Only.refl _ _) (raise_only _ _ _ _)
  unfold startSupply
  exact (setSupply_only s _).seq ((raises _ _ _).trans (raises _ _ _)) (by decide) (by decide)

/-! ### The blocks started after a block -/

/-- The start of service from the supply inputs on, and so on from each block in the order of R203. -/
def serviceFromSupply (s : State) : State := emit [.stateNotice] (startSupply s)
def serviceFromBarriers (s : State) : State := serviceFromSupply (startBarriers s)
def serviceFromSections (s : State) : State := serviceFromBarriers (startSections s)
def serviceFromSlots (s : State) : State := serviceFromSections (startSlots s)
def serviceFromPoints (s : State) : State := serviceFromSlots (startPoints s)
def serviceFromSequencer (s : State) : State := serviceFromPoints (startSequencer s)
def serviceFromLamps (s : State) : State := serviceFromSequencer (startLamps s)
def serviceFromFaults (s : State) : State := serviceFromLamps (startFaults s)
def serviceFromLine (old : Option LinkState) (s : State) : State := serviceFromFaults (startLine old s)

theorem startService_eq (old : Option LinkState) (s : State) :
    startService old s = serviceFromLine old (startReports (startHost s)) := rfl

theorem serviceFromSupply_only (s : State) : Only (.supply :: faultBlocks) s (serviceFromSupply s) :=
  (startSupply_only s).seq (emit_only _ _) (by decide) (by decide)

theorem serviceFromBarriers_only (s : State) :
    Only (([.barriers, .supply] : List Block) ++ faultBlocks) s (serviceFromBarriers s) :=
  (startBarriers_only s).seq (serviceFromSupply_only _) (by decide) (by decide)

theorem serviceFromSections_only (s : State) :
    Only (([.sections, .barriers, .supply] : List Block) ++ faultBlocks) s (serviceFromSections s) :=
  (startSections_only s).seq (serviceFromBarriers_only _) (by decide) (by decide)

theorem serviceFromSlots_only (s : State) :
    Only (([.slots, .sections, .barriers, .supply] : List Block) ++ faultBlocks) s (serviceFromSlots s) :=
  (startSlots_only s).seq (serviceFromSections_only _) (by decide) (by decide)

theorem serviceFromPoints_only (s : State) :
    Only (([.points, .slots, .sections, .barriers, .supply] : List Block) ++ faultBlocks) s (serviceFromPoints s) :=
  (startPoints_only s).seq (serviceFromSlots_only _) (by decide) (by decide)

theorem serviceFromSequencer_only (s : State) :
    Only (([.seq, .holds, .points, .slots, .sections, .barriers, .supply] : List Block) ++ faultBlocks)
      s (serviceFromSequencer s) :=
  (startSequencer_only s).seq (serviceFromPoints_only _) (by decide) (by decide)

theorem serviceFromLamps_only (s : State) :
    Only (([.lamps, .seq, .holds, .points, .slots, .sections, .barriers, .supply] : List Block) ++ faultBlocks)
      s (serviceFromLamps s) :=
  (startLamps_only s).seq (serviceFromSequencer_only _) (by decide) (by decide)

theorem serviceFromFaults_only (s : State) :
    Only (([.lamps, .seq, .holds, .points, .slots, .sections, .barriers, .supply] : List Block) ++ faultBlocks) s
      (serviceFromFaults s) :=
  (startFaults_only s).seq (serviceFromLamps_only _) (by decide) (by decide)

/-- What the start of service may change (R203). -/
def serviceBlocks : List Block :=
  [.link, .line, .lamps, .seq, .holds, .points, .slots, .sections, .barriers, .supply] ++ faultBlocks

theorem serviceFromLine_only (old : Option LinkState) (s : State) : Only serviceBlocks s (serviceFromLine old s) :=
  (startLine_only old s).seq (serviceFromFaults_only _) (by decide) (by decide)

theorem startService_only (old : Option LinkState) {s : State} (free : s.host.warmPending = false) :
    Only serviceBlocks s (startService old s) :=
  ((startHost_only free).seq (startReports_only _) (cs := serviceBlocks) (by decide) (by decide)).trans
    (serviceFromLine_only old _)

/-! ### The latch and the mode -/

/-- The latch is set and the mode FAILED (R131, R139). -/
def FailedLatched (f : FaultManager) : Prop := f.latch = true ∧ f.mode = some .failed

theorem latchFor_latch {f : FaultManager} (h : f.latch = true) (c : FaultClass) : (f.latchFor c).latch = true := by
  simp [FaultManager.latchFor, h]

theorem reraise_latch {f : FaultManager} (h : f.latch = true) (now : Time) (i : Fin 32) (d : Nat) :
    (f.reraise now i d).1.latch = true := by
  unfold FaultManager.reraise
  split
  · exact h
  · exact latchFor_latch h _

theorem create_latch {f : FaultManager} (h : f.latch = true) (now : Time) (i : Fin 32) (k : FaultKind) (o d : Nat) :
    (f.create now i k o d).1.latch = true := latchFor_latch h _

/-- A raise never clears the latch (R130). -/
theorem raised_latch {f : FaultManager} (h : f.latch = true) (now : Time) (n : Byte) (k : FaultKind) (o d : Nat) :
    (f.raised now n k o d).1.latch = true := by
  unfold FaultManager.raised
  split
  · exact reraise_latch h _ _ _
  · exact create_latch h _ _ _ _ _
  · exact create_latch h _ _ _ _ _
  · unfold FaultStep.next FaultManager.raiseTableFull
    dsimp only
    split
    · exact reraise_latch h _ _ _
    · exact create_latch h _ _ _ _ _

theorem FailedLatched.raise {s : State} (h : FailedLatched s.faults) (k : FaultKind) (o d : Nat) :
    FailedLatched (raise k o d s).faults := by
  have latch := raised_latch h.1 s.now (Config.freeByte s.free) k o d
  rw [raise_faults]
  exact ⟨latch, by simp [FaultManager.derived, latch]⟩

theorem FailedLatched.of_only {bs : List Block} {s t : State} (h : FailedLatched s.faults) (frame : Only bs s t)
    (off : .faults ∉ bs) : FailedLatched t.faults := by
  rw [frame.faults_eq off]
  exact h

theorem FailedLatched.foldl {α : Type} {f : State → α → State}
    (hf : ∀ s a, FailedLatched s.faults → FailedLatched (f s a).faults) (l : List α) {s : State}
    (h : FailedLatched s.faults) : FailedLatched (l.foldl f s).faults := by
  induction l generalizing s with
  | nil => exact h
  | cons a l ih => exact ih (hf s a h)

theorem startFaults_failed (s : State) : FailedLatched (startFaults s).faults := by
  have set : FailedLatched (s.setFaults fun _ =>
    { table := Vector.replicate 32 FaultSlot.empty, latch := true, mode := some .failed }).faults := ⟨rfl, rfl⟩
  exact set.of_only (emit_only _ _) (by decide)

theorem FailedLatched.applyEffects {s : State} (h : FailedLatched s.faults) (es : List SectEffect) (p : Option (Fin 12))
    (keep : ∀ e ∈ es, e.Keeps s) : FailedLatched (applyEffects es p s).faults := by
  have set : FailedLatched (setEffects es s).faults := h.of_only (setEffects_only es s keep) (by decide)
  refine FailedLatched.foldl (fun s e raised => ?_) es (set.of_only (emit_only _ _) (by decide))
  unfold SectEffect.raised
  split
  · exact raised
  · split
    · exact raised
    · exact raised.raise _ _ _

theorem FailedLatched.startBarriers {s : State} (h : FailedLatched s.faults) : FailedLatched (startBarriers s).faults := by
  refine FailedLatched.foldl (fun s b raised => ?_) allBarriers (h.of_only (barriersSet_only s) (by decide))
  unfold startBarrierFault
  split
  · exact (raised.raise _ _ _).of_only (emit_only _ _) (by decide)
  · exact raised

theorem FailedLatched.startSupply {s : State} (h : FailedLatched s.faults) : FailedLatched (startSupply s).faults := by
  have raises : ∀ (c : Bool) (k : FaultKind) (t : State), FailedLatched t.faults →
      FailedLatched (if c then t else Machine.raise k 0 0 t).faults := fun c k t ht => by
    split
    · exact ht
    · exact ht.raise _ _ _
  unfold Machine.startSupply
  exact raises _ _ _ (raises _ _ _ (h.of_only (setSupply_only s _) (by decide)))

/-- Once the table is emptied with the latch set, the start of service leaves the mode FAILED (R139). -/
theorem serviceFromFaults_failed (s : State) : FailedLatched (serviceFromFaults s).faults := by
  have sequencer := (startFaults_failed s).of_only (startLamps_only _) (by decide) |>.of_only (startSequencer_only _)
    (by decide)
  have slots := (sequencer.of_only (startPoints_only _) (by decide)).of_only (startSlots_only _) (by decide)
  have sections : FailedLatched
      (startSections (startSlots (startPoints (startSequencer (startLamps (startFaults s)))))).faults := by
    refine slots.applyEffects (startEffects _) none fun e he => ?_
    simp only [startEffects, List.mem_map] at he
    obtain ⟨i, -, rfl⟩ := he
    rfl
  exact (sections.startBarriers.startSupply).of_only (emit_only _ _) (by decide)

/-! ### What each block's start leaves -/

/-- Effects that give each section the change its number names, however often they name it. -/
theorem setEffects_uniform {g : Fin 10 → Sect} {es : List SectEffect} (h : ∀ e ∈ es, e.change.new = g e.index) (s : State)
    (i : Fin 10) : (setEffects es s).sections[i] = if i ∈ es.map SectEffect.index then g i else s.sections[i] := by
  unfold setEffects
  induction es generalizing s with
  | nil => simp
  | cons e es ih =>
    rw [List.foldl_cons, ih (fun e' he' => h e' (List.mem_cons_of_mem _ he')), setSect_getElem, h e List.mem_cons_self]
    by_cases later : i ∈ es.map SectEffect.index
    · simp [later]
    · by_cases here : e.index = i
      · simp [here]
      · simp [later, here, Ne.symm here]

theorem mem_allSections (i : Fin 10) : i ∈ allSections := by revert i; decide

theorem startEffects_index (s : State) (i : Fin 10) :
    i ∈ (startEffects s).map SectEffect.index ↔ s.sections[i].inUse = true := by
  simp [startEffects, mem_allSections]

theorem startSections_sections (s : State) (i : Fin 10) :
    (startSections s).sections[i] = if s.sections[i].inUse then s.sections[i].disturb else s.sections[i] := by
  have uniform : ∀ e ∈ startEffects s, e.change.new = s.sections[e.index].disturb := fun e he => by
    simp only [startEffects, List.mem_map] at he
    obtain ⟨j, -, rfl⟩ := he
    rfl
  rw [startSections_eq, applyEffects_sections, setEffects_uniform (g := fun j => s.sections[j].disturb) uniform]
  simp only [startEffects_index]

theorem Barrier.lowerFrom_state (b : Barrier) (now : Time) : (b.lowerFrom now).state = some .lowering := by
  unfold Barrier.lowerFrom
  split <;> rfl

theorem Barrier.toFault_state (b : Barrier) (now : Time) (d : Nat) : (b.toFault now d).state = some .fault := by
  unfold Barrier.toFault Barrier.settle
  dsimp only
  split <;> rfl

theorem Barrier.started_state (b : Barrier) (now : Time) (up down : Bool) :
    (b.started now up down).state =
      if down then (if up then some .fault else some .down) else some .lowering := by
  unfold Barrier.started
  dsimp only
  cases down
  · rw [Bool.and_false, if_neg Bool.false_ne_true, if_neg Bool.false_ne_true, Barrier.lowerFrom_state]
    rfl
  · cases up
    · rfl
    · exact Barrier.toFault_state _ _ _

theorem Point.started_inService (x : Point) (now : Time) (a b : Bool) : (x.started now a b).inService = x.track.isSome := by
  unfold Point.started
  split
  · next h => rw [h]
  · next h => exact (Bool.eq_false_iff.2 h).symm

theorem startLamps_lamps (s : State) :
    (startLamps s).lamps.startUp = none ∧ (startLamps s).lamps.gen = some ⟨.lOn, s.now⟩ := ⟨rfl, rfl⟩

/-! ### COMMIT -/

/-- The state in which a COMMIT starts service: in RUN with the configured layout (R176, R202). -/
def commitBase (s : State) : State := { s with part := .run }.setMemory fun m => { m with layout := m.configured }

theorem commitBase_only (s : State) : Only [.part, .layout] s (commitBase s) := by
  intro b hb; cases b <;> simp_all [Same, State.configuration, commitBase]

theorem commitStart_eq (s : State) : commitStart s = startService none (commitBase s) := rfl

/-- The state before the sequencer's start, and so on: the start of service up to a block. -/
def startedLine (s : State) : State := startLine none (startReports (startHost (commitBase s)))
def startedFaults (s : State) : State := startFaults (startedLine s)
def startedLamps (s : State) : State := startLamps (startedFaults s)
def startedSequencer (s : State) : State := startSequencer (startedLamps s)

section
variable {s : State} (free : s.host.warmPending = false)
include free

theorem startedReports_only :
    Only (([.part, .layout] : List Block) ++ recordBlocks) s (startReports (startHost (commitBase s))) := by
  have started := (startHost_only (s := commitBase s) free).seq (startReports_only _) (cs := recordBlocks) (by decide)
    (by decide)
  exact (commitBase_only s).seq started (by decide) (by decide)

theorem startedLine_only : Only (([.part, .layout, .link, .line] : List Block) ++ recordBlocks) s (startedLine s) :=
  (startedReports_only free).seq (startLine_only none _) (by decide) (by decide)

theorem startedFaults_only :
    Only (([.part, .layout, .link, .line, .faults] : List Block) ++ recordBlocks) s (startedFaults s) :=
  (startedLine_only free).seq (startFaults_only _) (by decide) (by decide)

theorem startedLamps_only :
    Only (([.part, .layout, .link, .line, .faults, .lamps] : List Block) ++ recordBlocks) s (startedLamps s) :=
  (startedFaults_only free).seq (startLamps_only _) (by decide) (by decide)

theorem startedSequencer_only :
    Only (([.part, .layout, .link, .line, .faults, .lamps, .seq, .holds] : List Block) ++ recordBlocks)
      s (startedSequencer s) :=
  (startedLamps_only free).seq (startSequencer_only _) (by decide) (by decide)

end

theorem startSequencer_seq (s : State) :
    (startSequencer s).seq = { s.seq with
      state := some .closed, entry := s.now, exitMark := none, closureStart := s.now, counted := false, longBin := false,
      longFlag := false, holdSignaller := false, holdLocal := false } :=
  (emit_only _ _).seq_eq (by decide) (by decide)

theorem startLine_line (old : Option LinkState) (s : State) : (startLine old s).line = s.line.started :=
  (emit_only _ _).line_eq (by decide) (by decide)

section
variable {s : State} (free : s.host.warmPending = false)
include free

theorem commitStart_only : Only (([.part, .layout] : List Block) ++ serviceBlocks) s (commitStart s) :=
  (commitBase_only s).seq (startService_only (s := commitBase s) none free) (by decide) (by decide)

theorem commitStart_part : (commitStart s).part = .run :=
  (startService_only (s := commitBase s) none free).part_eq (by decide)

theorem commitStart_layout : (commitStart s).memory.layout = s.memory.configured := by
  have kept : (startService none (commitBase s)).memory.layout = (commitBase s).memory.layout :=
    startService_only (s := commitBase s) none free .layout (by decide)
  rw [commitStart_eq, kept]
  rfl

theorem commitStart_seq :
    (commitStart s).seq.state = some .closed ∧ (commitStart s).seq.entry = s.now ∧ (commitStart s).seq.closureStart = s.now ∧
      (commitStart s).seq.counted = false ∧ (commitStart s).seq.holdSignaller = false ∧
      (commitStart s).seq.holdLocal = false := by
  have left : (commitStart s).seq = (startSequencer (startedLamps s)).seq :=
    (serviceFromPoints_only (startedSequencer s)).seq_eq (by decide) (by decide)
  have now := ((startedLamps_only free).clock_eq (by decide)).1
  simp only [left, startSequencer_seq, now, and_self]

omit free in
theorem commitStart_failed : FailedLatched (commitStart s).faults := serviceFromFaults_failed (startedLine s)

theorem commitStart_inService (p : Fin 12) : (commitStart s).points[p].inService = s.points[p].track.isSome := by
  have left : (commitStart s).points = (startPoints (startedSequencer s)).points :=
    (serviceFromSlots_only (startPoints (startedSequencer s))).points_eq (by decide)
  rw [left, startPoints, Fin.getElem_fin, remake_getElem, Point.started_inService,
    (startedSequencer_only free).points_eq (by decide)]
  rfl

theorem startedSlots_only :
    Only (([.part, .layout, .link, .line, .faults, .lamps, .seq, .holds, .points, .slots] : List Block) ++ recordBlocks) s
      (startSlots (startPoints (startedSequencer s))) :=
  (startedSequencer_only free).seq ((startPoints_only _).seq (startSlots_only _) (cs := [.points, .slots]) (by decide)
    (by decide)) (by decide) (by decide)

theorem commitStart_sections {i : Fin 10} (used : s.sections[i].track.isSome = true) :
    (commitStart s).sections[i].state = some .disturbed ∧ (commitStart s).sections[i].count = 0 ∧
      (commitStart s).sections[i].sweep = false := by
  have left : (commitStart s).sections = (startSections (startSlots (startPoints (startedSequencer s)))).sections :=
    (serviceFromBarriers_only (startSections (startSlots (startPoints (startedSequencer s))))).sections_eq (by decide)
  rw [left, startSections_sections, (startedSlots_only free).sections_eq (by decide),
    if_pos (show s.sections[i].inUse = true from used)]
  exact ⟨rfl, rfl, rfl⟩

omit free in
theorem commitStart_slots (k : Fin 4) : (commitStart s).slots[k].record = none := by
  have left : (commitStart s).slots = (startSlots (startPoints (startedSequencer s))).slots :=
    (serviceFromSections_only (startSlots (startPoints (startedSequencer s)))).slots_eq (by decide)
  rw [left, startSlots, Fin.getElem_fin, remake_getElem]

omit free in
theorem commitStart_line :
    (commitStart s).line.link = .down ∧ (commitStart s).line.rx = .skipping ∧ (commitStart s).line.inFlight = none := by
  have left : (commitStart s).line = (startedLine s).line :=
    (serviceFromFaults_only (startedLine s)).line_eq (by decide) (by decide)
  rw [left, startedLine, startLine_line]
  exact ⟨rfl, rfl, rfl⟩

theorem commitStart_lamps : (commitStart s).lamps.startUp = none ∧ (commitStart s).lamps.gen = some ⟨.lOn, s.now⟩ := by
  have left : (commitStart s).lamps = (startedLamps s).lamps :=
    (serviceFromSequencer_only (startedLamps s)).lamps_eq (by decide)
  obtain ⟨startUp, gen⟩ := startLamps_lamps (startedFaults s)
  rw [left, ← ((startedFaults_only free).clock_eq (by decide)).1]
  exact ⟨startUp, gen⟩

theorem commitStart_barriers {b : Fin 4} (configured : s.barriers[b].configured = true) :
    (commitStart s).barriers[b].state =
      if s.pins.contacts[b].snd then (if s.pins.contacts[b].fst then some .fault else some .down)
      else some .lowering := by
  have before := (startedSlots_only free).seq (startSections_only _) (cs := ([.part, .layout, .link, .line, .lamps, .seq,
    .holds, .points, .slots, .sections] : List Block) ++ faultBlocks) (by decide) (by decide)
  have left : (commitStart s).barriers =
      (barriersSet (startSections (startSlots (startPoints (startedSequencer s))))).barriers :=
    ((serviceFromSupply_only (startBarriers (startSections (startSlots (startPoints (startedSequencer s)))))).barriers_eq
      (by decide)).trans ((startBarriers_faults_only _).barriers_eq (by decide))
  rw [left, barriersSet, before.barriers_eq (by decide), before.pins_eq (by decide), Fin.getElem_fin, remake_getElem,
    if_pos (show s.barriers[b.val].configured = true from configured), Barrier.started_state]

end

/-- The ten checks read the configuration alone, which a frame that arrives leaves. -/
theorem commitFailure_frameIn (s : State) : commitFailure s.frameIn = commitFailure s := rfl

theorem exec_commit (tag : Byte) {s : State} (config : s.part = .config) (free : HostFree s)
    (passes : commitFailure s = none) :
    Accepts (.commit tag []) 0x1E tag [] (([.part, .layout] : List Block) ++ serviceBlocks) s
      ((commitStart s.frameIn).replied 0x1E tag [0]) := by
  have served : serve .commit [] s.frameIn = answer .ok [] (commitStart s.frameIn) := by
    unfold serve commitRequest
    rw [commitFailure_frameIn, passes]
  exact accepts_of_serve (q := .commit) rfl free (by decide) rfl (by rw [config]; rfl) served
    (commitStart_only (s := s.frameIn) free.2.2) (by decide)

/-- Settles O15: each block's start leaves its values, and no block started after it touches them. -/
theorem commitStartsService : Obligations.CommitStartsService := by
  unfold Obligations.CommitStartsService
  intro tag s config free passes
  obtain ⟨steps, replied, frame⟩ := exec_commit tag config free passes
  have warm : s.frameIn.host.warmPending = false := free.2.2
  obtain ⟨state, entry, closureStart, counted, signaller, localHold⟩ := commitStart_seq warm
  obtain ⟨latch, mode⟩ := commitStart_failed (s := s.frameIn)
  obtain ⟨link, rx, inFlight⟩ := commitStart_line (s := s.frameIn)
  obtain ⟨startUp, gen⟩ := commitStart_lamps warm
  refine ⟨_, steps, replied, ?_⟩
  simp only [State.replied, State.setHost_part, State.setHost_memory, State.setHost_seq, State.setHost_faults,
    State.setHost_points, State.setHost_sections, State.setHost_slots, State.setHost_line, State.setHost_lamps,
    State.setHost_barriers]
  exact ⟨commitStart_part warm, commitStart_layout warm, state, entry, closureStart, counted, signaller,
    localHold, mode, latch, commitStart_inService warm, fun i => commitStart_sections warm, commitStart_slots, link, rx,
    inFlight, startUp, gen, fun b => commitStart_barriers warm, frame.mono (by decide)⟩

end Sys2Proof.Machine
end

section
/-! PROOFS. How train records come to commit (R53 to R55): whatever the Sequencer does, a slot stands or its uncommitted record
commits. -/

namespace Sys2Proof.Machine

/-! ### A slot over a commit -/

/-- A slot stands, or its uncommitted record has committed (R55). -/
def Slot.Commits (x y : Slot) : Prop :=
  y = x ∨ ∃ r cause time short, x.record = some r ∧ r.committed = false ∧
    y = { x with record := some (r.commit cause time short) }

theorem Slot.Commits.trans {x y z : Slot} (h : x.Commits y) (h' : y.Commits z) : x.Commits z := by
  obtain rfl | ⟨r, cause, time, short, holds, pending, rfl⟩ := h
  · exact h'
  · obtain rfl | ⟨q, _, _, _, holds', pending', -⟩ := h'
    · exact .inr ⟨r, cause, time, short, holds, pending, rfl⟩
    · cases holds'
      exact absurd pending' (by simp [TrainRecord.commit])

/-- Every slot stands, or its uncommitted record has committed. -/
def SlotsCommit (s t : State) : Prop := ∀ k : Fin 4, s.slots[k].Commits t.slots[k]

theorem SlotsCommit.refl (s : State) : SlotsCommit s s := fun _ => .inl rfl

theorem SlotsCommit.trans {s t u : State} (h : SlotsCommit s t) (h' : SlotsCommit t u) : SlotsCommit s u :=
  fun k => (h k).trans (h' k)

theorem SlotsCommit.of_slots {s t : State} (h : t.slots = s.slots) : SlotsCommit s t := fun k => .inl (by rw [h])

theorem SlotsCommit.of_only {bs : List Block} {s t : State} (h : Only bs s t) (off : .slots ∉ bs) : SlotsCommit s t :=
  .of_slots (h.slots_eq off)

theorem SlotsCommit.ite {s t u : State} {c : Prop} [Decidable c] (ht : SlotsCommit s t) (hu : SlotsCommit s u) :
    SlotsCommit s (if c then t else u) := by
  split
  · exact ht
  · exact hu

theorem SlotsCommit.foldl {α : Type} {f : State → α → State} (hf : ∀ s a, SlotsCommit s (f s a)) (l : List α)
    (s : State) : SlotsCommit s (l.foldl f s) := by
  induction l generalizing s with
  | nil => exact .refl s
  | cons a l ih => exact (hf s a).trans (ih (f s a))

/-! ### A commit -/

theorem setRecord_getElem (s : State) (k : Fin 4) (r : Option TrainRecord) (j : Fin 4) :
    (s.setRecord k r).slots[j] = if k = j then { s.slots[j] with record := r } else s.slots[j] := by
  simp [State.setRecord, Fin.ext_iff]

/-- A slot over a commit of its record (R55). -/
def Slot.committing (x : Slot) (cause : CommitCause) (time : Time) (short : Bool) : Slot :=
  { x with record := x.record.map fun r => if r.committed then r else r.commit cause time short }

theorem Slot.committing_of_none {x : Slot} (h : x.record = none) (cause : CommitCause) (time : Time) (short : Bool) :
    x.committing cause time short = x := by
  cases x; simp_all [Slot.committing]

theorem Slot.committing_of_committed {x : Slot} {r : TrainRecord} (h : x.record = some r) (done : r.committed = true)
    (cause : CommitCause) (time : Time) (short : Bool) : x.committing cause time short = x := by
  cases x; simp_all [Slot.committing]

theorem Slot.committing_of_pending {x : Slot} {r : TrainRecord} (h : x.record = some r) (pending : r.committed = false)
    (cause : CommitCause) (time : Time) (short : Bool) :
    x.committing cause time short = { x with record := some (r.commit cause time short) } := by
  simp [Slot.committing, h, pending]

theorem upd_of_fixed {α : Type} {n : Nat} {v : Vector α n} {i : Fin n} {f : α → α} (h : f v[i] = v[i]) :
    upd v i f = v := by
  unfold upd
  rw [h]
  exact Vector.set_getElem_self i.isLt

theorem commitRecord_slots (k : Fin 4) (cause : CommitCause) (time : Time) (short : Bool) (s : State) :
    (commitRecord k cause time short s).slots = upd s.slots k fun x => x.committing cause time short := by
  unfold commitRecord
  split
  · next empty => exact (upd_of_fixed (Slot.committing_of_none empty _ _ _)).symm
  · next r holds =>
    split
    · next done => exact (upd_of_fixed (Slot.committing_of_committed holds done _ _ _)).symm
    · next pending =>
      rw [(emit_only _ _).slots_eq (by decide)]
      simp only [State.setRecord, State.setSlot_slots, upd]
      rw [Slot.committing_of_pending holds (Bool.eq_false_iff.2 pending)]

theorem commitRecord_getElem (k : Fin 4) (cause : CommitCause) (time : Time) (short : Bool) (s : State) (j : Fin 4) :
    (commitRecord k cause time short s).slots[j] =
      if k = j then s.slots[j].committing cause time short else s.slots[j] := by
  simp [commitRecord_slots, Fin.ext_iff]

theorem Slot.commits_committing (x : Slot) (cause : CommitCause) (time : Time) (short : Bool) :
    x.Commits (x.committing cause time short) := by
  cases holds : x.record with
  | none => exact .inl (committing_of_none holds _ _ _)
  | some r =>
    cases done : r.committed
    · exact .inr ⟨r, cause, time, short, holds, done, committing_of_pending holds done _ _ _⟩
    · exact .inl (committing_of_committed holds done _ _ _)

theorem commitRecord_commits (k : Fin 4) (cause : CommitCause) (time : Time) (short : Bool) (s : State) :
    SlotsCommit s (commitRecord k cause time short s) := fun j => by
  rw [commitRecord_getElem]
  split
  · exact Slot.commits_committing _ _ _ _
  · exact .inl rfl

theorem testPrepared_commits (k : Fin 4) (s : State) : SlotsCommit s (testPrepared k s) :=
  .ite (commitRecord_commits _ _ _ _ s) (.refl s)

theorem sweepCommits_commits (i : Fin 10) (s : State) : SlotsCommit s (sweepCommits i s) :=
  .foldl (fun s k => .ite (testPrepared_commits k s) (.refl s)) _ _

theorem guardCommit_commits (g : Nat) (s : State) : SlotsCommit s (guardCommit g s) :=
  .foldl (fun s _ => .ite (commitRecord_commits _ _ _ _ s) (.refl s)) _ _

/-! ### The Sequencer's transitions -/

theorem enterOpen_commits (s : State) : SlotsCommit s (enterOpen s) := by
  have opens := fun (f : Sequencer → Sequencer) b n =>
    (SlotsCommit.of_only (seqGo_only .roadOpen .barriers b n (s.setSeq f)) (by decide)).trans
      (.of_only (lampCommand_only .dark _) (by decide))
  have bins : ∀ (len : Option Nat) (t : State), SlotsCommit t
      (match len with | some ms => emit [.count (cntClosureBin ms)] t | none => t) := fun len t => by
    cases len with
    | none => exact .refl t
    | some ms => exact .of_only (emit_only _ t) (by decide)
  have ends := fun t => SlotsCommit.of_only (endCondition_only .longClosure 0 t) (by decide)
  unfold enterOpen
  dsimp only
  split
  · exact ((opens _ _ _).trans (bins _ _)).trans (ends _)
  · exact (opens _ _ _).trans (bins _ _)

theorem testRaising_commits (s : State) : SlotsCommit s (testRaising s) := .ite (enterOpen_commits s) (.refl s)

/-- A move of the Sequencer with its lamp and raise commands. -/
theorem moveAndRaise_only (x : SeqState) (c : SeqCause) (l : LampCmd) (p : Barrier → Bool) (s : State) :
    Only ([.seq, .lamps, .barriers, .faults] ++ recordBlocks) s
      (toBarriers p raiseBarrier (lampCommand l (seqMove x c s))) :=
  ((seqMove_only x c s).seq (lampCommand_only l _) (cs := [.seq, .lamps] ++ recordBlocks) (by decide) (by decide)).seq
    (toBarriers_only p _ raiseBarrier_only _) (by decide) (by decide)

/-- A move of the Sequencer with its lamp and release commands. -/
theorem moveAndRelease_only (x : SeqState) (c : SeqCause) (l : LampCmd) (p : Barrier → Bool) (s : State) :
    Only ([.seq, .lamps, .barriers] ++ recordBlocks) s
      (toBarriers p releaseBarrier (lampCommand l (seqMove x c s))) :=
  ((seqMove_only x c s).seq (lampCommand_only l _) (cs := [.seq, .lamps] ++ recordBlocks) (by decide) (by decide)).seq
    (toBarriers_only p _ releaseBarrier_only _) (by decide) (by decide)

theorem enterRaising_commits (s : State) : SlotsCommit s (enterRaising s) :=
  (SlotsCommit.of_only (moveAndRaise_only _ _ _ _ s) (by decide)).trans (testRaising_commits _)

theorem testClosed_commits (s : State) : SlotsCommit s (testClosed s) :=
  .ite (.ite (guardCommit_commits _ s) (enterRaising_commits s)) (.refl s)

theorem enterClosed_commits (s : State) : SlotsCommit s (enterClosed s) :=
  (SlotsCommit.of_only (moveAndRelease_only _ _ _ _ s) (by decide)).trans (testClosed_commits _)

theorem testLowerExit_commits (s : State) : SlotsCommit s (testLowerExit s) := .ite (enterClosed_commits s) (.refl s)

theorem enterLowerExit_commits (s : State) : SlotsCommit s (enterLowerExit s) :=
  (SlotsCommit.of_only (moveAndRelease_only _ _ _ _ s) (by decide)).trans (testLowerExit_commits _)

theorem testLowerEntry_commits (s : State) : SlotsCommit s (testLowerEntry s) :=
  .ite (.ite (enterLowerExit_commits (s.setSeq _)) (enterClosed_commits (s.setSeq _))) (.refl s)

theorem enterLowerEntry_commits (s : State) : SlotsCommit s (enterLowerEntry s) :=
  ((SlotsCommit.of_only (moveAndRelease_only _ _ _ _ s) (by decide)).trans
    (.of_only (setExitMark_only _) (by decide))).trans (testLowerEntry_commits _)

theorem reclose_commits (s : State) : SlotsCommit s (reclose s) :=
  ((SlotsCommit.of_only (moveAndRelease_only _ _ _ _ s) (by decide)).trans
    (.of_only (setExitMark_only _) (by decide))).trans (testLowerEntry_commits _)

theorem takeDemand_commits (s : State) : SlotsCommit s (takeDemand s) := by
  unfold takeDemand
  split
  · exact .ite (.of_only (leaveOpen_only _ _ _ s) (by decide)) (.refl s)
  · exact .ite (reclose_commits s) (.refl s)
  · exact testClosed_commits s
  · exact .refl s

theorem react_commits (s : State) : SlotsCommit s (react s) :=
  (takeDemand_commits s).trans (.of_only (lineSettle_only _) (by decide))

theorem barrierChanged_commits (s : State) : SlotsCommit s (barrierChanged s) := by
  unfold barrierChanged
  split
  · exact testLowerEntry_commits s
  · exact testLowerExit_commits s
  · exact testClosed_commits s
  · exact testRaising_commits s
  · exact .refl s

end Sys2Proof.Machine
end

section
/-! PROOFS. The law of a section's count (R22) and the law of a train record (R39, R52, R55), and that each shared operation
keeps them. -/

namespace Sys2Proof.Machine

/-! ### Sections -/

/-- A section's count and sweep-entered flag are those of its state (R22). -/
def Sect.Counted (c : Sect) : Prop :=
  (c.state = some .occupied → 1 ≤ c.count ∧ c.count ≤ 1023) ∧
    (c.state ≠ some .occupied → c.count = 0 ∧ c.sweep = false)

/-- A state other than OCCUPIED, with count 0 and the flag clear. -/
theorem Sect.counted_become (c : Sect) {st : SectionState} (h : st ≠ .occupied) : (c.become st 0 false).Counted :=
  ⟨fun e => absurd (Option.some.inj e) h, fun _ => ⟨rfl, rfl⟩⟩

theorem Sect.counted_entered (c : Sect) (sweep : Bool) : (c.become .occupied 1 sweep).Counted :=
  ⟨fun _ => ⟨Nat.le_refl 1, show 1 ≤ 1023 by decide⟩, fun e => absurd rfl e⟩

/-- A section that stays OCCUPIED takes another count in its range. -/
theorem Sect.counted_recount {c : Sect} (h : c.state = some .occupied) {n : Nat} (low : 1 ≤ n) (high : n ≤ 1023) :
    ({ c with count := n } : Sect).Counted := ⟨fun _ => ⟨low, high⟩, fun e => absurd h e⟩

theorem Sect.enter_counted {c : Sect} (h : c.Counted) : c.enter.new.Counted := by
  unfold Sect.enter
  split
  · exact c.counted_entered false
  · next occupied =>
    split
    · exact c.counted_become (by decide)
    · next room =>
      have max : Config.maxAxles = 1023 := rfl
      exact Sect.counted_recount occupied (by omega) (by omega)
  · exact c.counted_entered true
  · exact h
  · exact h

theorem Sect.leave_counted {c : Sect} (h : c.Counted) : c.leave.new.Counted := by
  unfold Sect.leave
  split
  · next occupied =>
    obtain ⟨-, high⟩ := h.1 occupied
    split
    · exact c.counted_become (by decide)
    · exact Sect.counted_recount occupied (by omega) (by omega)
  · exact c.counted_become (by decide)
  · exact c.counted_become (by decide)
  · exact h
  · exact h

theorem Sect.skewed_counted {c : Sect} (h : c.Counted) : c.skewed.new.Counted := by
  unfold Sect.skewed
  split
  · exact h
  · exact c.counted_become (by decide)
  · exact h

theorem Sect.restored_counted (c : Sect) (m : RestoreMode) : (c.restored m).new.Counted := by
  cases m
  · exact c.counted_become (by decide)
  · exact c.counted_become (by decide)

/-! ### Train records -/

/-- A record's commit and arrival items go together, the timer stopped once it is committed (R39, R55, R56). -/
structure TrainRecord.Coherent (r : TrainRecord) : Prop where
  time : r.committed = true ↔ r.commitTime.isSome = true
  cause : r.committed = true ↔ r.commitCause.isSome = true
  timer : r.committed = true → r.startTimer = none
  phase : r.phase = .arrived → r.committed = true
  arrival : r.phase = .arrived ↔ r.arrived.isSome = true

/-- A prediction has been made: A and S stand, and the start timer runs to S (R51). -/
structure TrainRecord.Timed (r : TrainRecord) : Prop where
  arrivalA : r.arrivalA.isSome = true
  warningS : r.warningS.isSome = true
  timer : r.startTimer = r.warningS

/-- The warning start is not before the present time (R52). -/
def TrainRecord.Ahead (r : TrainRecord) (now : Time) : Prop :=
  ∀ w, r.warningS = some w → w = now ∨ atOrBefore w now = false

/-- A record meets its laws. -/
structure TrainRecord.Sound (r : TrainRecord) (part : Part) (now : Time) : Prop where
  run : part = .run
  coherent : r.Coherent
  awaits : r.committed = false → r.Timed ∧ r.Ahead now

/-- Every record meets its laws. -/
def TrainsSound (s : State) : Prop := ∀ (k : Fin 4) (r : TrainRecord), s.slots[k].record = some r → r.Sound s.part s.now

theorem trainsSound_iff (s : State) : TrainsSound s ↔ RecordsConsistent s ∧ StartsAhead s := by
  constructor
  · intro h
    refine ⟨fun k r holds => ?_, fun k r holds => ?_⟩
    · obtain ⟨-, ⟨time, cause, timer, phase, arrival⟩, awaits⟩ := h k r holds
      exact ⟨time, cause, timer, phase, arrival, fun pending =>
        ⟨(awaits pending).1.arrivalA, (awaits pending).1.warningS, (awaits pending).1.timer⟩⟩
    · obtain ⟨run, -, awaits⟩ := h k r holds
      exact ⟨run, fun pending => (awaits pending).2⟩
  · rintro ⟨consistent, starts⟩ k r holds
    obtain ⟨time, cause, timer, phase, arrival, timed⟩ := consistent k r holds
    obtain ⟨run, ahead⟩ := starts k r holds
    exact ⟨run, ⟨time, cause, timer, phase, arrival⟩, fun pending =>
      ⟨⟨(timed pending).1, (timed pending).2.1, (timed pending).2.2⟩, ahead pending⟩⟩

/-- A committed record awaits nothing. -/
theorem TrainRecord.Coherent.sound {r : TrainRecord} (h : r.Coherent) (done : r.committed = true) {part : Part}
    (run : part = .run) (now : Time) : r.Sound part now :=
  ⟨run, h, fun pending => absurd (done.symm.trans pending) (by decide)⟩

theorem TrainRecord.Coherent.commit {r : TrainRecord} (h : r.Coherent) (cause : CommitCause) (time : Time) (short : Bool) :
    (r.commit cause time short).Coherent :=
  ⟨by simp [TrainRecord.commit], by simp [TrainRecord.commit], fun _ => rfl, fun _ => rfl, h.arrival⟩

theorem TrainRecord.Coherent.arrive {r : TrainRecord} (h : r.Coherent) (done : r.committed = true) (now : Time) :
    (r.arrive now).Coherent :=
  ⟨h.time, h.cause, h.timer, fun _ => done, by simp [TrainRecord.arrive]⟩

theorem TrainRecord.fresh_coherent (now : Time) : (TrainRecord.fresh now).Coherent :=
  ⟨by simp [TrainRecord.fresh], by simp [TrainRecord.fresh], by simp [TrainRecord.fresh], by simp [TrainRecord.fresh],
    by simp [TrainRecord.fresh]⟩

theorem TrainRecord.Coherent.predicted {r : TrainRecord} (h : r.Coherent) (now : Time) (rwt : Nat) (e : Prediction) :
    (r.predicted now rwt e).Coherent := by
  unfold TrainRecord.predicted
  dsimp only
  split
  · exact ⟨h.time, h.cause, h.timer, h.phase, h.arrival⟩
  · next pending => exact ⟨h.time, h.cause, fun done => absurd done pending, h.phase, h.arrival⟩

theorem TrainRecord.predicted_committed (r : TrainRecord) (now : Time) (rwt : Nat) (e : Prediction) :
    (r.predicted now rwt e).committed = r.committed := by
  unfold TrainRecord.predicted
  dsimp only
  split <;> rfl

theorem TrainRecord.predicted_timed {r : TrainRecord} (pending : r.committed = false) (now : Time) (rwt : Nat)
    (e : Prediction) : (r.predicted now rwt e).Timed := by
  unfold TrainRecord.predicted
  dsimp only
  rw [if_neg (Bool.eq_false_iff.1 pending)]
  exact ⟨rfl, rfl, rfl⟩

/-- A record that takes another axle count or long-warning mark meets its laws as before. -/
theorem TrainRecord.Sound.marked {r : TrainRecord} {part : Part} {now : Time} (h : r.Sound part now) (n : Nat) (m : Bool) :
    ({ r with axlesIn := n, longMark := m } : TrainRecord).Sound part now :=
  ⟨h.run, ⟨h.coherent.time, h.coherent.cause, h.coherent.timer, h.coherent.phase, h.coherent.arrival⟩, fun pending =>
    have ⟨timed, ahead⟩ := h.awaits pending
    ⟨⟨timed.arrivalA, timed.warningS, timed.timer⟩, ahead⟩⟩

/-! ### Both laws, from one state to another -/

/-- The laws of the sections and of the train records. -/
structure TrackLaws (s : State) : Prop where
  sections : SectionCounts s
  trains : TrainsSound s

theorem trackLaws_iff (s : State) : TrackLaws s ↔ SectionCounts s ∧ RecordsConsistent s ∧ StartsAhead s := by
  rw [← trainsSound_iff]
  exact ⟨fun h => ⟨h.sections, h.trains⟩, fun h => ⟨h.1, h.2⟩⟩

/-- What the laws read of the state: the part's state, the time, and what is live of the sections and slots. -/
structure SameTrack (s t : State) : Prop where
  part : t.part = s.part
  now : t.now = s.now
  sections : ∀ i : Fin 10, t.sections[i].state = s.sections[i].state ∧ t.sections[i].count = s.sections[i].count ∧
    t.sections[i].sweep = s.sections[i].sweep
  slots : ∀ k : Fin 4, t.slots[k].record = s.slots[k].record

/-- The blocks that hold what the laws read. -/
def trackBlocks : List Block := [.part, .clock, .sections, .slots]

theorem SameTrack.of_eq {s t : State} (part : t.part = s.part) (now : t.now = s.now) (sections : t.sections = s.sections)
    (slots : t.slots = s.slots) : SameTrack s t :=
  ⟨part, now, fun i => by rw [sections]; exact ⟨rfl, rfl, rfl⟩, fun k => by rw [slots]⟩

theorem SameTrack.of_only {bs : List Block} {s t : State} (h : Only bs s t) (off : ∀ b ∈ trackBlocks, b ∉ bs) :
    SameTrack s t :=
  .of_eq (h.part_eq (off _ (by decide))) (h.clock_eq (off _ (by decide))).1 (h.sections_eq (off _ (by decide)))
    (h.slots_eq (off _ (by decide)))

theorem SameTrack.laws {s t : State} (h : SameTrack s t) (laws : TrackLaws s) : TrackLaws t := by
  refine ⟨fun i => ?_, fun k r holds => ?_⟩
  · obtain ⟨state, count, sweep⟩ := h.sections i
    rw [state, count, sweep]
    exact laws.sections i
  · rw [h.part, h.now]
    exact laws.trains k r ((h.slots k).symm.trans holds)

/-- A change keeps the laws. -/
def KeepsTrack (s t : State) : Prop := TrackLaws s → TrackLaws t

theorem KeepsTrack.of_same {s t : State} (h : SameTrack s t) : KeepsTrack s t := h.laws

theorem KeepsTrack.refl (s : State) : KeepsTrack s s := id

theorem KeepsTrack.trans {s t u : State} (h : KeepsTrack s t) (h' : KeepsTrack t u) : KeepsTrack s u := h' ∘ h

theorem KeepsTrack.of_only {bs : List Block} {s t : State} (h : Only bs s t) (off : ∀ b ∈ trackBlocks, b ∉ bs) :
    KeepsTrack s t := (SameTrack.of_only h off).laws

theorem KeepsTrack.ite {s t u : State} {c : Prop} [Decidable c] (ht : KeepsTrack s t) (hu : KeepsTrack s u) :
    KeepsTrack s (if c then t else u) := by
  split
  · exact ht
  · exact hu

/-- A change that is made under a condition, which the argument for it may use. -/
theorem KeepsTrack.when {s t : State} {c : Prop} [Decidable c] (h : c → KeepsTrack s t) :
    KeepsTrack s (if c then t else s) := by
  split
  · next holds => exact h holds
  · exact .refl s

theorem KeepsTrack.foldl {α : Type} {f : State → α → State} (hf : ∀ s a, KeepsTrack s (f s a)) (l : List α) (s : State) :
    KeepsTrack s (l.foldl f s) := by
  induction l generalizing s with
  | nil => exact .refl s
  | cons a l ih => exact (hf s a).trans (ih (f s a))

/-- A change of the slots that leaves the sections keeps the laws if it keeps the records'. -/
theorem KeepsTrack.of_trains {bs : List Block} {s t : State} (h : Only bs s t) (off : .sections ∉ bs)
    (trains : TrainsSound s → TrainsSound t) : KeepsTrack s t := fun laws =>
  ⟨fun i => by rw [h.sections_eq off]; exact laws.sections i, trains laws.trains⟩

/-! ### One slot's record -/

/-- Every record but one slot's meets its laws; that one's items agree, whether or not a prediction has been made for it. -/
structure TrainsSoundBut (k : Fin 4) (s : State) : Prop where
  run : s.part = .run
  others : ∀ (j : Fin 4) (r : TrainRecord), j ≠ k → s.slots[j].record = some r → r.Sound s.part s.now
  coherent : ∀ r, s.slots[k].record = some r → r.Coherent

theorem TrainsSound.but {s : State} (h : TrainsSound s) (run : s.part = .run) (k : Fin 4) : TrainsSoundBut k s :=
  ⟨run, fun j r _ holds => h j r holds, fun r holds => (h k r holds).coherent⟩

/-- The one slot takes a record that meets the laws. -/
theorem TrainsSoundBut.sound {k : Fin 4} {s t : State} (h : TrainsSoundBut k s) (part : t.part = s.part)
    (now : t.now = s.now) (others : ∀ j : Fin 4, j ≠ k → t.slots[j].record = s.slots[j].record)
    (filled : ∀ r, t.slots[k].record = some r → r.Sound s.part s.now) : TrainsSound t := fun j r holds => by
  rw [part, now]
  by_cases e : j = k
  · subst e; exact filled r holds
  · exact h.others j r e ((others j e).symm.trans holds)

theorem TrainsSoundBut.refill {k : Fin 4} {s t : State} (h : TrainsSoundBut k s) (part : t.part = s.part)
    (now : t.now = s.now) (others : ∀ j : Fin 4, j ≠ k → t.slots[j].record = s.slots[j].record)
    (filled : ∀ r, t.slots[k].record = some r → r.Coherent) : TrainsSoundBut k t :=
  ⟨part.trans h.run, fun j r e holds => by rw [part, now]; exact h.others j r e ((others j e).symm.trans holds), filled⟩

theorem TrainsSound.same {s t : State} (h : SameTrack s t) (sound : TrainsSound s) : TrainsSound t := fun k r holds => by
  rw [h.part, h.now]
  exact sound k r ((h.slots k).symm.trans holds)

theorem TrainsSoundBut.same {k : Fin 4} {s t : State} (h : SameTrack s t) (sound : TrainsSoundBut k s) : TrainsSoundBut k t :=
  sound.refill h.part h.now (fun j _ => h.slots j) fun r holds => sound.coherent r ((h.slots k).symm.trans holds)

theorem setRecord_record (s : State) (k : Fin 4) (r : Option TrainRecord) (j : Fin 4) :
    (s.setRecord k r).slots[j].record = if k = j then r else s.slots[j].record := by
  rw [setRecord_getElem]
  split <;> rfl

theorem setRecord_record_ne (s : State) {k j : Fin 4} (h : j ≠ k) (r : Option TrainRecord) :
    (s.setRecord k r).slots[j].record = s.slots[j].record := by
  rw [setRecord_record, if_neg h.symm]

/-- What a record's outputs leave: everything the laws read. -/
theorem emit_same (os : List Output) (s : State) : SameTrack s (emit os s) := .of_only (emit_only os s) (by decide)

theorem raise_same (k : FaultKind) (o d : Nat) (s : State) : SameTrack s (raise k o d s) :=
  .of_only (raise_only k o d s) (by decide)

/-! ### Commits -/

theorem commitRecord_sound {k : Fin 4} {s : State} (h : TrainsSoundBut k s) (cause : CommitCause) (time : Time)
    (short : Bool) : TrainsSound (commitRecord k cause time short s) := by
  have frame := commitRecord_only k cause time short s
  refine h.sound (frame.part_eq (by decide)) (frame.clock_eq (by decide)).1 (fun j e => ?_) fun r holds => ?_
  · rw [commitRecord_getElem, if_neg e.symm]
  · rw [commitRecord_getElem, if_pos rfl] at holds
    obtain ⟨q, held, rfl⟩ := Option.map_eq_some_iff.1 holds
    split
    · next done => exact (h.coherent q held).sound done h.run s.now
    · exact ((h.coherent q held).commit cause time short).sound rfl h.run s.now

theorem SlotsCommit.sound {s t : State} (h : SlotsCommit s t) (part : t.part = s.part) (now : t.now = s.now)
    (sound : TrainsSound s) : TrainsSound t := fun k r holds => by
  rw [part, now]
  rcases h k with same | ⟨q, cause, time, short, held, -, commits⟩
  · rw [same] at holds
    exact sound k r holds
  · rw [commits] at holds
    cases holds
    exact ((sound k q held).coherent.commit cause time short).sound rfl (sound k q held).run s.now

theorem KeepsTrack.of_commits {bs : List Block} {s t : State} (h : Only bs s t)
    (off : ∀ b ∈ [Block.part, .clock, .sections], b ∉ bs) (commits : SlotsCommit s t) : KeepsTrack s t :=
  .of_trains h (off _ (by decide))
    (commits.sound (h.part_eq (off _ (by decide))) (h.clock_eq (off _ (by decide))).1)

theorem takeDemand_keeps (s : State) : KeepsTrack s (takeDemand s) :=
  .of_commits (takeDemand_only s) (by decide) (takeDemand_commits s)

theorem react_keeps (s : State) : KeepsTrack s (react s) := .of_commits (react_only s) (by decide) (react_commits s)

theorem testLowerEntry_keeps (s : State) : KeepsTrack s (testLowerEntry s) :=
  .of_commits (testLowerEntry_only s) (by decide) (testLowerEntry_commits s)

theorem enterLowerEntry_keeps (s : State) : KeepsTrack s (enterLowerEntry s) :=
  .of_commits (enterLowerEntry_only s) (by decide) (enterLowerEntry_commits s)

theorem barrierChanged_keeps (s : State) : KeepsTrack s (barrierChanged s) :=
  .of_commits (barrierChanged_only s) (by decide) (barrierChanged_commits s)

theorem sweepCommits_keeps (i : Fin 10) (s : State) : KeepsTrack s (sweepCommits i s) :=
  .of_commits (sweepCommits_only i s) (by decide) (sweepCommits_commits i s)

/-! ### Creation, prediction, arrival -/

theorem createRecord_sound {s : State} (h : TrainsSound s) (run : s.part = .run) (k : Fin 4) (p : Fin 12) :
    TrainsSoundBut k (createRecord k p s) := by
  refine TrainsSoundBut.same (emit_same [.log .record k.val [0, byte p.val]] _)
    ((h.but run k).refill (t := s.setRecord k (some (TrainRecord.fresh s.now))) rfl rfl
    (fun j e => setRecord_record_ne s e _) fun r holds => ?_)
  rw [setRecord_record, if_pos rfl] at holds
  cases holds
  exact TrainRecord.fresh_coherent s.now

theorem arriveRecord_sound {k : Fin 4} {s : State} (h : TrainsSoundBut k s) (p : Fin 12) :
    TrainsSound (arriveRecord k p s) := by
  have committed := commitRecord_sound h .arrival s.now false
  have run : (commitRecord k .arrival s.now false s).part = .run :=
    ((commitRecord_only k .arrival s.now false s).part_eq (by decide)).trans h.run
  have done : ∀ r, (commitRecord k .arrival s.now false s).slots[k].record = some r → r.committed = true :=
    fun r holds => by
      rw [commitRecord_getElem, if_pos rfl] at holds
      obtain ⟨q, -, rfl⟩ := Option.map_eq_some_iff.1 holds
      split
      · next already => exact already
      · rfl
  unfold arriveRecord
  dsimp only
  split
  · exact committed
  · next r holds =>
    refine TrainsSound.same (emit_same _ _) ((committed.but run k).sound rfl rfl
      (fun j e => setRecord_record_ne _ e _) fun q filled => ?_)
    rw [setRecord_record, if_pos rfl] at filled
    cases filled
    exact ((committed k r holds).coherent.arrive (done r holds) _).sound (done r holds) run _

theorem lateClosureTest_same (k : Fin 4) (s : State) : SameTrack s (lateClosureTest k s) :=
  .of_only (lateClosureTest_only k s) (by decide)

theorem tookFree_same (s : State) : SameTrack s s.tookFree := .of_eq rfl rfl rfl rfl

theorem takeDemand_sound {s : State} (h : TrainsSound s) : TrainsSound (takeDemand s) :=
  (takeDemand_commits s).sound ((takeDemand_only s).part_eq (by decide)) ((takeDemand_only s).clock_eq (by decide)).1 h

theorem arrival_sound {k : Fin 4} {s : State} (h : TrainsSoundBut k s) (p : Fin 12) : TrainsSound (arrival k p s) := by
  have arrives := arriveRecord_sound h p
  unfold arrival
  dsimp only
  split
  · have free : TrainsSound (arriveRecord k p s).tookFree := .same (tookFree_same _) arrives
    refine .same (lateClosureTest_same _ _) ?_
    split
    · exact takeDemand_sound free
    · exact free
  · exact .same (lateClosureTest_same _ _) arrives

/-- The commit test leaves a record for which a prediction has been made in its laws: an S at or before now commits (R51). -/
theorem commitTest_sound {k : Fin 4} {s : State} (h : TrainsSoundBut k s)
    (timed : ∀ r, s.slots[k].record = some r → r.committed = false → r.Timed) (ms : Nat) :
    TrainsSound (commitTest k ms s) := by
  have commits := fun short => commitRecord_sound h .prediction s.now short
  have stands : (∀ r, s.slots[k].record = some r → r.Sound s.part s.now) → TrainsSound s :=
    h.sound rfl rfl fun _ _ => rfl
  unfold commitTest
  split
  · next none => exact stands fun r holds => absurd (none.symm.trans holds) (by simp)
  · next r holds =>
    split
    · next done =>
      refine stands fun q held => ?_
      cases holds.symm.trans held
      exact (h.coherent r holds).sound done h.run s.now
    · next pending =>
      split
      · split
        · exact .same (raise_same _ _ _ _) (.same (emit_same _ _) (commits true))
        · exact commits false
      · next ahead =>
        refine stands fun q held => ⟨h.run, h.coherent q held, fun waiting => ⟨timed q held waiting, fun w s_ => .inr ?_⟩⟩
        cases holds.symm.trans held
        rw [s_] at ahead
        exact Bool.eq_false_iff.2 ahead

theorem speedChecks_same (k : Fin 4) (p : Fin 12) (n : Option Nat) (s : State) : SameTrack s (speedChecks k p n s) :=
  .of_only (speedChecks_only k p n s) (by decide)

theorem predict_sound {k : Fin 4} {s : State} (h : TrainsSoundBut k s) (p : Fin 12) (n : Option Nat) :
    TrainsSound (predict k p n s) := by
  unfold predict
  split
  · next none => exact h.sound rfl rfl (fun _ _ => rfl) fun r holds => absurd (none.symm.trans holds) (by simp)
  · next r holds =>
    have checked := h.same (speedChecks_same k p n s)
    generalize s.prediction k p n = e at *
    generalize speedChecks k p n s = u at *
    have set : TrainsSoundBut k (u.setRecord k (some (r.predicted u.now u.rwt e))) :=
      checked.refill rfl rfl (fun j e => setRecord_record_ne u e _) fun q filled => by
        rw [setRecord_record, if_pos rfl] at filled
        cases filled
        exact (h.coherent r holds).predicted _ _ _
    have written := emit_same [.log .record k.val (predictedData r.committed e)]
      (u.setRecord k (some (r.predicted u.now u.rwt e)))
    refine commitTest_sound (set.same written) (fun q filled pending => ?_) e.tMs
    rw [written.slots, setRecord_record, if_pos rfl] at filled
    cases filled
    exact TrainRecord.predicted_timed ((r.predicted_committed u.now u.rwt e).symm.trans pending) _ _ _

theorem testPrepared_sound {s : State} (h : TrainsSound s) (k : Fin 4) : TrainsSound (testPrepared k s) :=
  (testPrepared_commits k s).sound ((testPrepared_only k s).part_eq (by decide))
    ((testPrepared_only k s).clock_eq (by decide)).1 h

/-- One slot's record takes another axle count or long-warning mark. -/
theorem setMarks_sound {s : State} (h : TrainsSound s) (k : Fin 4) (f : TrainRecord → TrainRecord)
    (marks : ∀ r, ∃ n m, f r = { r with axlesIn := n, longMark := m }) :
    TrainsSound (s.setSlot k fun x => { x with record := x.record.map f }) := fun j r holds => by
  simp only [State.setSlot_slots, Fin.getElem_fin, upd_getElem] at holds
  split at holds
  · obtain ⟨q, held, rfl⟩ := Option.map_eq_some_iff.1 holds
    obtain ⟨n, m, marked⟩ := marks q
    rw [marked]
    exact (h j q held).marked n m
  · exact h j r holds

theorem takeAxle_sound {s : State} (h : TrainsSound s) (run : s.part = .run) (p : Fin 12) (d : Dir) (n : Option Nat) :
    TrainsSound (takeAxle p d n s) := by
  unfold takeAxle
  split
  · exact h
  · dsimp only
    split
    · split
      · exact arrival_sound (createRecord_sound h run _ p) p
      · split
        · exact arrival_sound (h.but run _) p
        · exact setMarks_sound h _ _ fun r => ⟨_, _, rfl⟩
    · split
      · split
        · exact testPrepared_sound (predict_sound (createRecord_sound h run _ p) p n) _
        · split
          · exact predict_sound (h.but run _) p n
          · exact h
      · exact h

theorem takeAxle_keeps {s : State} (run : s.part = .run) (p : Fin 12) (d : Dir) (n : Option Nat) :
    KeepsTrack s (takeAxle p d n s) :=
  .of_trains (takeAxle_only p d n s) (by decide) fun h => takeAxle_sound h run p d n

/-! ### Records that end -/

theorem Slot.emptied_of_none {x : Slot} (h : x.record = none) : ({ x with record := none } : Slot) = x := by
  cases x; simp_all

theorem endRecord_slots (k : Fin 4) (s : State) : (endRecord k s).slots = (s.setRecord k none).slots := by
  unfold endRecord
  split
  · next empty =>
    exact (upd_of_fixed (f := fun x : Slot => { x with record := none }) (Slot.emptied_of_none empty)).symm
  · exact ((storePassage_only _ _).slots_eq (by decide)).trans ((emit_only _ _).slots_eq (by decide))

theorem endRecord_keeps (k : Fin 4) (s : State) : KeepsTrack s (endRecord k s) := by
  have frame := endRecord_only k s
  refine .of_trains frame (by decide) fun h j r holds => ?_
  rw [frame.part_eq (by decide), (frame.clock_eq (by decide)).1]
  rw [endRecord_slots, setRecord_record] at holds
  split at holds
  · cases holds
  · exact h j r holds

theorem endRecords_keeps (l : List (Fin 10)) (s : State) : KeepsTrack s (endRecords l s) := by
  unfold endRecords
  dsimp only
  split
  · exact .refl s
  · exact endRecord_keeps _ s
  · exact KeepsTrack.trans (tookFree_same s).laws (.foldl (fun s k => endRecord_keeps k s) _ _)

/-! ### Section events -/

theorem setEffects_counted {es : List SectEffect} (h : ∀ e ∈ es, e.change.new.Counted) {s : State} (counts : SectionCounts s) :
    SectionCounts (setEffects es s) := by
  unfold setEffects
  induction es generalizing s with
  | nil => exact counts
  | cons e es ih =>
    refine ih (fun e' he' => h e' (List.mem_cons_of_mem _ he')) fun i => ?_
    change ((s.setSect e.index fun _ => e.change.new).sections[i]).Counted
    rw [setSect_getElem]
    split
    · exact h e List.mem_cons_self
    · exact counts i

theorem applyEffects_keeps {es : List SectEffect} {s : State} (keep : ∀ e ∈ es, e.Keeps s)
    (counted : SectionCounts s → ∀ e ∈ es, e.change.new.Counted) (p : Option (Fin 12)) :
    KeepsTrack s (applyEffects es p s) := fun laws => by
  have frame := applyEffects_only es p s keep
  refine ⟨fun i => ?_, fun k r holds => ?_⟩
  · rw [applyEffects_sections]
    exact setEffects_counted (counted laws.sections) laws.sections i
  · rw [frame.part_eq (by decide), (frame.clock_eq (by decide)).1]
    rw [frame.slots_eq (by decide)] at holds
    exact laws.trains k r holds

theorem axleEffects_counted {s : State} (h : SectionCounts s) (p : Fin 12) (d : Dir) :
    ∀ e ∈ s.axleEffects p d, e.change.new.Counted := by
  intro e he
  simp only [State.axleEffects, List.mem_append, Option.mem_toList, Option.map_eq_some_iff] at he
  rcases he with ⟨i, -, rfl⟩ | ⟨i, -, rfl⟩
  · exact Sect.leave_counted (h i)
  · exact Sect.enter_counted (h i)

theorem skewEffects_counted {s : State} (h : SectionCounts s) (p : Fin 12) :
    ∀ e ∈ s.skewEffects p, e.change.new.Counted := by
  intro e he
  simp only [State.skewEffects, List.mem_append, Option.mem_toList, Option.map_eq_some_iff] at he
  rcases he with ⟨i, -, rfl⟩ | ⟨i, -, rfl⟩
  · exact Sect.skewed_counted (h i)
  · exact Sect.skewed_counted (h i)

theorem emit_keeps (os : List Output) (s : State) : KeepsTrack s (emit os s) := (emit_same os s).laws

theorem axleEvent_keeps {s : State} (run : s.part = .run) (p : Fin 12) (d : Dir) (n : Option Nat) :
    KeepsTrack s (axleEvent p d n s) := by
  have counted := (emit_only [.count (cntAxles p)] s).part_eq (by decide)
  have applied := applyEffects_keeps (axleEffects_keep (emit [.count (cntAxles p)] s) p d)
    (fun h => axleEffects_counted h p d) (some p)
  have frame := applyEffects_only _ (some p) _ (axleEffects_keep (emit [.count (cntAxles p)] s) p d)
  exact (((emit_keeps _ s).trans applied).trans
    (takeAxle_keeps ((frame.part_eq (by decide)).trans (counted.trans run)) p d n)).trans (endRecords_keeps _ _)

theorem skewEvent_keeps (p : Fin 12) (s : State) : KeepsTrack s (skewEvent p s) := by
  have applied := applyEffects_keeps (skewEffects_keep (emit [.count cntSequenceErrors] s) p)
    (fun h => skewEffects_counted h p) (some p)
  exact ((emit_keeps _ s).trans applied).trans (endRecords_keeps _ _)

theorem carryOutRestore_keeps (i : Fin 10) (m : RestoreMode) (s : State) : KeepsTrack s (carryOutRestore i m s) := by
  have applied : KeepsTrack s (applyEffects [⟨i, s.sections[i], s.sections[i].restored m⟩] none s) :=
    applyEffects_keeps (by simpa [SectEffect.Keeps] using Sect.restored_settings _ m)
      (fun _ => by simpa using Sect.restored_counted _ m) none
  have ended := applied.trans (.of_only (endCondition_only .sectionDisturbed i.val _) (by decide))
  unfold carryOutRestore
  cases m
  · exact ended.trans (endRecords_keeps _ _)
  · exact ((ended.trans (sweepCommits_keeps i _)).trans (takeDemand_keeps _)).trans (endRecords_keeps _ _)

theorem restore_keeps (n m : Nat) (s : State) : KeepsTrack s (restore n m s).2 := by
  unfold restore
  split
  · split
    · split
      · exact carryOutRestore_keeps _ _ s
      · exact .refl s
    · exact .refl s
  · exact .refl s

end Sys2Proof.Machine
end

section
/-! PROOFS. Every step keeps the laws of section counts and of train records: the commands block by block, the start of service,
the head tick (R22, R39, R52, R55). -/

namespace Sys2Proof.Machine

/-! ### Points -/

theorem setPoint_same_track (s : State) (p : Fin 12) (f : Point → Point) : SameTrack s (s.setPoint p f) :=
  .of_eq rfl rfl rfl rfl

theorem pointEvent_keeps {s : State} (run : s.part = .run) (p : Fin 12) (e : Option PointEvent) :
    KeepsTrack s (pointEvent p e s) := by
  unfold pointEvent
  split
  · exact .refl s
  · exact axleEvent_keeps run p _ _
  · exact skewEvent_keeps p s

theorem pointTick_keeps {s : State} (run : s.part = .run) (p : Fin 12) (a b expiring : Bool) :
    KeepsTrack s (pointTick p a b expiring s) := by
  have told : ∀ (y : Point) (raises : Bool) (d : Nat) (e : Option PointEvent), KeepsTrack s
      (pointEvent p e (if raises then raise .headFault p.val d (s.setPoint p fun _ => y) else s.setPoint p fun _ => y)) :=
    fun y raises d e => by
      have set : KeepsTrack s (s.setPoint p fun _ => y) := .of_same (setPoint_same_track s p _)
      split
      · have raised := raise_same .headFault p.val d (s.setPoint p fun _ => y)
        exact (set.trans (.of_same raised)).trans (pointEvent_keeps (raised.part.trans run) p e)
      · exact set.trans (pointEvent_keeps (s := s.setPoint p fun _ => y) run p e)
  exact told _ _ _ _

theorem headTick_keeps {s : State} (run : s.part = .run) (p : Fin 12) (a b : Window) : KeepsTrack s (headTick p a b s) :=
  KeepsTrack.trans (.of_same (setPoint_same_track s p _)) (pointTick_keeps (s := s.setPoint p fun x => x.accept a b) run p _ _ _)

theorem sampled_run {s : State} {p : Fin 12} (h : s.sampled p = true) : s.part = .run := by
  simp only [State.sampled, Bool.and_eq_true, beq_iff_eq] at h
  exact h.1

theorem stuckDue_run {s : State} {p : Fin 12} (h : s.stuckDue p = true) : s.part = .run := by
  simp only [State.stuckDue, Bool.and_eq_true, beq_iff_eq] at h
  exact h.1.1

theorem headChange_keeps (p : Fin 12) (a b : Window) (s : State) :
    KeepsTrack s (if (setHeads p a.s4 b.s4 s).sampled p then react (headTick p a b (setHeads p a.s4 b.s4 s))
      else setHeads p a.s4 b.s4 s) := by
  have set : KeepsTrack s (setHeads p a.s4 b.s4 s) := .of_only (setHeads_only p _ _ s) (by decide)
  exact set.trans (.when fun sampled => (headTick_keeps (sampled_run sampled) p a b).trans (react_keeps _))

/-! ### Barriers -/

theorem setBarrier_same (s : State) (b : Fin 4) (f : Barrier → Barrier) : SameTrack s (s.setBarrier b f) :=
  .of_eq rfl rfl rfl rfl

theorem barrierFaultReport_keeps (s : State) : KeepsTrack s (barrierFaultReport s) :=
  .of_only (barrierFaultReport_only s) (by decide)

theorem barrierFault_keeps (b : Fin 4) (d : Nat) (s : State) : KeepsTrack s (barrierFault b d s) := by
  have reported : ∀ t : State, KeepsTrack t
      (if t.seq.state = some .roadOpen then
        barrierFaultReport (if t.order then takeDemand t.tookFree else t.tookFree)
      else barrierFaultReport t) := fun t =>
    have free : KeepsTrack t t.tookFree := .of_same (tookFree_same t)
    .ite ((free.trans (.ite (takeDemand_keeps _) (.refl _))).trans (barrierFaultReport_keeps _))
      (barrierFaultReport_keeps t)
  have failed : KeepsTrack s (endThenRaise (if s.barriers[b].disturbed then some .barrierDisturbed else none) .barrierFail
      b.val d (s.setBarrier b fun x => x.toFault s.now d)) :=
    KeepsTrack.trans (.of_same (setBarrier_same s b _)) (.of_only (endThenRaise_only _ _ _ _ _) (by decide))
  unfold barrierFault
  exact (((failed.trans (emit_keeps _ _)).trans (reported _)).trans (takeDemand_keeps _)).trans (barrierChanged_keeps _)

theorem keepBarrier_keeps (b : Fin 4) (x : Barrier) (s : State) : KeepsTrack s (keepBarrier b x s) := by
  have ended : ∀ c : Bool, KeepsTrack s
      (if c then endCondition .barrierDisturbed b.val (s.setBarrier b fun _ => x) else s.setBarrier b fun _ => x) :=
    fun c => KeepsTrack.trans (.of_same (setBarrier_same s b _))
      (.ite (.of_only (endCondition_only _ _ _) (by decide)) (.refl _))
  unfold keepBarrier
  exact .ite (ended _) ((ended _).trans (barrierChanged_keeps _))

theorem judgeBarrier_keeps (b : Fin 4) (s : State) : KeepsTrack s (judgeBarrier b s) := by
  unfold judgeBarrier
  split
  · exact keepBarrier_keeps b _ s
  · exact barrierFault_keeps b _ s

theorem takeLimit_keeps (b : Fin 4) (s : State) : KeepsTrack s (takeLimit b s) := by
  unfold takeLimit
  split
  · exact barrierFault_keeps b _ s
  · exact judgeBarrier_keeps b s

theorem settleBarrier_keeps (b : Fin 4) (s : State) : KeepsTrack s (settleBarrier b s) :=
  KeepsTrack.trans (KeepsTrack.trans (.of_same (setBarrier_same s b _)) (.of_only (endCondition_only _ _ _) (by decide)))
    (barrierChanged_keeps _)

theorem contactChange_keeps (b : Fin 4) (up down : Bool) (s : State) :
    KeepsTrack s (if (setContacts b up down s).contactsSampled b then
      react (acceptContacts b up down (setContacts b up down s)) else setContacts b up down s) := by
  have set : KeepsTrack s (setContacts b up down s) := .of_only (setPins_only s _) (by decide)
  refine set.trans (.when fun _ => ?_)
  exact (KeepsTrack.trans (.of_same (setBarrier_same _ b _)) (judgeBarrier_keeps b _)).trans (react_keeps _)

/-! ### The hold set -/

theorem holdChanged_keeps (s : State) : KeepsTrack s (holdChanged s) := (emit_keeps _ s).trans (takeDemand_keeps _)

theorem setHold_keeps (signaller on : Bool) (s : State) : KeepsTrack s (setHold signaller on s) := by
  have set : ∀ f, KeepsTrack s (holdChanged (s.setSeq f)) := fun f =>
    have same : SameTrack s (s.setSeq f) := .of_eq rfl rfl rfl rfl
    KeepsTrack.trans (.of_same same) (holdChanged_keeps _)
  unfold setHold
  exact .ite (.ite (.refl s) (set _)) (.ite (.refl s) (set _))

theorem hold_keeps (signaller : Bool) (v : Nat) (s : State) : KeepsTrack s (hold signaller v s).2 := by
  unfold hold
  split
  · exact setHold_keeps _ _ s
  · exact setHold_keeps _ _ s
  · exact .refl s

/-! ### The signaller line -/

theorem sigExecute_keeps (kind : Byte) (payload : List Byte) (s : State) : KeepsTrack s (sigExecute kind payload s).2 := by
  have stays := KeepsTrack.refl s
  unfold sigExecute
  split
  · split; exacts [.of_only (statusDue_only s) (by decide), stays]
  · split
    · split; exacts [.of_only (acknowledge_only _ _ s) (by decide), stays]
    · split
      · split; exacts [restore_keeps _ _ s, stays]
      · split
        · split; exacts [hold_keeps _ _ s, stays]
        · split
          · split; exacts [.of_only (release_only s) (by decide), stays]
          · exact stays

theorem takeCommand_keeps (src : BitVec 6) (kind : Byte) (addr : Addressing) (payload : List Byte) (s : State) :
    KeepsTrack s (takeCommand src kind addr payload s) := by
  have logged := fun r t => KeepsTrack.of_only (sigLog_only src kind addr r payload t) (by decide)
  unfold takeCommand
  split
  · have done := (sigExecute_keeps kind payload s).trans (logged (some (sigExecute kind payload s).1) _)
    dsimp only
    split
    · exact done.trans (.of_only (fillConfirm_only _ _ _) (by decide))
    · exact done
  · exact logged _ s

theorem addressedFrame_keeps (h : LineHead) (kind : Byte) (addr : Addressing) (payload : List Byte) (s : State) :
    KeepsTrack s (addressedFrame h kind addr payload s) := by
  have counted := emit_keeps [.count cntLineGood] s
  unfold addressedFrame
  dsimp only
  split
  · exact counted.trans (.ite (.of_only (takeBeacon_only _) (by decide)) (.refl _))
  · exact counted.trans (.ite (takeCommand_keeps _ _ _ _ _) (.refl _))

theorem completeFrame_keeps (h : LineHead) (kind : Byte) (payload : List Byte) (s : State) :
    KeepsTrack s (completeFrame h kind payload s) := by
  have lowered : KeepsTrack s (s.setLine LineController.waitsToBase) := .of_only (setLine_only s _ rfl rfl) (by decide)
  unfold completeFrame
  split
  · exact .refl s
  · dsimp only
    split
    · exact lowered
    · exact lowered.trans (addressedFrame_keeps _ _ _ _ _)

theorem takeLine_keeps (rx : RxState) (asm : List Byte) (s : State) : KeepsTrack s (takeLine rx asm s) :=
  .of_only (takeLine_only rx asm s) (by decide)

theorem badFrame_keeps (rx : RxState) (q : Nat) (s : State) : KeepsTrack s (badFrame rx q s) :=
  .of_only (badFrame_only rx q s) (by decide)

theorem takeChar_keeps (s : State) (c : Byte) : KeepsTrack s (takeChar s c) := by
  unfold takeChar
  split
  · dsimp only
    split
    · exact takeLine_keeps _ _ s
    · exact (takeLine_keeps _ _ s).trans (badFrame_keeps _ _ _)
    · exact (takeLine_keeps _ _ s).trans (badFrame_keeps _ _ _)
    · exact ((takeLine_keeps _ _ s).trans (completeFrame_keeps _ _ _ _)).trans (react_keeps _)
  · exact .ite (.of_same (.of_eq rfl rfl rfl rfl)) (.refl s)

theorem takeChars_keeps (cs : List Byte) (s : State) : KeepsTrack s (takeChars cs s) := .foldl takeChar_keeps cs s

theorem receiveFrame_keeps (h : LineHead) (kind : Byte) (payload : List Byte) (s : State) :
    KeepsTrack s (receiveFrame h kind payload s) := by
  unfold receiveFrame
  refine .ite (.refl s) (.ite ?_ (.ite ?_ (.refl s)))
  · exact ((takeLine_keeps _ _ s).trans (completeFrame_keeps _ _ _ _)).trans (react_keeps _)
  · exact (takeChars_keeps _ s).trans (react_keeps _)

/-! ### Resets and the start of service -/

theorem coldStart_laws (s : State) : TrackLaws (coldStart s) := by
  refine ⟨fun i => ?_, fun k r holds => ?_⟩
  · simp [coldStart, State.reset, Sect.cold]
  · simp [coldStart, State.reset, Slot.cold] at holds

theorem startSlots_keeps (s : State) : KeepsTrack s (startSlots s) :=
  .of_trains (startSlots_only s) (by decide) fun _ k r holds => by simp [startSlots] at holds

theorem startSections_keeps (s : State) : KeepsTrack s (startSections s) := by
  refine applyEffects_keeps (es := startEffects s) (fun e he => ?_) (fun _ e he => ?_) none
  · simp only [startEffects, List.mem_map] at he
    obtain ⟨i, -, rfl⟩ := he
    rfl
  · simp only [startEffects, List.mem_map] at he
    obtain ⟨i, -, rfl⟩ := he
    exact Sect.counted_become _ (by decide)

theorem startService_keeps (old : Option LinkState) (s : State) : KeepsTrack s (startService old s) := by
  have hosts : KeepsTrack s (startHost s) := .of_only (setHost_only s _) (by decide)
  have reports := hosts.trans (.of_only (startReports_only _) (by decide))
  have line := reports.trans (.of_only (startLine_only old _) (by decide))
  have faults := line.trans (.of_only (startFaults_only _) (by decide))
  have lamps := faults.trans (.of_only (startLamps_only _) (by decide))
  have sequencer := lamps.trans (.of_only (startSequencer_only _) (by decide))
  have points := sequencer.trans (.of_only (startPoints_only _) (by decide))
  have sections := (points.trans (startSlots_keeps _)).trans (startSections_keeps _)
  exact sections.trans (.of_only (serviceFromBarriers_only _) (by decide))

/-- In CONFIG there is no record, so that the laws are ready for RUN (R61). -/
theorem commitBase_keeps (s : State) : KeepsTrack s (commitBase s) := fun laws =>
  ⟨laws.sections, fun k r holds =>
    have sound := laws.trains k r holds
    ⟨rfl, sound.coherent, sound.awaits⟩⟩

theorem warmStart_keeps (s : State) : KeepsTrack s (warmStart s) := by
  have armed : KeepsTrack s (s.setMemory fun m => { m with armed := true }) := (.of_same (.of_eq rfl rfl rfl rfl))
  have tested : ∀ t : State, KeepsTrack t (levelTest t) := fun t => by
    have disarmed : KeepsTrack t (t.setMemory fun m => { m with armed := false }) := .of_same (.of_eq rfl rfl rfl rfl)
    exact .when fun _ => disarmed.trans (.of_only (queueNotice_only _ _) (by decide))
  exact (armed.trans (startService_keeps _ _)).trans (tested _)

/-! ### Host requests -/

theorem answer_state (r : Result) (extra : List Byte) (s : State) : (answer r extra s).state = s := rfl

/-- A configuration request changes no live value of a section or a slot. -/
theorem configured_keeps {new : Option State} {s : State} (h : ∀ t, new = some t → SameTrack s t) :
    KeepsTrack s (configured new s).state := by
  unfold configured
  split
  · next t => exact .of_same (h t rfl)
  · exact .refl s

theorem setSect_same {s : State} {i : Fin 10} {f : Sect → Sect}
    (h : ∀ c, (f c).state = c.state ∧ (f c).count = c.count ∧ (f c).sweep = c.sweep) : SameTrack s (s.setSect i f) := by
  refine ⟨rfl, rfl, fun j => ?_, fun _ => rfl⟩
  simp only [State.setSect_sections, Fin.getElem_fin, upd_getElem]
  split
  · exact h _
  · exact ⟨rfl, rfl, rfl⟩

theorem setSlot_same {s : State} {k : Fin 4} {f : Slot → Slot} (h : ∀ x, (f x).record = x.record) :
    SameTrack s (s.setSlot k f) := by
  refine ⟨rfl, rfl, fun _ => ⟨rfl, rfl, rfl⟩, fun j => ?_⟩
  simp only [State.setSlot_slots, Fin.getElem_fin, upd_getElem]
  split
  · exact h _
  · rfl

theorem setPointConfig_same {payload : List Byte} {s t : State} (h : setPointConfig payload s = some t) :
    SameTrack s t := by
  unfold setPointConfig at h
  split at h
  · dsimp only at h
    split at h
    · split at h
      · cases h
        exact .of_eq rfl rfl rfl rfl
      · cases h
    · cases h
  · cases h

theorem setSectionConfig_same {payload : List Byte} {s t : State} (h : setSectionConfig payload s = some t) :
    SameTrack s t := by
  unfold setSectionConfig at h
  split at h
  · split at h
    · cases h
      exact setSect_same fun _ => ⟨rfl, rfl, rfl⟩
    · cases h
  · cases h

theorem setTrackConfig_same {payload : List Byte} {s t : State} (h : setTrackConfig payload s = some t) :
    SameTrack s t := by
  unfold setTrackConfig at h
  split at h
  · dsimp only at h
    split at h
    · split at h
      · cases h
        exact setSlot_same fun _ => rfl
      · cases h
    · cases h
  · cases h

theorem setTimingConfig_same {payload : List Byte} {s t : State} (h : setTimingConfig payload s = some t) :
    SameTrack s t := by
  unfold setTimingConfig at h
  split at h
  · dsimp only at h
    split at h
    · cases h
      exact .of_eq rfl rfl rfl rfl
    · cases h
  · cases h

theorem setFlashConfig_same {payload : List Byte} {s t : State} (h : setFlashConfig payload s = some t) :
    SameTrack s t := by
  unfold setFlashConfig at h
  split at h
  · dsimp only at h
    split at h
    · cases h
      exact .of_eq rfl rfl rfl rfl
    · cases h
  · cases h

theorem setLampConfig_same {payload : List Byte} {s t : State} (h : setLampConfig payload s = some t) :
    SameTrack s t := by
  unfold setLampConfig at h
  split at h
  · dsimp only at h
    split at h
    · split at h
      · cases h
        exact .of_eq rfl rfl rfl rfl
      · cases h
    · cases h
  · cases h

theorem setBarrierConfig_same {payload : List Byte} {s t : State} (h : setBarrierConfig payload s = some t) :
    SameTrack s t := by
  unfold setBarrierConfig at h
  split at h
  · split at h
    · cases h
      exact .of_eq rfl rfl rfl rfl
    · cases h
  · cases h

theorem setLinkConfig_same {payload : List Byte} {s t : State} (h : setLinkConfig payload s = some t) :
    SameTrack s t := by
  unfold setLinkConfig at h
  split at h
  · dsimp only at h
    split at h
    · split at h
      · cases h
        exact .of_eq rfl rfl rfl rfl
      · cases h
    · cases h
  · cases h

theorem setMemoryConfig_same {payload : List Byte} {s t : State} (h : setMemoryConfig payload s = some t) :
    SameTrack s t := by
  unfold setMemoryConfig at h
  split at h
  · split at h
    · cases h
      exact .of_eq rfl rfl rfl rfl
    · cases h
  · cases h

theorem hostLog_keeps (q : Request) (r : Result) (items : List Byte) (s : State) : KeepsTrack s (hostLog q r items s) :=
  emit_keeps _ s

theorem acted_state (q : Request) (items : List Byte) (x : Result × State) :
    (acted q items x).state = hostLog q x.1 items (react x.2) := rfl

theorem acted_keeps {q : Request} {items : List Byte} {x : Result × State} {s : State} (h : KeepsTrack s x.2) :
    KeepsTrack s (acted q items x).state := by
  rw [acted_state]
  exact (h.trans (react_keeps _)).trans (hostLog_keeps _ _ _ _)

theorem setHost_keeps (s : State) (f : HostPort → HostPort) : KeepsTrack s (s.setHost f) :=
  .of_only (setHost_only s f) (by decide)

theorem restartRequest_keeps (mode : Nat) (s : State) : KeepsTrack s (restartRequest mode s).state := by
  unfold restartRequest
  split
  · exact fun _ => coldStart_laws s
  · split
    · unfold restartWarmAccept
      exact (hostLog_keeps .restart .ok [byte 1] s).trans (setHost_keeps _ fun h => { h with warmPending := true })
    · exact .refl s
  · rw [answer_state]
    exact hostLog_keeps .restart .outOfRange [byte mode] s

theorem commitStart_keeps (s : State) : KeepsTrack s (commitStart s) := by
  rw [commitStart_eq]
  exact (commitBase_keeps s).trans (startService_keeps none _)

theorem commitRequest_keeps (s : State) : KeepsTrack s (commitRequest s).state := by
  unfold commitRequest
  split
  · exact .refl s
  · rw [answer_state]
    exact commitStart_keeps s

theorem lampTestRequest_keeps (s : State) : KeepsTrack s (lampTestRequest s).2 := by
  unfold lampTestRequest
  split
  · exact .refl s
  · split
    · exact .of_only (startTest_only s) (by decide)
    · exact .refl s

theorem hostRestoreRequest_keeps (n m : Nat) (s : State) : KeepsTrack s (hostRestoreRequest n m s).2 := by
  unfold hostRestoreRequest
  split
  · exact .refl s
  · exact restore_keeps n m s

theorem whileLinkDown_keeps {f : State → Result × State} {s t : State} (from_ : KeepsTrack t s)
    (h : KeepsTrack s (f s).2) : KeepsTrack t (whileLinkDown f s).2 := by
  unfold whileLinkDown
  split
  · exact from_
  · exact from_.trans h

theorem readFaultsRequest_state (first : Nat) (s : State) : (readFaultsRequest first s).state = s := by
  unfold readFaultsRequest
  split <;> rfl

theorem clearCounters_same (first count : Nat) (s : State) : SameTrack s (clearCounters first count s) := by
  unfold clearCounters
  exact .of_eq rfl rfl rfl rfl

theorem readCountersRequest_keeps (first count clear : Nat) (s : State) :
    KeepsTrack s (readCountersRequest first count clear s).state := by
  unfold readCountersRequest
  split
  · rw [answer_state]
    split
    · exact .of_same (clearCounters_same first count s)
    · exact .refl s
  · exact .refl s

theorem readLogRequest_keeps (n : Nat) (s : State) : KeepsTrack s (readLogRequest n s).state := by
  unfold readLogRequest
  split
  · rw [answer_state]
    exact .of_same (.of_eq rfl rfl rfl rfl)
  · exact .refl s

theorem readPassageRequest_keeps (n : Nat) (s : State) : KeepsTrack s (readPassageRequest n s).state := by
  unfold readPassageRequest
  split
  · rw [answer_state]
    exact .of_same (.of_eq rfl rfl rfl rfl)
  · exact .refl s

theorem ackTaken_keeps (payload : List Byte) (s : State) : KeepsTrack s (ackTaken payload s) :=
  .ite (.refl s) (.of_same (.of_eq rfl rfl rfl rfl))

theorem serve_keeps (q : Request) (payload : List Byte) (s : State) : KeepsTrack s (serve q payload s).state := by
  cases q with
  | identify | readTime | readState | readSections | readRecords => exact .refl s
  | configPoint => exact configured_keeps fun _ => setPointConfig_same
  | configSection => exact configured_keeps fun _ => setSectionConfig_same
  | configTrack => exact configured_keeps fun _ => setTrackConfig_same
  | configTiming => exact configured_keeps fun _ => setTimingConfig_same
  | configFlash => exact configured_keeps fun _ => setFlashConfig_same
  | configLamp => exact configured_keeps fun _ => setLampConfig_same
  | configBarrier => exact configured_keeps fun _ => setBarrierConfig_same
  | configLink => exact configured_keeps fun _ => setLinkConfig_same
  | configMemory => exact configured_keeps fun _ => setMemoryConfig_same
  | commit => exact commitRequest_keeps s
  | restart => exact restartRequest_keeps _ s
  | readFaults => exact .of_same (by rw [serve, readFaultsRequest_state]; exact .of_eq rfl rfl rfl rfl)
  | readCounters => exact readCountersRequest_keeps _ _ _ s
  | readLog => exact readLogRequest_keeps _ s
  | readPassage => exact readPassageRequest_keeps _ s
  | localHold => exact acted_keeps (hold_keeps _ _ s)
  | lampTest => exact acted_keeps (lampTestRequest_keeps s)
  | restore => exact acted_keeps (hostRestoreRequest_keeps _ _ s)
  | faultAck =>
    exact acted_keeps (whileLinkDown_keeps (ackTaken_keeps payload s) (.of_only (acknowledge_only _ _ _) (by decide)))
  | release => exact acted_keeps (whileLinkDown_keeps (.refl s) (.of_only (release_only s) (by decide)))

theorem testRequest_keeps (kind : Byte) (payload : List Byte) (s : State) :
    KeepsTrack s (testRequest kind payload s).state := by
  unfold testRequest
  split
  · exact .refl s
  · split
    · exact .refl s
    · split
      · exact .refl s
      · exact serve_keeps _ _ s

theorem placeReply_keeps {x : Served} {s : State} (h : KeepsTrack s x.state) (kind tag : Byte) :
    KeepsTrack s (placeReply kind tag x) := by
  unfold placeReply
  split
  · exact h
  · exact h.trans (setHost_keeps _ _)

theorem hostBad_keeps (s : State) : KeepsTrack s (hostBad s) := emit_keeps _ s

theorem takeRequest_keeps (kind tag : Byte) (payload : List Byte) (s : State) :
    KeepsTrack s (takeRequest kind tag payload s) := by
  unfold takeRequest
  exact .ite (.ite (hostBad_keeps s) (setHost_keeps s _))
    (.ite (setHost_keeps s _) (placeReply_keeps (testRequest_keeps kind payload s) kind tag))

theorem takeFrame_keeps (kind tag : Byte) (payload : List Byte) (s : State) :
    KeepsTrack s (takeFrame kind tag payload s) :=
  .ite ((setHost_keeps s _).trans (takeRequest_keeps _ _ _ _)) (.refl s)

theorem receiveBytes_keeps (bytes : List Byte) (s : State) : KeepsTrack s (receiveBytes bytes s) := by
  have event : ∀ (t : State) (e : HostEvent), KeepsTrack t (hostEvent t e) := fun t e => by
    cases e
    · exact hostBad_keeps t
    · exact takeRequest_keeps _ _ _ t
  unfold receiveBytes
  exact (KeepsTrack.foldl event _ s).trans (setHost_keeps _ _)

theorem dropAssembly_keeps (s : State) : KeepsTrack s (dropAssembly s) :=
  .ite (.refl s) ((setHost_keeps s _).trans (hostBad_keeps _))

theorem startTx_keeps (s : State) : KeepsTrack s (startTx s) := by
  have tested : ∀ t : State, KeepsTrack t (resyncTest t) := fun t => .when fun _ => setHost_keeps t _
  have sends := fun f kind tag p w => (setHost_keeps s f).trans (setHost_keeps (s.setHost f)
    fun h => { h with tx := some ⟨hostFrame kind tag p, w, 0⟩ })
  unfold startTx
  split
  · exact sends _ _ _ _ _
  · split
    · exact sends _ _ _ _ _
    · split
      · exact (sends _ _ _ _ _).trans (tested _)
      · exact .refl s

theorem endTx_keeps (s : State) : KeepsTrack s (endTx s) := by
  unfold endTx
  split
  · exact .refl s
  · exact (setHost_keeps s _).trans (.when fun _ => warmStart_keeps _)

/-! ### Inputs sampled -/

theorem current_keeps {c : Fin 10} {mA : Nat} {bs : List Block} {due : Prop} [Decidable due] {s t : State}
    (h : Only bs (setCurrent c mA s) t) (off : ∀ b ∈ trackBlocks, b ∉ bs) :
    KeepsTrack s (if due then react t else setCurrent c mA s) := by
  have set : KeepsTrack s (setCurrent c mA s) := .of_only (setPins_only s _) (by decide)
  exact set.trans (.when fun _ => (KeepsTrack.of_only h off).trans (react_keeps t))

theorem acceptSupply_keeps (input : SupplyInput) (ok : Bool) (s : State) : KeepsTrack s (acceptSupply input ok s) := by
  have set : ∀ f, KeepsTrack s (s.setSupply f) := fun f => .of_only (setSupply_only s f) (by decide)
  unfold acceptSupply
  dsimp only
  split
  · exact set _
  · split
    · exact (set _).trans (.of_only (endCondition_only _ _ _) (by decide))
    · exact (set _).trans (.of_same (raise_same _ _ _ _))

theorem supplyChange_keeps (input : SupplyInput) (ok : Bool) (s : State) :
    KeepsTrack s (if (setSupplyPin input ok s).part = .run then react (acceptSupply input ok (setSupplyPin input ok s))
      else setSupplyPin input ok s) := by
  have set : KeepsTrack s (setSupplyPin input ok s) := .of_only (setPins_only s _) (by decide)
  exact set.trans (.when fun _ => (acceptSupply_keeps input ok _).trans (react_keeps _))

/-! ### Every command -/

theorem setSeq_same (s : State) (f : Sequencer → Sequencer) : SameTrack s (s.setSeq f) := .of_eq rfl rfl rfl rfl

theorem setLine_same (s : State) (f : LineController → LineController) : SameTrack s (s.setLine f) :=
  .of_eq rfl rfl rfl rfl

theorem KeepsTrack.of_next {s t u : State} {o : Out} (h : o = .next t) (next : o = .next u) (k : KeepsTrack s u) :
    KeepsTrack s t := by
  cases next.symm.trans h
  exact k

/-- A command changes nothing unless it is due, and then only what the laws do not read. -/
theorem KeepsTrack.due {bs : List Block} {s t : State} {c : Prop} [Decidable c] (h : Only bs s t)
    (off : ∀ b ∈ trackBlocks, b ∉ bs) : KeepsTrack s (if c then t else s) := .when fun _ => .of_only h off

/-- The same, with what follows of it in the Sequencer and on the line. -/
theorem KeepsTrack.due_react {bs : List Block} {s t : State} {c : Prop} [Decidable c] (h : Only bs s t)
    (off : ∀ b ∈ trackBlocks, b ∉ bs) : KeepsTrack s (if c then react t else s) :=
  .when fun _ => (KeepsTrack.of_only h off).trans (react_keeps t)

theorem exec_keeps (c : Instr) {s t : State} (h : exec c s = .next t) : KeepsTrack s t := by
  cases c with
  | coldReset l r => exact .of_next h rfl fun _ => coldStart_laws _
  | hostReady r => exact .of_next h rfl (.of_only (setPins_only s _) (by decide))
  | hostFrameDiscarded bytes e =>
    exact .of_next h rfl (.ite ((receiveBytes_keeps bytes s).trans (dropAssembly_keeps _)) (receiveBytes_keeps bytes s))
  | hostGap bytes => exact .of_next h rfl ((receiveBytes_keeps bytes s).trans (dropAssembly_keeps _))
  | hostOverrun kind tag payload => exact .of_next h rfl (.when fun _ => takeFrame_keeps kind tag payload s)
  | hostUnknownKind kind tag payload => exact .of_next h rfl (takeFrame_keeps kind tag payload s)
  | identify tag payload | readTime tag payload | configPoint tag payload | configSection tag payload
  | configTrack tag payload | configTiming tag payload | configFlash tag payload | configLamp tag payload
  | configBarrier tag payload | configLink tag payload | configMemory tag payload | commit tag payload
  | restartCold tag payload | restartWarm tag payload | readState tag payload | readSections tag payload
  | readRecords tag payload | readFaults tag payload | readCounters tag payload | readLog tag payload
  | readPassage tag payload | localHold tag payload | lampTest tag payload | hostRestore tag payload
  | faultAck tag payload | hostRelease tag payload => exact .of_next h rfl (takeFrame_keeps _ tag payload s)
  | hostTxStart => exact .of_next h rfl (.when fun _ => startTx_keeps s)
  | hostTxDone => exact .of_next h rfl (.when fun _ => endTx_keeps s)
  | headChange p a b => exact .of_next h rfl (headChange_keeps p a b s)
  | stuckTimeout p =>
    exact .of_next h rfl (.when fun due => (pointTick_keeps (stuckDue_run due) p _ _ _).trans (react_keeps _))
  | quietPeriodEnd p => exact .of_next h rfl (.due_react (endQuiet_only p s) (by decide))
  | quietMark p => exact .of_next h rfl (.when fun _ => .of_same (setPoint_same_track s p _))
  | startTimerExpiry k =>
    exact .of_next h rfl (.when fun _ => KeepsTrack.trans
      (.of_commits (commitRecord_only k _ _ _ s) (by decide) (commitRecord_commits k _ _ _ s)) (react_keeps _))
  | longWarningMark k =>
    exact .of_next h rfl (.when fun _ => .of_trains (setSlot_only s k _ fun _ => rfl) (by decide)
      fun sound => setMarks_sound sound k _ fun r => ⟨_, _, rfl⟩)
  | openMark => exact .of_next h rfl (.when fun _ => .of_same (setSeq_same s _))
  | tAmberExpiry =>
    exact .of_next h rfl (.due_react ((seqMove_only .redWait .timer s).seq (lampCommand_only .redStart _)
      (cs := .seq :: .lamps :: recordBlocks) (by decide) (by decide)) (by decide))
  | tPrelowerExpiry => exact .of_next h rfl (.when fun _ => (enterLowerEntry_keeps s).trans (react_keeps _))
  | exitDelayMark => exact .of_next h rfl (.when fun _ => (testLowerEntry_keeps s).trans (react_keeps _))
  | longClosureTimer =>
    exact .of_next h rfl (.when fun _ => KeepsTrack.trans (.of_same (setSeq_same s _))
      (KeepsTrack.trans (.of_same (raise_same .longClosure 0 0 _)) (react_keeps _)))
  | longBinMark => exact .of_next h rfl (.when fun _ => .of_same (setSeq_same s _))
  | flashPartEnd => exact .of_next h rfl (.due (nextFlashPart_only s) (by decide))
  | litProof c mA => exact .of_next h rfl (current_keeps (litSample_only c _ _) (by decide))
  | darkSample c mA => exact .of_next h rfl (current_keeps (darkSampleTaken_only c _ _) (by decide))
  | startUpFlashHalf => exact .of_next h rfl (.due (nextStartUpHalf_only s) (by decide))
  | lampTestSample mA => exact .of_next h rfl (.due (testSample_only _ s) (by decide))
  | lampTestChannelEnd => exact .of_next h rfl (.due (testChannelEnd_only s) (by decide))
  | barrierContactChange b up down => exact .of_next h rfl (contactChange_keeps b up down s)
  | barrierLimit b => exact .of_next h rfl (.when fun _ => (takeLimit_keeps b s).trans (react_keeps _))
  | barrierDropped b => exact .of_next h rfl (.when fun _ => (barrierFault_keeps b _ s).trans (react_keeps _))
  | barrierSettled b => exact .of_next h rfl (.when fun _ => (settleBarrier_keeps b s).trans (react_keeps _))
  | barrierLostDown b =>
    exact .of_next h rfl (.when fun _ => KeepsTrack.trans (.of_same (setBarrier_same s b _))
      (KeepsTrack.trans (.of_same (raise_same .barrierDisturbed b.val 0 _)) (react_keeps _)))
  | supplyInputChange input ok => exact .of_next h rfl (supplyChange_keeps input ok s)
  | beacon hd payload | poll hd payload | sigAck hd payload | sigRestore hd payload | sigHold hd payload
  | sigRelease hd payload => exact .of_next h rfl (receiveFrame_keeps hd _ payload s)
  | sigCmdUnknownKind hd kind payload | sigCmdRefusedSource hd kind payload | foreignFrame hd kind payload
  | ownAddressFrame hd kind payload | addressedFrameLinkNotActive hd kind payload =>
    exact .of_next h rfl (receiveFrame_keeps hd kind payload s)
  | beaconTimeout => exact .of_next h rfl (.due_react (loseLink_only s) (by decide))
  | lineFrameBad chars e =>
    exact .of_next h rfl (KeepsTrack.trans (.ite ((takeChars_keeps chars s).trans (.of_only (framingError_only _) (by decide)))
      (takeChars_keeps chars s)) (react_keeps _))
  | lineGapAbort chars =>
    exact .of_next h rfl (((takeChars_keeps chars s).trans (.of_only (gapAbort_only _) (by decide))).trans (react_keeps _))
  | skipEnd =>
    exact .of_next h rfl (.when fun _ => KeepsTrack.trans (.of_same (setLine_same s _))
      (.of_only (lineSettle_only _) (by decide)))
  | accessWaitQuiet => exact .of_next h rfl (.due (startFrame_only s) (by decide))
  | lineFrameSent => exact .of_next h rfl (.due (frameSent_only s) (by decide))
  | arbitrationLost => exact .of_next h rfl (.due (loseArbitration_only s) (by decide))
  | collision => exact .of_next h rfl (.due (collide_only s) (by decide))
  | healthTimerExpiry =>
    exact .of_next h rfl (.due ((setReports_only s _).seq (lineSettle_only _) (cs := [.reports, .line]) (by decide)
      (by decide)) (by decide))
  | repeatInterval i =>
    exact .of_next h rfl (.due ((setFaults_only s _).seq (lineSettle_only _) (cs := [.faults, .line]) (by decide)
      (by decide)) (by decide))
  | agedMark i => exact .of_next h rfl (.due (setFaults_only s _) (by decide))

/-! ### The passage of time -/

theorem mem_allSlots (k : Fin 4) : k ∈ allSlots := by revert k; decide

theorem startTimerDue_eq {s : State} {k : Fin 4} {r : TrainRecord} (holds : s.slots[k].record = some r) :
    s.startTimerDue k = (s.part == .run && (!r.committed && reached s.now r.startTimer)) := by
  unfold State.startTimerDue
  rw [holds]

/-- With nothing due, no uncommitted record's warning start has been reached: its start timer would be due (R52). -/
theorem notReached_of_notDue {s : State} (sound : TrainsSound s) (idle : dueCommands s = []) {k : Fin 4} {r : TrainRecord}
    {w : Time} (holds : s.slots[k].record = some r) (pending : r.committed = false) (start : r.warningS = some w) :
    atOrBefore w s.now = false := by
  have slotIdle : s.slotDue k = [] := by
    simp only [dueCommands, List.append_eq_nil_iff, List.flatMap_eq_nil_iff] at idle
    obtain ⟨⟨⟨⟨⟨⟨⟨⟨⟨-, slots⟩, -⟩, -⟩, -⟩, -⟩, -⟩, -⟩, -⟩, -⟩ := idle
    exact slots k (mem_allSlots k)
  have notDue : s.startTimerDue k = false := by
    cases due : s.startTimerDue k
    · rfl
    · simp [State.slotDue, ifDue, due] at slotIdle
  obtain ⟨run, -, awaits⟩ := sound k r holds
  have timer : r.startTimer = some w := ((awaits pending).1.timer).trans start
  rw [startTimerDue_eq holds, run, pending, timer] at notDue
  exact notDue

/-- A time that lies ahead of the clock is at most reached as the clock goes on by one millisecond. -/
theorem ahead_tick {w now : Time} (h : atOrBefore w now = false) : w = now + 1 ∨ atOrBefore w (now + 1) = false := by
  by_cases e : w = now + 1
  · exact .inl e
  · have apart : w.toNat ≠ (now + 1).toNat := fun same => e (BitVec.eq_of_toNat_eq same)
    have one : (now + 1).toNat = (now.toNat + 1) % 4294967296 := by simp [BitVec.toNat_add]
    have low := w.isLt
    have high := now.isLt
    have late : ¬ elapsed now w < 2147483648 := of_decide_eq_false h
    refine .inr (decide_eq_false ?_)
    simp only [elapsed, BitVec.toNat_sub, one] at late apart ⊢
    omega

theorem tick_laws {s : State} (idle : dueCommands s = []) : KeepsTrack s (tick s) := fun laws => by
  have frame := tick_only s
  obtain ⟨⟨now, -⟩, -⟩ := tick_base s
  have clock : (tick s).now = s.now ∨ (tick s).now = s.now + 1 := by
    rw [now]
    change (clockTick s).now = s.now ∨ (clockTick s).now = s.now + 1
    by_cases within : s.phase + 1 < 20
    · exact .inl (clockTick_within within).1
    · exact .inr (clockTick_wraps (by omega)).1
  refine ⟨fun i => ?_, fun k r holds => ?_⟩
  · rw [frame.sections_eq (by decide)]
    exact laws.sections i
  · rw [frame.slots_eq (by decide)] at holds
    obtain ⟨run, coherent, awaits⟩ := laws.trains k r holds
    refine ⟨(frame.part_eq (by decide)).trans run, coherent, fun pending => ⟨(awaits pending).1, fun w start => ?_⟩⟩
    have ahead := notReached_of_notDue laws.trains idle holds pending start
    rcases clock with same | next
    · rw [same]; exact .inr ahead
    · rw [next]; exact ahead_tick ahead

theorem step_keeps {s t : State} (h : step s = .next t) : KeepsTrack s t := by
  unfold step at h
  split at h
  · next c rest _ =>
    have queue : SameTrack s { s with pending := rest } := .of_eq rfl rfl rfl rfl
    exact KeepsTrack.trans (.of_same queue) (exec_keeps c h)
  · unfold idleStep at h
    split at h
    · next idle => exact .of_next h rfl (tick_laws idle)
    · exact exec_keeps _ h
    · exact KeepsTrack.trans (.of_same (tookFree_same s)) (exec_keeps _ h)

/-- Settles O59: each command keeps both laws, and so does a head tick, for with an S reached the start timer would be due and
the clock would stand. -/
theorem sectionsAndTrainsKeepTheirLaws : Obligations.SectionsAndTrainsKeepTheirLaws := by
  unfold Obligations.SectionsAndTrainsKeepTheirLaws
  refine ⟨fun s t laws h => ?_, fun s laws idle k r w => ?_⟩
  · exact (trackLaws_iff t).1 (step_keeps h ((trackLaws_iff s).2 laws))
  · exact notReached_of_notDue ((trainsSound_iff s).2 laws) idle

end Sys2Proof.Machine
end

section
/-! PROOFS. CONFIG_SECTION (R20), and the replies to IDENTIFY, READ_TIME, READ_SECTIONS and READ_RECORDS (R37, R62, R197). -/

namespace Sys2Proof.Machine

/-! ### CONFIG_SECTION (R20) -/

theorem setSect_config_only (s : State) (i : Fin 10) (f : Sect → Sect) :
    Only [.sections, .config] s (s.setSect i f) := by
  intro b hb; cases b <;> simp_all [Same]

theorem fieldSectionRole_byte {r : Nat} (h : r < 256) :
    fieldSectionRole (byte r) = if r ≤ 1 then some (if r = 0 then .approach else .island) else none := by
  have e : (byte r).toNat = r := by rw [byte_toNat]; omega
  unfold fieldSectionRole fieldFlag
  rw [e]
  match r with
  | 0 => rfl
  | 1 => rfl
  | n + 2 => rw [if_neg (by omega)]; rfl

/-- CONFIG_SECTION's payload as its fields spell it. -/
theorem setSectionConfig_bytes {i t a b r : Nat} (s : State) (hi : i < 256) (ht : t < 256) (ha : a < 256) (hb : b < 256)
    (hr : r < 256) :
    setSectionConfig [byte i, byte t, byte a, byte b, byte r] s =
      if h : i < 10 ∧ t ≤ 2 ∧ a < 12 ∧ b < 12 ∧ r ≤ 1 then
        some (s.setSect ⟨i, h.1⟩ fun x => { x with
          track := trackOfCode t, aEnd := ⟨a, h.2.2.1⟩, bEnd := ⟨b, h.2.2.2.1⟩
          role := if r = 0 then .approach else .island })
      else none := by
  unfold setSectionConfig
  dsimp only
  rw [fieldIndex_byte hi, fieldTrackOrNone_byte ht, fieldIndex_byte ha, fieldIndex_byte hb, fieldSectionRole_byte hr]
  by_cases h : i < 10 ∧ t ≤ 2 ∧ a < 12 ∧ b < 12 ∧ r ≤ 1
  · obtain ⟨h1, h2, h3, h4, h5⟩ := h
    simp only [h1, h2, h3, h4, h5, dite_true, if_true, and_self]
  · rw [dif_neg h]
    split
    · next i' t' a' b' r' ei et ea eb er =>
      refine absurd ⟨?_, ?_, ?_, ?_, ?_⟩ h
      all_goals by_contra no; simp [no] at ei et ea eb er
    · rfl

/-- Settles O9: the five fields are read back and set together; nothing live of the entry is written. -/
theorem configSectionSetsTheSection : Obligations.ConfigSectionSetsTheSection := by
  unfold Obligations.ConfigSectionSetsTheSection
  intro i t a b r tag s hi ht ha hb hr config free
  have allowed : Request.configSection.allowedIn s.part = true := by rw [config]; rfl
  have bytes := setSectionConfig_bytes s.frameIn hi ht ha hb hr
  dsimp only
  split
  · next ok =>
    rw [dif_pos ok] at bytes
    refine ⟨_, accepts_of_serve (q := .configSection) rfl free (by simp) rfl allowed
      (congrArg (configured · s.frameIn) bytes) (setSect_config_only _ _ _) (by decide), fun j => ?_⟩
    simp only [State.replied, State.frameIn, State.setHost_sections, State.setSect_sections, Fin.getElem_fin, upd_getElem]
    by_cases e : i = j.val
    · simp only [e, if_true, and_self]
    · simp only [e, Ne.symm e, if_false]
  · next bad =>
    rw [dif_neg bad] at bytes
    exact refuses_of_serve (q := .configSection) rfl free (by simp) rfl allowed
      (congrArg (configured · s.frameIn) bytes)

/-! ### IDENTIFY and READ_TIME (R197) -/

theorem identifyReply_eq (s : State) :
    s.identifyReply = [0x04, 0x18, 0x41, byte (s.lrate.toNat + 4 * s.hrate.toNat), byte s.part.code] := rfl

theorem timeReply_eq (s : State) :
    s.timeReply = [byte (s.now.toNat / 16777216), byte (s.now.toNat / 65536), byte (s.now.toNat / 256), byte s.now.toNat,
      byte s.part.code] := rfl

/-- A request that only reads is answered from the state as it stands. -/
theorem accepts_read {c : Instr} {q : Request} {tag : Byte} {extra : List Byte} {s : State}
    (row : exec c s = .next (takeFrame q.code tag [] s)) (free : HostFree s) (length : q.lengthOk [] = true)
    (allowed : q.allowedIn s.part = true) (served : serve q [] s.frameIn = answer .ok extra s.frameIn) :
    ∃ t, Accepts c q.code tag extra [] s t :=
  ⟨_, accepts_of_serve row free (by decide) length allowed served (Only.refl _ _) (by decide)⟩

/-! ### READ_SECTIONS (R37) -/

theorem Sect.bytes_eq (c : Sect) :
    c.bytes =
      match c.track with
      | none => [0, 0, 0, 0, 0xFF, 0, 0, 0]
      | some t =>
        [byte t.code, byte c.aEnd.val, byte c.bEnd.val, byte c.role.code, codeOrFF (c.state.map SectionState.code),
          byte (c.count / 256), byte c.count, byte (flag c.sweep)] := by
  unfold Sect.bytes Sect.inUse trackCode
  cases c.track <;> rfl

theorem Sect.bytes_length (c : Sect) : c.bytes.length = 8 := by
  rw [Sect.bytes_eq]
  split <;> rfl

theorem allSections_getElem (i : Fin 10) : allSections[i.val]'i.isLt = i := by revert i; decide

theorem section_standsAt (s : State) (i : Fin 10) : StandsAt (8 * i.val) s.sections[i].bytes s.sectionsReply := by
  have row := standsAt_row (fun j : Fin 10 => Sect.bytes_length s.sections[j]) allSections i.val i.isLt
  rw [allSections_getElem] at row
  exact row

/-! ### READ_RECORDS (R62) -/

/-- Bit 16 of a speed, as byte 0 of a prediction entry carries it. -/
theorem flag_bit16 (v : Nat) : flag (decide (65536 ≤ v % 131072)) = v / 65536 % 2 := by
  unfold flag
  split
  · next h => have := of_decide_eq_true h; omega
  · next h => have := of_decide_eq_false (Bool.eq_false_iff.2 h); omega

theorem Prediction.bytes_eq (e : Prediction) : e.bytes = entryOf e := by
  unfold Prediction.bytes entryOf
  rw [flag_bit16]

theorem entryOf_length (e : Prediction) : (entryOf e).length = 8 := rfl

theorem packBits_seven (a b c d e f g : Bool) :
    packBits [a, b, c, d, e, f, g] =
      flag a + 2 * flag b + 4 * flag c + 8 * flag d + 16 * flag e + 32 * flag f + 64 * flag g := by
  simp only [packBits]
  omega

theorem TrainRecord.bytes_eq (r : TrainRecord) : r.bytes = blockOf r := by
  have entries : r.predictions.map Prediction.bytes = r.predictions.map entryOf :=
    List.map_congr_left fun e _ => e.bytes_eq
  unfold TrainRecord.bytes blockOf
  rw [packBits_seven, entries]
  cases r.phase <;> rfl

theorem Slot.bytes_eq (x : Slot) : x.bytes = match x.record with | none => [0] | some r => blockOf r := by
  unfold Slot.bytes
  cases x.record with
  | none => rfl
  | some r => exact r.bytes_eq

theorem recordsReply_eq (s : State) :
    s.recordsReply =
      (allSlots.map fun k => match s.slots[k].record with | none => [0] | some r => blockOf r).flatten :=
  congrArg List.flatten (List.map_congr_left fun k _ => s.slots[k].bytes_eq)

theorem blockOf_length (r : TrainRecord) : (blockOf r).length = 25 + 8 * r.predictions.length := by
  unfold blockOf
  rw [List.length_append, rows_length entryOf_length]
  rfl

/-- Settles O20: each reply is the model's, its bytes those of chapter 12. -/
theorem identifyTimeSectionsAndRecordsReply : Obligations.IdentifyTimeSectionsAndRecordsReply := by
  unfold Obligations.IdentifyTimeSectionsAndRecordsReply
  refine ⟨fun tag s free => ⟨?_, ?_⟩, fun tag s run free => ⟨?_, ?_, blockOf_length⟩⟩
  · rw [← identifyReply_eq]
    exact accepts_read (q := .identify) rfl free rfl rfl rfl
  · rw [← timeReply_eq]
    exact accepts_read (q := .readTime) rfl free rfl rfl rfl
  · obtain ⟨t, accepts⟩ := accepts_read (c := .readSections tag []) (q := .readSections) (tag := tag)
      (extra := s.sectionsReply) rfl free rfl (by rw [run]; rfl) rfl
    refine ⟨t, s.sectionsReply, accepts, rows_length (fun j : Fin 10 => Sect.bytes_length s.sections[j]) allSections,
      fun i => ?_⟩
    exact ((section_standsAt s i).slice (Sect.bytes_length _)).trans (Sect.bytes_eq _)
  · obtain ⟨t, accepts⟩ := accepts_read (c := .readRecords tag []) (q := .readRecords) (tag := tag)
      (extra := s.recordsReply) rfl free rfl (by rw [run]; rfl) rfl
    rw [recordsReply_eq] at accepts
    exact ⟨t, accepts⟩

end Sys2Proof.Machine
end

section
/-! PROOFS. The Section Counter's table (R25 to R27), the sections at a point and of a span (R23, R38), and how train records end
(R59, R60, R184). -/

namespace Sys2Proof.Machine

/-! ### What an event makes of a section (R25 to R27) -/

theorem Sect.enter_clear {c : Sect} (h : c.state = some .clear) :
    c.enter = ⟨{ c with state := some .occupied, count := 1, sweep := false }, some .entry⟩ := by
  unfold Sect.enter; rw [h]; rfl

theorem Sect.enter_prepared {c : Sect} (h : c.state = some .prepared) :
    c.enter = ⟨{ c with state := some .occupied, count := 1, sweep := true }, some .entry⟩ := by
  unfold Sect.enter; rw [h]; rfl

theorem Sect.enter_occupied {c : Sect} (h : c.state = some .occupied) (room : c.count < 1023) :
    c.enter = ⟨{ c with count := c.count + 1 }, none⟩ := by
  unfold Sect.enter; rw [h]
  exact if_neg (Nat.not_le.2 room)

theorem Sect.enter_full {c : Sect} (h : c.state = some .occupied) (full : 1023 ≤ c.count) :
    c.enter = ⟨{ c with state := some .disturbed, count := 0, sweep := false }, some .overflow⟩ := by
  unfold Sect.enter; rw [h]
  exact if_pos full

theorem Sect.leave_occupied {c : Sect} (h : c.state = some .occupied) (more : 1 < c.count) :
    c.leave = ⟨{ c with count := c.count - 1 }, none⟩ := by
  unfold Sect.leave; rw [h]
  exact if_neg (Nat.not_le.2 more)

theorem Sect.leave_last {c : Sect} (h : c.state = some .occupied) (last : c.count = 1) :
    c.leave = ⟨{ c with state := some .clear, count := 0, sweep := false },
      some (if c.sweep then .sweepDone else .exit)⟩ := by
  unfold Sect.leave; rw [h]
  exact if_pos (Nat.le_of_eq last)

theorem Sect.leave_empty {c : Sect} (h : c.state = some .clear ∨ c.state = some .prepared) :
    c.leave = ⟨{ c with state := some .disturbed, count := 0, sweep := false }, some .underflow⟩ := by
  unfold Sect.leave
  rcases h with clear | prepared
  · rw [clear]; rfl
  · rw [prepared]; rfl

theorem Sect.unmoved_disturbed {c : Sect} (h : c.state = some .disturbed) :
    c.enter = ⟨c, none⟩ ∧ c.leave = ⟨c, none⟩ ∧ c.skewed = ⟨c, none⟩ := by
  unfold Sect.enter Sect.leave Sect.skewed
  rw [h]
  exact ⟨rfl, rfl, rfl⟩

theorem Sect.skewed_live {c : Sect} (h : c.state = some .clear ∨ c.state = some .prepared ∨ c.state = some .occupied) :
    c.skewed = ⟨{ c with state := some .disturbed, count := 0, sweep := false }, some .skew⟩ := by
  unfold Sect.skewed
  rcases h with clear | prepared | occupied
  · rw [clear]; rfl
  · rw [prepared]; rfl
  · rw [occupied]; rfl

/-! ### The first of a sorted list -/

/-- In a list sorted by a key, the first that passes a test is the one of the lowest key. -/
theorem find?_sorted {α : Type} {l : List α} {key : α → Nat} (sorted : l.Pairwise fun x y => key x < key y)
    (p : α → Bool) {x : α} (mem : x ∈ l) :
    l.find? p = some x ↔ p x = true ∧ ∀ y ∈ l, key y < key x → p y = false := by
  induction l with
  | nil => exact absurd mem List.not_mem_nil
  | cons a l ih =>
    obtain ⟨below, sorted⟩ := List.pairwise_cons.1 sorted
    cases pa : p a with
    | false =>
      rw [List.find?_cons_of_neg (by simp [pa])]
      rcases List.mem_cons.1 mem with rfl | later
      · refine ⟨fun found => ?_, fun h => absurd (pa.symm.trans h.1) (by decide)⟩
        exact absurd (pa.symm.trans (List.find?_some found)) (by decide)
      · rw [ih sorted later]
        simp [pa]
    | true =>
      rw [List.find?_cons_of_pos pa]
      rcases List.mem_cons.1 mem with rfl | later
      · refine ⟨fun _ => ⟨pa, fun y hy lt => ?_⟩, fun _ => rfl⟩
        rcases List.mem_cons.1 hy with rfl | late
        · exact absurd lt (Nat.lt_irrefl _)
        · exact absurd lt (Nat.lt_asymm (below y late))
      · have lt := below x later
        refine ⟨fun e => ?_, fun h => absurd (pa.symm.trans (h.2 a List.mem_cons_self lt)) (by decide)⟩
        cases e
        exact absurd lt (Nat.lt_irrefl _)

theorem allSections_sorted : allSections.Pairwise fun i j => i.val < j.val := by decide

theorem find?_allSections (p : Fin 10 → Bool) (i : Fin 10) :
    allSections.find? p = some i ↔ p i = true ∧ ∀ j : Fin 10, j < i → p j = false := by
  rw [find?_sorted allSections_sorted p (mem_allSections i)]
  exact and_congr_right fun _ => ⟨fun h j => h j (mem_allSections j), fun h j _ => h j⟩

/-! ### The sections at a point (R23) -/

theorem inUse_iff (c : Sect) : c.inUse = true ↔ c.track ≠ none := by
  unfold Sect.inUse
  exact Option.isSome_iff_ne_none

theorem sectionEndingAt_iff (s : State) (p : Fin 12) (i : Fin 10) :
    s.sectionEndingAt p = some i ↔ s.sections[i].track ≠ none ∧ s.sections[i].bEnd = p ∧
      ∀ j : Fin 10, j < i → ¬(s.sections[j].track ≠ none ∧ s.sections[j].bEnd = p) := by
  unfold State.sectionEndingAt
  rw [find?_allSections]
  simp only [← Bool.not_eq_true, Bool.and_eq_true, inUse_iff, beq_iff_eq, and_assoc]

theorem sectionStartingAt_iff (s : State) (p : Fin 12) (i : Fin 10) :
    s.sectionStartingAt p = some i ↔ s.sections[i].track ≠ none ∧ s.sections[i].aEnd = p ∧
      ∀ j : Fin 10, j < i → ¬(s.sections[j].track ≠ none ∧ s.sections[j].aEnd = p) := by
  unfold State.sectionStartingAt
  rw [find?_allSections]
  simp only [← Bool.not_eq_true, Bool.and_eq_true, inUse_iff, beq_iff_eq, and_assoc]

/-! ### The sections of a span (R38) -/

theorem slotTrack_eq (k : Fin 4) : slotTrack k = trackOfSlot k := by revert k; decide

theorem slotDir_eq (k : Fin 4) : slotDir k = if FromA k then .aToB else .bToA := by revert k; decide

theorem island_eq_some_iff (s : State) (t : Track) (j : Fin 10) :
    s.island t = some j ↔ (s.sections[j].track = some t ∧ s.sections[j].role = .island) ∧
      ∀ m : Fin 10, m < j → ¬(s.sections[m].track = some t ∧ s.sections[m].role = .island) := by
  unfold State.island
  rw [find?_allSections]
  simp only [← Bool.not_eq_true, Bool.and_eq_true, beq_iff_eq]

theorem inSpan_iff {s : State} {k : Fin 4} {j : Fin 10} (island : s.island (slotTrack k) = some j) (i : Fin 10) :
    s.inSpan k i = true ↔ s.sections[i].track = some (trackOfSlot k) ∧
      if FromA k then s.points[s.sections[i].bEnd].position ≤ s.points[s.sections[j].bEnd].position
      else s.points[s.sections[j].aEnd].position ≤ s.points[s.sections[i].aEnd].position := by
  unfold State.inSpan
  rw [island, slotTrack_eq, slotDir_eq]
  by_cases dir : FromA k
  · rw [if_pos dir, if_pos dir]
    simp only [Bool.and_eq_true, beq_iff_eq, decide_eq_true_eq]
  · rw [if_neg dir, if_neg dir]
    simp only [Bool.and_eq_true, beq_iff_eq, decide_eq_true_eq]

/-! ### Which records end (R59) -/

theorem isClear_iff (c : Sect) : c.isClear = true ↔ ClearOrPrepared c := by
  simp [Sect.isClear, ClearOrPrepared]

theorem spanClear_iff (s : State) (k : Fin 4) :
    s.spanClear k = true ↔ ∀ i : Fin 10, s.inSpan k i = true → ClearOrPrepared s.sections[i] := by
  unfold State.spanClear
  rw [List.all_eq_true]
  refine ⟨fun h i span => ?_, fun h i _ => ?_⟩
  · have clear := h i (mem_allSections i)
    rw [span] at clear
    exact (isClear_iff _).1 clear
  · cases span : s.inSpan k i
    · rfl
    · exact (isClear_iff _).2 (h i span)

theorem endsNow_iff (s : State) (changed : List (Fin 10)) (k : Fin 4) : s.endsNow changed k = true ↔ TrainEnds s changed k := by
  unfold State.endsNow TrainEnds
  rw [Bool.and_eq_true, Bool.and_eq_true, spanClear_iff, List.any_eq_true, Option.isSome_iff_ne_none, and_assoc]

/-- The slots whose records end, in slot order. -/
def State.ending (s : State) (changed : List (Fin 10)) : List (Fin 4) := allSlots.filter fun k => s.endsNow changed k

theorem mem_ending (s : State) (changed : List (Fin 10)) (k : Fin 4) : k ∈ s.ending changed ↔ TrainEnds s changed k := by
  unfold State.ending
  rw [List.mem_filter, endsNow_iff]
  exact and_iff_right (mem_allSlots k)

theorem ending_sorted (s : State) (changed : List (Fin 10)) : (s.ending changed).Pairwise (· < ·) :=
  List.Pairwise.filter _ (show allSlots.Pairwise (· < ·) by decide)

/-- A list of slots in order that holds the slots that end is the list of them. -/
theorem eq_ending {s : State} {changed : List (Fin 10)} {ks : List (Fin 4)} (sorted : ks.Pairwise (· < ·))
    (mem : ∀ k : Fin 4, k ∈ ks ↔ TrainEnds s changed k) : s.ending changed = ks :=
  (ending_sorted s changed).eq_of_mem_iff sorted fun k => (mem_ending s changed k).trans (mem k).symm

theorem endRecords_none {s : State} {changed : List (Fin 10)} (h : s.ending changed = []) : endRecords changed s = s := by
  unfold State.ending at h
  unfold endRecords
  rw [h]

theorem endRecords_one {s : State} {changed : List (Fin 10)} {k : Fin 4} (h : s.ending changed = [k]) :
    endRecords changed s = endRecord k s := by
  unfold State.ending at h
  unfold endRecords
  rw [h]

theorem endRecords_many {s : State} {changed : List (Fin 10)} {ks : List (Fin 4)} (h : s.ending changed = ks)
    (many : 2 ≤ ks.length) :
    endRecords changed s = (if s.order then ks else ks.reverse).foldl (fun t k => endRecord k t) s.tookFree := by
  unfold State.ending at h
  unfold endRecords
  rw [h]
  match ks with
  | [] | [_] => simp at many
  | _ :: _ :: _ => rfl

/-! ### Records that end, one after another -/

/-- A record that ends changes its slot, the log, the passage store, the counters and the notices. -/
theorem endRecord_blocks (k : Fin 4) (s : State) : Only [.slots, .log, .passages, .counters, .notices] s (endRecord k s) := by
  have outs : ∀ (i : Fin 32) (d : List Byte) (t : State),
      Only [.log, .counters, .notices] t (emit [.count i, .log .record k.val d] t) := fun i d t =>
    (bump_only i t).seq (writeLog_only .record k.val d _) (by decide) (by decide)
  unfold endRecord
  split
  · exact Only.refl _ _
  · dsimp only
    refine Only.trans ?_ ((storePassage_only _ _).mono (by decide))
    exact (setRecord_only s k none).seq (outs _ _ _) (by decide) (by decide)

theorem endRecord_getElem (k : Fin 4) (s : State) (j : Fin 4) :
    (endRecord k s).slots[j] = if k = j then { s.slots[j] with record := none } else s.slots[j] := by
  rw [endRecord_slots, setRecord_getElem]

theorem endRecord_foldl_getElem (ks : List (Fin 4)) (s : State) (j : Fin 4) :
    (ks.foldl (fun t k => endRecord k t) s).slots[j] =
      if j ∈ ks then { s.slots[j] with record := none } else s.slots[j] := by
  induction ks generalizing s with
  | nil => simp
  | cons k ks ih =>
    rw [List.foldl_cons, ih, endRecord_getElem]
    by_cases later : j ∈ ks
    · by_cases here : k = j
      · simp [later, here]
      · simp [later, here]
    · by_cases here : k = j
      · simp [here]
      · simp [later, here, Ne.symm here]

theorem endRecords_getElem (changed : List (Fin 10)) (s : State) (j : Fin 4) :
    (endRecords changed s).slots[j] =
      if j ∈ s.ending changed then { s.slots[j] with record := none } else s.slots[j] := by
  match h : s.ending changed with
  | [] => simp [endRecords_none h]
  | [k] =>
    rw [endRecords_one h, endRecord_getElem]
    simp [eq_comm]
  | k :: m :: ks =>
    have same : j ∈ (if s.order then k :: m :: ks else (k :: m :: ks).reverse) ↔ j ∈ k :: m :: ks := by
      split
      · exact Iff.rfl
      · exact List.mem_reverse
    rw [endRecords_many h (by simp), endRecord_foldl_getElem]
    simp only [same, State.tookFree_slots]

theorem endRecords_blocks (changed : List (Fin 10)) (s : State) :
    Only [.slots, .log, .passages, .counters, .notices, .free] s (endRecords changed s) := by
  have ends := fun t k => (endRecord_blocks k t).mono (bs := [.slots, .log, .passages, .counters, .notices, .free])
    (by decide)
  unfold endRecords
  dsimp only
  split
  · exact Only.refl _ _
  · exact ends _ _
  · exact ((tookFree_only s).mono (by decide)).trans (Only.foldl ends _ _)

/-! ### The passage store (R184) -/

/-- The discard drops as few of the oldest as make room. -/
theorem discardFor_drop (cap need : Nat) (l : List PassageRecord) :
    ∃ n, n ≤ l.length ∧ discardFor cap need l = l.drop n ∧ (l.drop n = [] ∨ stepsUsed (l.drop n) + need ≤ cap) ∧
      ∀ m, m < n → cap < stepsUsed (l.drop m) + need := by
  induction l with
  | nil => exact ⟨0, Nat.le_refl 0, rfl, .inl rfl, fun m h => absurd h (Nat.not_lt_zero m)⟩
  | cons p l ih =>
    by_cases fits : stepsUsed (p :: l) + need ≤ cap
    · exact ⟨0, Nat.zero_le _, if_pos fits, .inr fits, fun m h => absurd h (Nat.not_lt_zero m)⟩
    · obtain ⟨n, bound, dropped, room, few⟩ := ih
      refine ⟨n + 1, Nat.succ_le_succ bound, (if_neg fits).trans dropped, room, fun m h => ?_⟩
      cases m with
      | zero => exact Nat.not_le.1 fits
      | succ m => exact few m (Nat.lt_of_succ_lt_succ h)

theorem queueNotice_memory (n : Notice) (s : State) : (queueNotice n s).memory = s.memory := by
  unfold queueNotice
  split <;> rfl

theorem bump_memory (i : Fin 32) (s : State) : (bump i s).memory = s.memory := by
  unfold bump
  dsimp only
  split <;> split <;> simp only [queueNotice_memory, State.setCounter_memory]

/-- The content of an ending record's passage, as the statement gives it (R60). -/
theorem passage_eq (r : TrainRecord) (k : Fin 4) (seq : BitVec 16) (now : Time) :
    { r.passage k now with seq := seq } = passageOfTrain r k seq now := by
  have outcome : r.outcome = if r.phase = .arrived then .passed else .withdrawn := by
    unfold TrainRecord.outcome
    cases r.phase <;> rfl
  unfold TrainRecord.passage passageOfTrain TrainRecord.warning
  rw [slotTrack_eq, slotDir_eq, outcome]
  cases r.arrived <;> cases r.commitTime <;> rfl

/-! ### One record that ends (R59, R60) -/

/-- The state of a record's end before its passage is stored: counted, logged, the slot empty (R59). -/
def endedState (k : Fin 4) (r : TrainRecord) (s : State) : State :=
  writeLog .record k.val ([4, if r.phase = .arrived then 0 else 1] ++ be16 r.axlesIn)
    (bump (if r.phase = .arrived then 13 else 14) (s.setRecord k none))

theorem endRecord_eq {k : Fin 4} {r : TrainRecord} {s : State} (holds : s.slots[k].record = some r) :
    endRecord k s = storePassage (r.passage k (endedState k r s).now) (endedState k r s) := by
  unfold endRecord
  rw [holds]
  dsimp only
  unfold endedState TrainRecord.outcome
  cases r.phase <;> rfl

theorem endedState_only (k : Fin 4) (r : TrainRecord) (s : State) :
    Only [.slots, .log, .counters, .notices] s (endedState k r s) :=
  ((setRecord_only s k none).seq (bump_only _ _) (cs := [.slots, .counters, .notices]) (by decide) (by decide)).seq
    (writeLog_only _ _ _ _) (by decide) (by decide)

theorem endedState_slots (k : Fin 4) (r : TrainRecord) (s : State) :
    (endedState k r s).slots = (s.setRecord k none).slots :=
  ((writeLog_only _ _ _ _).slots_eq (by decide)).trans ((bump_only _ _).slots_eq (by decide))

theorem endedState_counters (k : Fin 4) (r : TrainRecord) (s : State) :
    (endedState k r s).counters = upd s.counters (if r.phase = .arrived then 13 else 14) Counter.bumped := by
  unfold endedState
  rw [(writeLog_only _ _ _ _).counters_eq (by decide), bump_counters]
  rfl

theorem endedState_memory (k : Fin 4) (r : TrainRecord) {s : State} (run : s.part = .run) :
    (endedState k r s).memory =
      s.memory.append s.now .record k.val ([4, if r.phase = .arrived then 0 else 1] ++ be16 r.axlesIn) := by
  have before := (setRecord_only s k none).seq (bump_only (if r.phase = .arrived then 13 else 14) _)
    (cs := [.slots, .counters, .notices]) (by decide) (by decide)
  unfold endedState
  rw [writeLog_memory ((before.part_eq (by decide)).trans run), bump_memory, (before.clock_eq (by decide)).1]
  rfl

/-- A record that ends: its passage is stored as the newest and the notice of it queued (R59, R60, R184). -/
theorem endRecord_effect {k : Fin 4} {r : TrainRecord} {s : State} (run : s.part = .run)
    (holds : s.slots[k].record = some r) :
    ∃ (n : Nat) (v : State),
      let x := passageOfTrain r k s.memory.nextPassage s.now
      let cnt : Fin 32 := if r.phase = .arrived then 13 else 14
      endRecord k s = queueNotice ⟨.passage, be16 x.seq.toNat ++ [byte x.track.code, byte x.dir.code, byte x.outcome.code] ++
        be16 v.memory.passages.length⟩ v ∧
      v.slots[k] = { s.slots[k] with record := none } ∧ (∀ j : Fin 4, j ≠ k → v.slots[j] = s.slots[j]) ∧
      v.counters[cnt] = s.counters[cnt].bumped ∧ (∀ i : Fin 32, i ≠ cnt → v.counters[i] = s.counters[i]) ∧
      v.memory =
        { s.memory.append s.now .record k.val ([4, if r.phase = .arrived then 0 else 1] ++ be16 r.axlesIn) with
          passages := s.memory.passages.drop n ++ [x], nextPassage := s.memory.nextPassage + 1 } ∧
      (s.memory.passages.drop n = [] ∨
        stepsUsed (s.memory.passages.drop n) + (3 + r.predictions.length) ≤ 8 * s.memory.layout.passage) ∧
      (∀ m, m < n → 8 * s.memory.layout.passage < stepsUsed (s.memory.passages.drop m) + (3 + r.predictions.length)) ∧
      n ≤ s.memory.passages.length ∧ Only [.slots, .log, .passages, .counters, .notices] s v := by
  obtain ⟨n, bound, dropped, room, few⟩ :=
    discardFor_drop (8 * s.memory.layout.passage) (3 + r.predictions.length) s.memory.passages
  have frame := endedState_only k r s
  have now := (frame.clock_eq (by decide)).1
  have memory := endedState_memory k r run
  have content := passage_eq r k s.memory.nextPassage s.now
  have stored : (endedState k r s).memory.store (r.passage k s.now) =
      { s.memory.append s.now .record k.val ([4, if r.phase = .arrived then 0 else 1] ++ be16 r.axlesIn) with
        passages := s.memory.passages.drop n ++ [passageOfTrain r k s.memory.nextPassage s.now]
        nextPassage := s.memory.nextPassage + 1 } := by
    rw [memory, ← content, ← dropped]
    rfl
  refine ⟨n, (endedState k r s).setMemory fun _ => (endedState k r s).memory.store (r.passage k s.now), ?_, ?_,
    fun j other => ?_, ?_, fun i other => ?_, stored, room, few, bound, ?_⟩
  · rw [endRecord_eq holds, now, storePassage, memory, ← content]
    rfl
  · rw [State.setMemory_slots, endedState_slots, setRecord_getElem, if_pos rfl]
  · rw [State.setMemory_slots, endedState_slots, setRecord_getElem, if_neg other.symm]
  · rw [State.setMemory_counters, endedState_counters, Fin.getElem_fin, upd_getElem, if_pos rfl]
    rfl
  · rw [State.setMemory_counters, endedState_counters, Fin.getElem_fin, upd_getElem, if_neg fun e => other (Fin.ext e).symm]
    rfl
  · have kept : Only [.passages] (endedState k r s)
        ((endedState k r s).setMemory fun _ => (endedState k r s).memory.store (r.passage k s.now)) := by
      intro b hb; cases b <;> simp_all [Same, State.configuration, RecordMemory.store]
    exact frame.seq kept (by decide) (by decide)

/-- Settles O31: the table of the Section Counter case by case; a point's section and a span's by their lowest number; the
records that end by the sorted list of them. -/
theorem sectionsCountAxles : Obligations.SectionsCountAxles := by
  unfold Obligations.SectionsCountAxles
  refine ⟨fun c => ⟨Sect.enter_clear, Sect.enter_prepared, Sect.enter_occupied, Sect.enter_full, Sect.leave_occupied,
      Sect.leave_last, Sect.leave_empty, Sect.unmoved_disturbed, Sect.skewed_live⟩,
    fun p i s => ⟨sectionEndingAt_iff s p i, sectionStartingAt_iff s p i, rfl, rfl, rfl, rfl⟩,
    fun k i j s track role lowest => ?_,
    fun changed s => ⟨fun k ends => ⟨?_, fun alone => ?_⟩, fun k stays => ?_, fun none_ => ?_, fun ks sorted mem many => ?_,
      endRecords_blocks changed s⟩,
    fun k r s run holds => endRecord_effect run holds⟩
  · refine inSpan_iff ((island_eq_some_iff s _ j).2 ?_) i
    rw [slotTrack_eq]
    exact ⟨⟨track, role⟩, lowest⟩
  · rw [endRecords_getElem, if_pos ((mem_ending s changed k).2 ends)]
  · refine endRecords_one (eq_ending (List.pairwise_singleton _ k) fun j => ?_)
    rw [List.mem_singleton]
    exact ⟨fun e => e ▸ ends, fun other => by_contra fun e => alone j e other⟩
  · rw [endRecords_getElem, if_neg (mt (mem_ending s changed k).1 stays)]
  · exact endRecords_none (eq_ending List.Pairwise.nil fun j => ⟨fun mem => absurd mem List.not_mem_nil,
      fun other => absurd other (none_ j)⟩)
  · rw [endRecords_many (eq_ending sorted mem) many]
    cases s.order
    · exact .inr rfl
    · exact .inl rfl

end Sys2Proof.Machine
end

section
/-! PROOFS. The ten checks of COMMIT: each gives the lowest index at fault, and COMMIT the first that fails (R202). -/

namespace Sys2Proof.Machine

theorem mem_allPoints (p : Fin 12) : p ∈ allPoints := by revert p; decide

theorem mem_allBarriers (b : Fin 4) : b ∈ allBarriers := by revert b; decide

/-! ### The lowest index at fault -/

theorem Lowest.here {i : Nat} {P : Prop} {l : List (Nat × Prop)} (fault : P) (below : ∀ j ∈ l.map Prod.fst, i < j) :
    Lowest ((i, P) :: l) (some i) := by
  have later : ∀ {j : Nat} {Q : Prop}, (j, Q) ∈ l → i < j := fun mem => below _ (List.mem_map_of_mem mem)
  refine ⟨fun j => ⟨fun e => ?_, fun ⟨Q, mem, _, first⟩ => ?_⟩, ?_⟩
  · obtain rfl := Option.some.inj e
    refine ⟨P, List.mem_cons_self, fault, fun k Q mem small => ?_⟩
    rcases List.mem_cons.1 mem with same | tail
    · exact absurd small (by rw [(Prod.mk.inj same).1]; exact Nat.lt_irrefl _)
    · exact absurd (later tail) (Nat.lt_asymm small)
  · rcases List.mem_cons.1 mem with same | tail
    · rw [(Prod.mk.inj same).1]
    · exact absurd fault (first i P List.mem_cons_self (later tail))
  · exact ⟨fun e => absurd e (by simp), fun none_ => absurd fault (none_ i P List.mem_cons_self)⟩

theorem Lowest.later {i : Nat} {P : Prop} {l : List (Nat × Prop)} {r : Option Nat} (sound : ¬P) (tail : Lowest l r) :
    Lowest ((i, P) :: l) r := by
  have skip : ∀ {j : Nat} {Q : Prop}, (j, Q) ∈ (i, P) :: l → Q → (j, Q) ∈ l := by
    intro j Q mem holds
    rcases List.mem_cons.1 mem with same | tail
    · exact absurd ((Prod.mk.inj same).2 ▸ holds) sound
    · exact tail
  refine ⟨fun j => ⟨fun found => ?_, fun ⟨Q, mem, holds, first⟩ => ?_⟩, fun e k Q mem holds => ?_, fun none_ => ?_⟩
  · obtain ⟨Q, mem, holds, first⟩ := (tail.1 j).1 found
    exact ⟨Q, List.mem_cons_of_mem _ mem, holds, fun k R mem small fault => first k R (skip mem fault) small fault⟩
  · exact (tail.1 j).2 ⟨Q, skip mem holds, holds, fun k R mem => first k R (List.mem_cons_of_mem _ mem)⟩
  · exact tail.2.1 e k Q (skip mem holds) holds
  · exact tail.2.2 fun k Q mem => none_ k Q (List.mem_cons_of_mem _ mem)

/-- A finding of a check and a case of the statement are of one index and at fault together. -/
def Tells (x : Finding) (y : Nat × Prop) : Prop := x.1 = y.1 ∧ (x.2 = true ↔ y.2)

/-- A check whose findings come lowest index first answers the lowest of its cases at fault. -/
theorem lowest_firstFault {l : List Finding} {cases : List (Nat × Prop)} {indices : List Nat}
    (listed : cases.map Prod.fst = indices) (sorted : indices.Pairwise (· < ·)) (tells : List.Forall₂ Tells l cases) :
    Lowest cases (firstFault l) := by
  subst listed
  induction tells with
  | nil => exact ⟨by simp [firstFault], by simp [firstFault]⟩
  | @cons x y l cases same tells ih =>
    obtain ⟨i, fault⟩ := x
    obtain ⟨j, P⟩ := y
    obtain ⟨rfl, iff⟩ : i = j ∧ (fault = true ↔ P) := same
    obtain ⟨below, sorted⟩ := List.pairwise_cons.1 sorted
    cases fault with
    | true => exact .here (iff.1 rfl) below
    | false => exact .later (fun holds => Bool.noConfusion (iff.2 holds)) (ih sorted)

theorem tells_map {α : Type} {l : List α} {index : α → Nat} {fault : α → Bool} {P : α → Prop}
    (same : ∀ a, fault a = true ↔ P a) :
    List.Forall₂ Tells (l.map fun a => (index a, fault a)) (l.map fun a => (index a, P a)) := by
  rw [List.forall₂_map_left_iff, List.forall₂_map_right_iff, List.forall₂_same]
  exact fun a _ => ⟨rfl, same a⟩

/-! ### The first check that fails -/

/-- With the checks numbered in their order, the first that fails is the lowest number that fails. -/
theorem firstFailure_eq_some_iff {checks : List (Nat × (State → Option Nat))} (s : State) (n i : Nat)
    (sorted : (checks.map Prod.fst).Pairwise (· < ·)) :
    firstFailure s checks = some (n, i) ↔
      ∃ f, (n, f) ∈ checks ∧ f s = some i ∧ ∀ m g, (m, g) ∈ checks → m < n → g s = none := by
  induction checks with
  | nil => simp [firstFailure]
  | cons c checks ih =>
    obtain ⟨k, f⟩ := c
    obtain ⟨below, sorted⟩ := List.pairwise_cons.1 sorted
    have later : ∀ {m : Nat} {g : State → Option Nat}, (m, g) ∈ checks → k < m := fun mem => below _ (List.mem_map_of_mem mem)
    unfold firstFailure
    cases here : f s with
    | some j =>
      dsimp only
      refine ⟨fun e => ?_, fun ⟨g, mem, fails, first⟩ => ?_⟩
      · obtain ⟨rfl, rfl⟩ := Prod.mk.inj (Option.some.inj e)
        refine ⟨f, List.mem_cons_self, here, fun m g mem small => ?_⟩
        rcases List.mem_cons.1 mem with same | tail
        · exact absurd small (by rw [(Prod.mk.inj same).1]; exact Nat.lt_irrefl _)
        · exact absurd (later tail) (Nat.lt_asymm small)
      · rcases List.mem_cons.1 mem with same | tail
        · obtain ⟨rfl, rfl⟩ := Prod.mk.inj same
          rw [Option.some.inj (here.symm.trans fails)]
        · exact absurd (here.symm.trans (first k f List.mem_cons_self (later tail))) (by simp)
    | none =>
      dsimp only
      rw [ih sorted]
      refine ⟨fun ⟨g, mem, fails, first⟩ => ⟨g, List.mem_cons_of_mem _ mem, fails, fun m h mem' small => ?_⟩,
        fun ⟨g, mem, fails, first⟩ => ⟨g, ?_, fails, fun m h mem' => first m h (List.mem_cons_of_mem _ mem')⟩⟩
      · rcases List.mem_cons.1 mem' with same | tail
        · rw [(Prod.mk.inj same).2, here]
        · exact first m h tail small
      · rcases List.mem_cons.1 mem with same | tail
        · rw [(Prod.mk.inj same).2, here] at fails
          exact absurd fails (by simp)
        · exact tail

/-! ### Tracks with points (checks 1 and 4) -/

theorem mem_pointsOf {s : State} {t : Track} {p : Fin 12} : p ∈ s.pointsOf t ↔ s.points[p].track = some t := by
  unfold State.pointsOf
  rw [List.mem_filter, and_iff_right (mem_allPoints p), beq_iff_eq]

theorem hasPoints_iff {s : State} {t : Track} : s.hasPoints t = true ↔ HasPoints s t := by
  unfold State.hasPoints HasPoints
  simp only [Bool.not_eq_true', List.isEmpty_eq_false_iff_exists_mem, mem_pointsOf]

theorem samePlace_iff {s : State} {t : Track} :
    s.samePlace (s.pointsOf t) = true ↔ ∃ p q : Fin 12, p ≠ q ∧ s.points[p].track = some t ∧ s.points[q].track = some t ∧
      s.points[p].position = s.points[q].position := by
  simp only [State.samePlace, State.posOf, List.any_eq_true, mem_pointsOf, Bool.and_eq_true, bne_iff_ne, beq_iff_eq]
  exact ⟨fun ⟨p, atP, q, atQ, differ, same⟩ => ⟨p, q, differ, atP, atQ, same⟩,
    fun ⟨p, q, differ, atP, atQ, same⟩ => ⟨p, atP, q, atQ, differ, same⟩⟩

theorem length_pointsOf (s : State) (t : Track) :
    (s.pointsOf t).length = (allPoints.filter fun p => decide (s.points[p].track = some t)).length := by
  unfold State.pointsOf
  congr 2
  funext p
  exact Bool.eq_iff_iff.2 (by rw [beq_iff_eq, decide_eq_true_eq])

theorem pointsBad_iff {s : State} {t : Track} :
    (s.hasPoints t && (decide ((s.pointsOf t).length < 2 ∨ 6 < (s.pointsOf t).length) || s.samePlace (s.pointsOf t))) = true ↔
      PointsBad s t := by
  rw [Bool.and_eq_true, Bool.or_eq_true, decide_eq_true_eq, hasPoints_iff, samePlace_iff, length_pointsOf, or_assoc]
  rfl

theorem noPoints_iff {s : State} :
    (bothTracks.all fun t => !s.hasPoints t) = true ↔ ∀ p : Fin 12, s.points[p].track = none := by
  have none_ : ∀ t : Track, (!s.hasPoints t) = true ↔ ∀ p : Fin 12, s.points[p].track ≠ some t := fun t => by
    rw [Bool.not_eq_true', ← Bool.not_eq_true, hasPoints_iff, HasPoints, not_exists]
  rw [List.all_eq_true]
  refine ⟨fun all p => ?_, fun all t _ => (none_ t).2 fun p e => absurd ((all p).symm.trans e) (by simp)⟩
  cases track : s.points[p].track with
  | none => rfl
  | some t => exact absurd track ((none_ t).1 (all t (by cases t <;> decide)) p)

theorem check1_lowest (s : State) :
    Lowest [(0, ∀ p : Fin 12, s.points[p].track = none), (1, PointsBad s .one), (2, PointsBad s .two)] (check1 s) :=
  lowest_firstFault (indices := [0, 1, 2]) rfl (by decide)
    (.cons ⟨rfl, noPoints_iff⟩ (.cons ⟨rfl, pointsBad_iff⟩ (.cons ⟨rfl, pointsBad_iff⟩ .nil)))

theorem check4_lowest (s : State) :
    Lowest (allSlots.map fun k => (k.val, HasPoints s (trackOfSlot k) ∧ s.slots[k].vLine < s.slots[k].vFloor)) (check4 s) :=
  lowest_firstFault (indices := [0, 1, 2, 3]) rfl (by decide) (tells_map fun k => by
    rw [Bool.and_eq_true, hasPoints_iff, decide_eq_true_eq, slotTrack_eq])

/-! ### Islands (check 2) -/

theorem mem_islandsOf {s : State} {t : Track} {i : Fin 10} :
    i ∈ s.islandsOf t ↔ s.sections[i].track = some t ∧ s.sections[i].role = .island := by
  unfold State.islandsOf
  rw [List.mem_filter, and_iff_right (mem_allSections i), Bool.and_eq_true, beq_iff_eq, beq_iff_eq]

/-- A list without repetition that holds a value is longer than one when it holds another. -/
theorem one_lt_length_iff {α : Type} {l : List α} {a : α} (nodup : l.Nodup) (mem : a ∈ l) :
    1 < l.length ↔ ∃ b, b ≠ a ∧ b ∈ l := by
  refine ⟨fun long => ?_, fun ⟨b, differ, memB⟩ => ?_⟩
  · by_contra none_
    have only : ∀ b ∈ l, b = a := fun b memB => by_contra fun differ => none_ ⟨b, differ, memB⟩
    match l, nodup, mem, long with
    | x :: y :: l, nodup, _, _ =>
      have same : x = y := (only x (by simp)).trans (only y (by simp)).symm
      exact (List.nodup_cons.1 nodup).1 (by simp [same])
  · match l with
    | [] => exact absurd mem List.not_mem_nil
    | [x] => exact absurd ((List.mem_singleton.1 memB).trans (List.mem_singleton.1 mem).symm) differ
    | x :: y :: l => exact Nat.one_lt_succ_succ _

theorem straddles_iff {s : State} {i : Fin 10} :
    s.straddles i = true ↔ s.points[s.sections[i].aEnd].position < 0 ∧ 0 < s.points[s.sections[i].bEnd].position :=
  decide_eq_true_iff

theorem islandsOf_nodup (s : State) (t : Track) : (s.islandsOf t).Nodup :=
  List.Nodup.filter _ (by decide)

theorem islandAtFault_iff {s : State} {i : Fin 10} : s.islandAtFault i = true ↔ IslandBad s i := by
  unfold State.islandAtFault IslandBad
  cases track : s.sections[i].track with
  | none => simp
  | some t =>
    simp only [Bool.and_eq_true, Bool.or_eq_true, Bool.not_eq_true', decide_eq_true_eq, beq_iff_eq, ← Bool.not_eq_true,
      hasPoints_iff, straddles_iff]
    have others : s.sections[i].role = .island → (1 < (s.islandsOf t).length ↔
        ∃ j : Fin 10, j ≠ i ∧ s.sections[j].track = some t ∧ s.sections[j].role = .island) := fun role => by
      simp only [one_lt_length_iff (islandsOf_nodup s t) (mem_islandsOf.2 ⟨track, role⟩), mem_islandsOf]
    refine ⟨fun ⟨⟨points, role⟩, bad⟩ => ⟨t, rfl, points, role, bad.imp_left (others role).1⟩, ?_⟩
    rintro ⟨u, same, points, role, bad⟩
    obtain rfl := Option.some.inj same
    exact ⟨⟨points, role⟩, bad.imp_left (others role).2⟩

theorem noIsland_iff {s : State} {t : Track} : (s.hasPoints t && (s.islandsOf t).isEmpty) = true ↔ NoIsland s t := by
  simp only [Bool.and_eq_true, hasPoints_iff, NoIsland, List.isEmpty_iff, List.eq_nil_iff_forall_not_mem, mem_islandsOf]

theorem check2_lowest (s : State) :
    Lowest (allSections.map (fun i => (i.val, IslandBad s i)) ++ [(129, NoIsland s .one), (130, NoIsland s .two)])
      (check2 s) :=
  lowest_firstFault (indices := [0, 1, 2, 3, 4, 5, 6, 7, 8, 9, 129, 130]) rfl (by decide)
    (List.rel_append (tells_map fun _ => islandAtFault_iff)
      (.cons ⟨rfl, noIsland_iff⟩ (.cons ⟨rfl, noIsland_iff⟩ .nil)))

/-! ### Sections and pairs of points (check 3) -/

theorem consecutive_iff {s : State} {t : Track} {p q : Fin 12} : s.consecutive t p q = true ↔ Consecutive s t p q := by
  simp only [State.consecutive, State.between, Bool.and_eq_true, Bool.not_eq_true', ← Bool.not_eq_true,
    List.any_eq_true, mem_pointsOf, decide_eq_true_eq, beq_iff_eq, and_assoc]
  simp only [State.posOf, Consecutive, not_exists, not_and]

theorem pairTaken_iff {s : State} {i : Fin 10} :
    s.pairTaken i = true ↔ ∃ j : Fin 10, j ≠ i ∧ s.sections[j].track ≠ none ∧
      ((s.sections[j].aEnd = s.sections[i].aEnd ∧ s.sections[j].bEnd = s.sections[i].bEnd) ∨
        (s.sections[j].aEnd = s.sections[i].bEnd ∧ s.sections[j].bEnd = s.sections[i].aEnd)) := by
  simp only [State.pairTaken, Sect.inUse, List.any_eq_true, mem_allSections, true_and, Bool.and_eq_true, Bool.or_eq_true,
    bne_iff_ne, beq_iff_eq, Option.isSome_iff_ne_none, and_assoc]

theorem sectionAtFault_iff {s : State} {i : Fin 10} : s.sectionAtFault i = true ↔ SectionBad s i := by
  unfold State.sectionAtFault SectionBad
  cases track : s.sections[i].track with
  | none => simp
  | some t =>
    simp only [Bool.or_eq_true, Bool.not_eq_true', ← Bool.not_eq_true, consecutive_iff, pairTaken_iff]
    refine ⟨fun bad => ⟨t, rfl, bad⟩, ?_⟩
    rintro ⟨u, same, bad⟩
    obtain rfl := Option.some.inj same
    exact bad

theorem unjoined_iff {s : State} {t : Track} : s.unjoined t = true ↔ PairUnjoined s t := by
  simp only [State.unjoined, State.joins, PairUnjoined, List.any_eq_true, mem_allPoints, mem_allSections, true_and,
    Bool.and_eq_true, Bool.not_eq_true', ← Bool.not_eq_true, consecutive_iff, beq_iff_eq, not_exists, and_assoc]

theorem check3_lowest (s : State) :
    Lowest (allSections.map (fun i => (i.val, SectionBad s i)) ++ [(129, PairUnjoined s .one), (130, PairUnjoined s .two)])
      (check3 s) :=
  lowest_firstFault (indices := [0, 1, 2, 3, 4, 5, 6, 7, 8, 9, 129, 130]) rfl (by decide)
    (List.rel_append (tells_map fun _ => sectionAtFault_iff)
      (.cons ⟨rfl, unjoined_iff⟩ (.cons ⟨rfl, unjoined_iff⟩ .nil)))

/-! ### Times, lamps and reds (checks 5 to 7) -/

/-- A number is below a sum with a largest value when it is below the sum with the start value or with a value taken. -/
theorem lt_add_foldl_max {α : Type} (l : List α) (taken : α → Bool) (value : α → Nat) (n a m : Nat) :
    n < a + l.foldl (fun m x => if taken x then max m (value x) else m) m ↔
      n < a + m ∨ ∃ x ∈ l, taken x = true ∧ n < a + value x := by
  induction l generalizing m with
  | nil => simp
  | cons x l ih =>
    rw [List.foldl_cons, ih, List.exists_mem_cons_iff, ← or_assoc]
    refine or_congr_left ?_
    cases taken x with
    | false => simp
    | true =>
      simp only [if_true, true_and]
      omega

theorem rwtShort_iff {s : State} :
    decide (s.rwt < s.seq.tAmber + s.seq.tPrelower + s.largestOf Barrier.isEntry fun b => b.lower.total) = true ↔
      s.rwt < s.seq.tAmber + s.seq.tPrelower ∨
        ∃ b : Fin 4, s.barriers[b].configured = true ∧ s.barriers[b].role = .entry ∧
          s.rwt < s.seq.tAmber + s.seq.tPrelower + s.barriers[b].lower.total := by
  rw [decide_eq_true_eq, State.largestOf, lt_add_foldl_max]
  simp only [mem_allBarriers, true_and, Bool.and_eq_true, Barrier.isEntry, beq_iff_eq, and_assoc, Nat.add_zero]

theorem check5_lowest (s : State) :
    Lowest [(0, s.rwt < s.seq.tAmber + s.seq.tPrelower ∨
      ∃ b : Fin 4, s.barriers[b].configured = true ∧ s.barriers[b].role = .entry ∧
        s.rwt < s.seq.tAmber + s.seq.tPrelower + s.barriers[b].lower.total)] (check5 s) :=
  lowest_firstFault (indices := [0]) rfl (by decide) (.cons ⟨rfl, rwtShort_iff⟩ .nil)

theorem settleLong_iff (f : FlashConfig) :
    decide (min f.lOn f.rOn ≤ f.settle + 50) = true ↔ ¬(f.settle + 50 < f.lOn ∧ f.settle + 50 < f.rOn) := by
  rw [decide_eq_true_eq]
  omega

theorem check6_lowest (s : State) :
    Lowest [
      (0, s.lamps.flash.lOn + s.lamps.flash.g1 + s.lamps.flash.rOn + s.lamps.flash.g2 ≠ s.lamps.flash.period),
      (1, ¬(s.lamps.flash.settle + 50 < s.lamps.flash.lOn ∧ s.lamps.flash.settle + 50 < s.lamps.flash.rOn))] (check6 s) :=
  lowest_firstFault (indices := [0, 1]) rfl (by decide)
    (.cons ⟨rfl, bne_iff_ne⟩ (.cons ⟨rfl, settleLong_iff _⟩ .nil))

theorem anyEnabled_iff {s : State} {cs : List (Fin 10)} : s.anyEnabled cs = true ↔ Enabled s cs :=
  List.any_eq_true

theorem lacksReds_iff {s : State} {x : Side} :
    (s.needsReds x && !(s.anyEnabled (leftOf x) && s.anyEnabled (rightOf x))) = true ↔
      LacksReds s x (leftOf x) (rightOf x) := by
  simp only [State.needsReds, LacksReds, Bool.and_eq_true, Bool.or_eq_true, Bool.not_eq_true', ← Bool.not_eq_true,
    anyEnabled_iff, List.any_eq_true, mem_allBarriers, true_and, beq_iff_eq]

theorem check7_lowest (s : State) :
    Lowest [(0, LacksReds s .a [1, 3] [2, 4]), (1, LacksReds s .b [6, 8] [7, 9])] (check7 s) :=
  lowest_firstFault (indices := [0, 1]) rfl (by decide)
    (.cons ⟨rfl, lacksReds_iff⟩ (.cons ⟨rfl, lacksReds_iff⟩ .nil))

/-! ### Barriers, the own address and the layout (checks 8 to 10) -/

theorem fits_iff {m : MotionLimits} : m.fits = true ↔ LimitsFit m := decide_eq_true_iff

theorem exitDelayBad_iff {s : State} :
    ((s.seq.tExitDelay == 0) == s.hasExit) = true ↔
      ¬(s.seq.tExitDelay = 0 ↔ ∀ b : Fin 4, s.barriers[b].configured = true → s.barriers[b].role ≠ .exit) := by
  have exits : s.hasExit = true ↔ ¬∀ b : Fin 4, s.barriers[b].configured = true → s.barriers[b].role ≠ .exit := by
    simp only [State.hasExit, List.any_eq_true, mem_allBarriers, true_and, Bool.and_eq_true, beq_iff_eq, not_forall,
      not_not, exists_prop]
  rw [beq_iff_eq, Bool.eq_iff_iff, beq_iff_eq, exits]
  tauto

theorem check8_lowest (s : State) :
    Lowest (allBarriers.map (fun b => (b.val, s.barriers[b].configured = true ∧
        ¬(LimitsFit s.barriers[b].lower ∧ LimitsFit s.barriers[b].raise))) ++
      [(4, ¬(s.seq.tExitDelay = 0 ↔
        ∀ b : Fin 4, s.barriers[b].configured = true → s.barriers[b].role ≠ .exit))]) (check8 s) :=
  lowest_firstFault (indices := [0, 1, 2, 3, 4]) rfl (by decide)
    (List.rel_append (tells_map fun b => by
      simp only [Bool.and_eq_true, Bool.not_eq_true', ← Bool.not_eq_true, fits_iff])
      (.cons ⟨rfl, exitDelayBad_iff⟩ .nil))

theorem check9_lowest (s : State) : Lowest [(0, ¬∃ a, s.line.own = some a ∧ 1 ≤ a.toNat ∧ a.toNat ≤ 47)] (check9 s) := by
  refine lowest_firstFault (indices := [0]) rfl (by decide) (.cons ⟨rfl, ?_⟩ .nil)
  dsimp only
  cases s.line.own with
  | none => simp
  | some a => simp; omega

theorem check10_lowest (s : State) :
    Lowest [(0, s.memory.configured.log < 8), (1, s.memory.configured.passage < 4), (2, s.memory.configured.hnq < 4),
      (3, 128 < s.memory.configured.log + s.memory.configured.passage + s.memory.configured.hnq)] (check10 s) :=
  lowest_firstFault (indices := [0, 1, 2, 3]) rfl (by decide)
    (.cons ⟨rfl, decide_eq_true_iff⟩ (.cons ⟨rfl, decide_eq_true_iff⟩ (.cons ⟨rfl, decide_eq_true_iff⟩
      (.cons ⟨rfl, decide_eq_true_iff⟩ .nil))))

/-! ### The refusal -/

/-- A COMMIT that fails a check is answered with the check's number and index, and changes nothing. -/
theorem exec_commit_fails {n i : Nat} (tag : Byte) {s : State} (config : s.part = .config) (free : HostFree s)
    (fails : commitFailure s = some (n, i)) :
    ∃ t, exec (.commit tag []) s = .next t ∧ Replied 0x1E tag [7, byte n, byte i] s t ∧ Only [.port] s t := by
  have served : serve .commit [] s.frameIn = answer .invalidConfig [byte n, byte i] s.frameIn := by
    unfold serve commitRequest
    rw [commitFailure_frameIn, fails]
  have taken := takeFrame_eq_placeReply (q := .commit) (tag := tag) (payload := []) free (by decide) rfl
    (by rw [config]; rfl)
  refine ⟨s.frameIn.replied 0x1E tag [7, byte n, byte i], ?_, ⟨rfl, rfl, rfl, rfl⟩,
    (frameIn_only s).trans (replied_only _ _ _ _)⟩
  have row : exec (.commit tag []) s = .next (takeFrame Request.commit.code tag [] s) := rfl
  rw [row, taken, served]
  rfl

/-- Settles O16: each check's findings are its cases, lowest index first, and the checks are tried in their order. -/
theorem commitFailsAtTheFirstFailingCheck : Obligations.CommitFailsAtTheFirstFailingCheck := by
  unfold Obligations.CommitFailsAtTheFirstFailingCheck
  exact ⟨fun n i tag s config free fails => exec_commit_fails tag config free fails,
    fun n i s => firstFailure_eq_some_iff s n i (by decide),
    fun s => ⟨check1_lowest s, check2_lowest s, check3_lowest s, check4_lowest s, check5_lowest s, check6_lowest s,
      check7_lowest s, check8_lowest s, check9_lowest s, check10_lowest s⟩⟩

end Sys2Proof.Machine
end

section
/-! PROOFS. The CONFIRM slot over what a step brings, and the spans over what leaves the configuration: what a restore's proof
needs of the Sequencer, the Predictor and the Fault Manager (R38, R53, R163). -/

namespace Sys2Proof.Machine

/-! ### The CONFIRM slot stands (R163) -/

/-- The CONFIRM slot stands. -/
def ConfirmKept (s t : State) : Prop := t.reports.confirm = s.reports.confirm

theorem ConfirmKept.refl (s : State) : ConfirmKept s s := rfl

theorem ConfirmKept.trans {s t u : State} (h : ConfirmKept s t) (h' : ConfirmKept t u) : ConfirmKept s u := Eq.trans h' h

theorem ConfirmKept.of_only {bs : List Block} {s t : State} (h : Only bs s t) (off : .reports ∉ bs) : ConfirmKept s t := by
  rw [ConfirmKept, h.reports_eq off]

theorem ConfirmKept.ite {s t u : State} {c : Prop} [Decidable c] (ht : ConfirmKept s t) (hu : ConfirmKept s u) :
    ConfirmKept s (if c then t else u) := by
  split
  · exact ht
  · exact hu

theorem ConfirmKept.foldl {α : Type} {f : State → α → State} (hf : ∀ s a, ConfirmKept s (f s a)) (l : List α) (s : State) :
    ConfirmKept s (l.foldl f s) := by
  induction l generalizing s with
  | nil => exact .refl s
  | cons a l ih => exact (hf s a).trans (ih (f s a))

theorem emit1_confirm (s : State) (o : Output) : ConfirmKept s (emit1 s o) := by
  cases o with
  | log k n d => exact .of_only (writeLog_only k n d s) (by decide)
  | notice n => exact .of_only (queueNotice_only n s) (by decide)
  | stateNotice => exact .of_only (queueNotice_only _ s) (by decide)
  | count i => exact .of_only (bump_only i s) (by decide)
  | statusDue => rfl

theorem emit_confirm (os : List Output) (s : State) : ConfirmKept s (emit os s) := .foldl emit1_confirm os s

theorem endCondition_confirm (k : FaultKind) (o : Nat) (s : State) : ConfirmKept s (endCondition k o s) := by
  have derive : ∀ t : State, ConfirmKept t (deriveMode .ended t) := fun t => by
    unfold deriveMode
    split
    · exact .refl t
    · exact ConfirmKept.trans (.of_only (setFaults_only t _) (by decide)) (emit_confirm _ _)
  have applied : ConfirmKept s (applyFault (fun f => f.ended s.now k o) s) :=
    ConfirmKept.trans (.of_only (setFaults_only s fun _ => (s.faults.ended s.now k o).1) (by decide)) (emit_confirm _ _)
  exact applied.trans (derive _)

theorem commitRecord_confirm (k : Fin 4) (cause : CommitCause) (time : Time) (short : Bool) (s : State) :
    ConfirmKept s (commitRecord k cause time short s) := by
  unfold commitRecord
  split
  · exact .refl s
  · split
    · exact .refl s
    · exact ConfirmKept.trans (.of_only (setRecord_only s k _) (by decide)) (emit_confirm _ _)

theorem testPrepared_confirm (k : Fin 4) (s : State) : ConfirmKept s (testPrepared k s) :=
  .ite (commitRecord_confirm _ _ _ _ s) (.refl s)

theorem sweepCommits_confirm (i : Fin 10) (s : State) : ConfirmKept s (sweepCommits i s) :=
  .foldl (fun s k => .ite (testPrepared_confirm k s) (.refl s)) _ _

theorem guardCommit_confirm (g : Nat) (s : State) : ConfirmKept s (guardCommit g s) :=
  .foldl (fun s _ => .ite (commitRecord_confirm _ _ _ _ s) (.refl s)) _ _

theorem seqGo_confirm (x : SeqState) (c : SeqCause) (b : Bool) (n : Option Nat) (s : State) :
    ConfirmKept s (seqGo x c b n s) :=
  emit_confirm _ (s.setSeq _)

theorem lampCommand_confirm (c : LampCmd) (s : State) : ConfirmKept s (lampCommand c s) :=
  .of_only (lampCommand_only c s) (by decide)

theorem toBarriers_confirm {f : Fin 4 → State → State} (h : ∀ b s, ConfirmKept s (f b s)) (p : Barrier → Bool) (s : State) :
    ConfirmKept s (toBarriers p f s) :=
  .foldl (fun s b => by split; exacts [h b s, .refl _]) _ _

theorem releaseBarrier_confirm (b : Fin 4) (s : State) : ConfirmKept s (releaseBarrier b s) :=
  .of_only (releaseBarrier_only b s) (by decide)

theorem raiseBarrier_confirm (b : Fin 4) (s : State) : ConfirmKept s (raiseBarrier b s) := by
  unfold raiseBarrier
  dsimp only
  split
  · exact endCondition_confirm _ _ (s.setBarrier b _)
  · exact .refl s

/-- A move of the Sequencer with its lamp and release commands. -/
theorem moveAndRelease_confirm (x : SeqState) (c : SeqCause) (l : LampCmd) (p : Barrier → Bool) (s : State) :
    ConfirmKept s (toBarriers p releaseBarrier (lampCommand l (seqMove x c s))) :=
  ((seqGo_confirm x c false none s).trans (lampCommand_confirm l _)).trans (toBarriers_confirm releaseBarrier_confirm p _)

theorem enterOpen_confirm (s : State) : ConfirmKept s (enterOpen s) := by
  have opens := fun (f : Sequencer → Sequencer) b n =>
    (seqGo_confirm .roadOpen .barriers b n (s.setSeq f)).trans (lampCommand_confirm .dark _)
  have bins : ∀ (len : Option Nat) (t : State), ConfirmKept t
      (match len with | some ms => emit [.count (cntClosureBin ms)] t | none => t) := fun len t => by
    cases len with
    | none => exact .refl t
    | some ms => exact emit_confirm _ t
  unfold enterOpen
  dsimp only
  split
  · exact ((opens _ _ _).trans (bins _ _)).trans (endCondition_confirm _ _ _)
  · exact (opens _ _ _).trans (bins _ _)

theorem leaveOpen_confirm (x : SeqState) (c : SeqCause) (l : LampCmd) (s : State) : ConfirmKept s (leaveOpen x c l s) := by
  unfold leaveOpen
  dsimp only
  refine ConfirmKept.trans ?_ (lampCommand_confirm l _)
  refine ConfirmKept.trans ?_ (.of_only (abortTest_only _) (by decide))
  exact (emit_confirm [.count cntClosures] (s.setSeq _)).trans (seqGo_confirm x c _ none _)

theorem enterRaising_confirm (s : State) : ConfirmKept s (enterRaising s) := by
  refine ConfirmKept.trans ?_ (.ite (enterOpen_confirm _) (.refl _))
  exact ((seqGo_confirm .raising .guardPassed false none s).trans (lampCommand_confirm .redContinue _)).trans
    (toBarriers_confirm raiseBarrier_confirm _ _)

theorem testClosed_confirm (s : State) : ConfirmKept s (testClosed s) :=
  .ite (.ite (guardCommit_confirm _ s) (enterRaising_confirm s)) (.refl s)

theorem enterClosed_confirm (s : State) : ConfirmKept s (enterClosed s) :=
  (moveAndRelease_confirm _ _ _ _ s).trans (testClosed_confirm _)

theorem enterLowerExit_confirm (s : State) : ConfirmKept s (enterLowerExit s) :=
  (moveAndRelease_confirm _ _ _ _ s).trans (.ite (enterClosed_confirm _) (.refl _))

theorem testLowerEntry_confirm (s : State) : ConfirmKept s (testLowerEntry s) :=
  .ite (.ite (enterLowerExit_confirm (s.setSeq _)) (enterClosed_confirm (s.setSeq _))) (.refl s)

theorem reclose_confirm (s : State) : ConfirmKept s (reclose s) :=
  ((moveAndRelease_confirm _ _ _ _ s).trans (.of_only (setExitMark_only _) (by decide))).trans (testLowerEntry_confirm _)

theorem takeDemand_confirm (s : State) : ConfirmKept s (takeDemand s) := by
  unfold takeDemand
  split
  · exact .ite (leaveOpen_confirm _ _ _ s) (.refl s)
  · exact .ite (reclose_confirm s) (.refl s)
  · exact testClosed_confirm s
  · exact .refl s

theorem react_confirm (s : State) : ConfirmKept s (react s) :=
  (takeDemand_confirm s).trans (.of_only (lineSettle_only _) (by decide))

/-! ### Spans stand while the configuration does (R38) -/

theorem sections_of_configuration {s t : State} (h : t.configuration = s.configuration) (i : Fin 10) :
    t.sections[i].track = s.sections[i].track ∧ t.sections[i].aEnd = s.sections[i].aEnd ∧
      t.sections[i].bEnd = s.sections[i].bEnd ∧ t.sections[i].role = s.sections[i].role := by
  have entry := congrArg (fun c : Configuration => c.sections[i]) h
  simpa [State.configuration] using entry

theorem position_of_configuration {s t : State} (h : t.configuration = s.configuration) (p : Fin 12) :
    t.points[p].position = s.points[p].position := by
  have entry := congrArg (fun c : Configuration => c.points[p].2.1) h
  simpa [State.configuration] using entry

theorem inSpan_of_configuration {s t : State} (h : t.configuration = s.configuration) (k : Fin 4) (i : Fin 10) :
    t.inSpan k i = s.inSpan k i := by
  have island : t.island (slotTrack k) = s.island (slotTrack k) := by
    unfold State.island
    congr 1
    funext j
    obtain ⟨track, -, -, role⟩ := sections_of_configuration h j
    rw [track, role]
  unfold State.inSpan
  rw [island]
  cases s.island (slotTrack k) with
  | none => rfl
  | some j =>
    obtain ⟨track, aEnd, bEnd, -⟩ := sections_of_configuration h i
    obtain ⟨-, aEnd', bEnd', -⟩ := sections_of_configuration h j
    simp only [track, aEnd, bEnd, aEnd', bEnd', position_of_configuration h]

theorem Only.configuration_eq {bs : List Block} {s t : State} (h : Only bs s t) (off : .config ∉ bs) :
    t.configuration = s.configuration := h .config off

theorem spanPrepared_congr {s t : State} (h : t.configuration = s.configuration) (sections : t.sections = s.sections)
    (k : Fin 4) : t.spanPrepared k = s.spanPrepared k := by
  unfold State.spanPrepared
  simp only [inSpan_of_configuration h, sections]

theorem spanPrepared_of_mem {s : State} {k : Fin 4} {i : Fin 10} (inside : s.inSpan k i = true)
    (prepared : s.sections[i].state = some .prepared) : s.spanPrepared k = true :=
  List.any_eq_true.2 ⟨i, mem_allSections i, by rw [inside, prepared]; rfl⟩

/-! ### The commits of PREPARED sections (R53) -/

theorem Slot.committing_committing (x : Slot) (cause : CommitCause) (time : Time) (short : Bool) :
    (x.committing cause time short).committing cause time short = x.committing cause time short := by
  cases holds : x.record with
  | none => rw [committing_of_none holds, committing_of_none holds]
  | some r =>
    cases done : r.committed with
    | true => rw [committing_of_committed holds done, committing_of_committed holds done]
    | false =>
      rw [committing_of_pending holds done]
      exact committing_of_committed rfl rfl _ _ _

theorem testPrepared_getElem (k : Fin 4) (s : State) (j : Fin 4) :
    (testPrepared k s).slots[j] =
      if k = j ∧ s.spanPrepared j = true then s.slots[j].committing .prepared s.now false else s.slots[j] := by
  unfold testPrepared
  by_cases prepared : s.spanPrepared k = true
  · rw [if_pos prepared, commitRecord_getElem]
    by_cases same : k = j
    · subst same
      rw [if_pos rfl, if_pos ⟨rfl, prepared⟩]
    · rw [if_neg same, if_neg fun h => same h.1]
  · rw [if_neg prepared, if_neg]
    rintro ⟨rfl, h⟩
    exact prepared h

theorem testPrepared_foldl_getElem (ks : List (Fin 4)) (s : State) (j : Fin 4) :
    (ks.foldl (fun t k => testPrepared k t) s).slots[j] =
      if j ∈ ks ∧ s.spanPrepared j = true then s.slots[j].committing .prepared s.now false else s.slots[j] := by
  induction ks generalizing s with
  | nil => simp
  | cons k ks ih =>
    have frame := testPrepared_only k s
    rw [List.foldl_cons, ih, (frame.clock_eq (by decide)).1,
      spanPrepared_congr (frame.configuration_eq (by decide)) (frame.sections_eq (by decide)), testPrepared_getElem]
    by_cases prepared : s.spanPrepared j = true
    · by_cases here : k = j
      · simp only [prepared, here, List.mem_cons, true_or, and_self, if_true, and_true, Slot.committing_committing, ite_self]
      · simp only [prepared, here, Ne.symm here, List.mem_cons, false_or, and_true, if_false]
    · simp only [prepared, Bool.false_eq_true, and_false, if_false]

/-- The slots whose span holds the section may be listed from any state of the same configuration. -/
theorem sweepCommits_eq (i : Fin 10) {s v : State} (same : v.configuration = s.configuration) :
    sweepCommits i s = (allSlots.filter fun k => v.inSpan k i).foldl (fun t k => testPrepared k t) s := by
  unfold sweepCommits
  generalize allSlots = ks
  induction ks generalizing s with
  | nil => rfl
  | cons k ks ih =>
    rw [List.foldl_cons, inSpan_of_configuration same.symm k i]
    cases inside : v.inSpan k i with
    | true =>
      rw [List.filter_cons_of_pos (p := fun k => v.inSpan k i) inside, List.foldl_cons, if_pos rfl]
      exact ih (same.trans ((testPrepared_only k s).configuration_eq (by decide)).symm)
    | false =>
      rw [List.filter_cons_of_neg (p := fun k => v.inSpan k i) (by simp [inside]), if_neg (by simp)]
      exact ih same

theorem commit_eq (r : TrainRecord) (cause : CommitCause) (time : Time) : r.commit cause time false = committedBy r cause time := by
  simp [TrainRecord.commit, committedBy]

/-- An uncommitted record whose span holds the section that a SWEEP has made PREPARED commits (R53). -/
theorem sweepCommits_record {i : Fin 10} {k : Fin 4} {x : TrainRecord} {s : State} (inside : s.inSpan k i = true)
    (prepared : s.sections[i].state = some .prepared) (holds : s.slots[k].record = some x) (pending : x.committed = false) :
    (sweepCommits i s).slots[k].record = some (committedBy x .prepared s.now) := by
  have mem : k ∈ allSlots.filter fun k => s.inSpan k i := List.mem_filter.2 ⟨mem_allSlots k, inside⟩
  rw [sweepCommits_eq i rfl, testPrepared_foldl_getElem, if_pos ⟨mem, spanPrepared_of_mem inside prepared⟩,
    Slot.committing_of_pending holds pending, commit_eq]

/-- A slot without an uncommitted record stands over commits (R55). -/
theorem Slot.Commits.eq_of_settled {x y : Slot} (h : x.Commits y) (settled : ∀ r, x.record = some r → r.committed = true) :
    y = x := by
  obtain rfl | ⟨r, _, _, _, holds, pending, -⟩ := h
  · rfl
  · exact absurd ((settled r holds).symm.trans pending) (by decide)

/-- A record committed with a cause stays so, or its slot is empty. -/
def GoneOrCommitted (r : TrainRecord) (y : Slot) : Prop := y.record = none ∨ y.record = some r

theorem GoneOrCommitted.commits {r : TrainRecord} {x y : Slot} (h : GoneOrCommitted r x) (done : r.committed = true)
    (commits : x.Commits y) : GoneOrCommitted r y := by
  have same : y = x := commits.eq_of_settled fun q holds => by
    rcases h with none_ | some_
    · exact absurd (none_.symm.trans holds) (by simp)
    · rw [← Option.some.inj (some_.symm.trans holds), done]
  rwa [same]

theorem endRecords_goneOrCommitted {r : TrainRecord} {k : Fin 4} {s : State} (h : GoneOrCommitted r s.slots[k])
    (changed : List (Fin 10)) : GoneOrCommitted r (endRecords changed s).slots[k] := by
  rw [endRecords_getElem]
  split
  · exact .inl rfl
  · exact h

/-! ### The Sequencer leaves OPEN (R66) -/

theorem leaveOpen_state (x : SeqState) (c : SeqCause) (l : LampCmd) (s : State) : (leaveOpen x c l s).seq.state = some x := by
  unfold leaveOpen seqGo
  dsimp only
  rw [(lampCommand_only _ _).seq_eq (by decide) (by decide), (abortTest_only _).seq_eq (by decide) (by decide),
    (emit_only _ _).seq_eq (by decide) (by decide)]
  rfl

theorem leaveOpen_closures (x : SeqState) (c : SeqCause) (l : LampCmd) (s : State) :
    (leaveOpen x c l s).counters[(12 : Fin 32)] = s.counters[(12 : Fin 32)].bumped := by
  have counted := emit_count_self 12 (s.setSeq fun q =>
    { q with closureStart := s.now, counted := true, longBin := false, longFlag := false })
  unfold leaveOpen
  dsimp only
  rw [(lampCommand_only _ _).counters_eq (by decide), (abortTest_only _).counters_eq (by decide), seqGo_counters]
  exact counted

theorem demand_of_committed {s : State} {k : Fin 4} {r : TrainRecord} (holds : s.slots[k].record = some r)
    (done : r.committed = true) : s.demand = true := by
  have some_ : (allSlots.any fun k => s.slots[k].demands) = true :=
    List.any_eq_true.2 ⟨k, mem_allSlots k, by unfold Slot.demands; rw [holds]; exact done⟩
  unfold State.demand
  rw [some_]
  rfl

theorem takeDemand_leavesOpen {s : State} (road : s.seq.state = some .roadOpen) (demand : s.demand = true) :
    takeDemand s = leaveOpen .amber .demand .amber s := by
  unfold takeDemand
  rw [road]
  exact if_pos demand

theorem takeDemand_in_amber {s : State} (amber : s.seq.state = some .amber) : takeDemand s = s := by
  unfold takeDemand
  rw [amber]

end Sys2Proof.Machine
end

section
/-! PROOFS. Restores, by the host and by the signaller (R31 to R33, R53, R59, R64, R160 to R163). -/

namespace Sys2Proof.Machine

/-! ### The tests of a restore (R31) -/

theorem restoreMode_zero : restoreMode 0 = some .direct := rfl

theorem restoreMode_of_ge {m : Nat} (h : 2 ≤ m) : restoreMode m = none := by
  obtain ⟨n, rfl⟩ := Nat.exists_eq_add_of_le' h
  rfl

theorem restoreTest_of_range {n m : Nat} (s : State) (h : 10 ≤ n ∨ 2 ≤ m) : s.restoreTest n m = .outOfRange := by
  unfold State.restoreTest
  split
  · next low =>
    rw [restoreMode_of_ge (h.resolve_left (Nat.not_le.2 low))]
  · rfl

theorem pointsQuiet_iff (s : State) (i : Fin 10) :
    s.pointsQuiet i = true ↔ ∀ p : Fin 12, p = s.sections[i].aEnd ∨ p = s.sections[i].bEnd →
      s.points[p].seq = .idle ∧ s.points[p].quietMark = true := by
  simp only [State.pointsQuiet, Point.still, Bool.and_eq_true, beq_iff_eq, forall_eq_or_imp, forall_eq]

/-- The tests of a restore whose section and mode exist, in order (R31, R32). -/
theorem restoreTest_of_lt (s : State) (i : Fin 10) {m : Nat} (low : m < 2) :
    s.restoreTest i.val m =
      if s.sections[i].track = none then .outOfRange
      else if s.sections[i].state ≠ some .disturbed then .notDisturbed
      else if m = 0 ∧ ¬(∀ p : Fin 12, p = s.sections[i].aEnd ∨ p = s.sections[i].bEnd →
          s.points[p].seq = .idle ∧ s.points[p].quietMark = true) then .pointsActive
      else .ok := by
  have used : (!s.sections[i].inUse) = true ↔ s.sections[i].track = none := by
    rw [Bool.not_eq_true', ← Bool.not_eq_true, inUse_iff, not_not]
  have tested : ∀ mode, restoreMode m = some mode → (mode = .direct ↔ m = 0) := fun mode e => by
    match m, low with
    | 0, _ => cases e; simp
    | 1, _ => cases e; simp
  obtain ⟨mode, named⟩ : ∃ mode, restoreMode m = some mode := by
    match m, low with
    | 0, _ => exact ⟨_, rfl⟩
    | 1, _ => exact ⟨_, rfl⟩
  unfold State.restoreTest
  rw [dif_pos i.isLt, named]
  simp only [used, tested mode named, Bool.not_eq_true', ← Bool.not_eq_true, pointsQuiet_iff]

theorem restoreTest_ok_range {s : State} {n m : Nat} (ok : s.restoreTest n m = .ok) : n < 10 ∧ m < 2 := by
  by_contra out
  have range : 10 ≤ n ∨ 2 ≤ m := by omega
  exact absurd ((restoreTest_of_range s range).symm.trans ok) (by decide)

theorem restoreTest_congr {s t : State} (sections : t.sections = s.sections) (points : t.points = s.points) (n m : Nat) :
    t.restoreTest n m = s.restoreTest n m := by
  by_cases range : 10 ≤ n ∨ 2 ≤ m
  · rw [restoreTest_of_range t range, restoreTest_of_range s range]
  · obtain ⟨low, two⟩ := not_or.1 range
    have tested := fun u => restoreTest_of_lt u ⟨n, Nat.not_le.1 low⟩ (Nat.not_le.1 two)
    have same := tested t
    rw [sections, points] at same
    exact same.trans (tested s).symm

/-! ### The section restored (R32, R33) -/

/-- The section as an accepted restore leaves it. -/
def Sect.afterRestore (c : Sect) (mode : RestoreMode) : Sect :=
  { c with state := some (if mode = .direct then .clear else .prepared), count := 0, sweep := false }

/-- The section restored and its SECTION record written (R30). -/
def sectionRestored (i : Fin 10) (mode : RestoreMode) (s : State) : State :=
  applyEffects [⟨i, s.sections[i], s.sections[i].restored mode⟩] none s

theorem restored_new (c : Sect) (mode : RestoreMode) : (c.restored mode).new = c.afterRestore mode := by cases mode <;> rfl

/-- The SECTION record of a restore, as the statement gives it (R30). -/
def restoreRow (i : Fin 10) (mode : RestoreMode) (s : State) : List Byte :=
  sectionRow s.sections[i] (s.sections[i].afterRestore mode) (if mode = .direct then .direct else .sweep) none

theorem sectionRestored_eq (i : Fin 10) (mode : RestoreMode) (s : State) :
    sectionRestored i mode s =
      emit (sectionLogs [(i.val, restoreRow i mode s)]) (s.setSect i fun _ => s.sections[i].afterRestore mode) := by
  cases mode <;> rfl

theorem sectionRestored_only (i : Fin 10) (mode : RestoreMode) (s : State) :
    Only [.sections, .log, .notices] s (sectionRestored i mode s) := by
  have keeps : (s.sections[i].afterRestore mode).settings = s.sections[i].settings := by
    rw [← restored_new]
    exact Sect.restored_settings _ mode
  rw [sectionRestored_eq]
  exact (setSect_only s i (fun _ => s.sections[i].afterRestore mode) keeps).seq (emit_sectionLogs_only _ _) (by decide)
    (by decide)

theorem sectionRestored_sections (i : Fin 10) (mode : RestoreMode) (s : State) :
    (sectionRestored i mode s).sections = s.sections.set i (s.sections[i].afterRestore mode) := by
  rw [sectionRestored_eq, (emit_sectionLogs_only _ _).sections_eq (by decide)]
  rfl

theorem sectionRestored_getElem (i : Fin 10) (mode : RestoreMode) (s : State) (j : Fin 10) :
    (sectionRestored i mode s).sections[j] = if i = j then s.sections[i].afterRestore mode else s.sections[j] := by
  rw [sectionRestored_eq, (emit_sectionLogs_only _ _).sections_eq (by decide), setSect_getElem]

theorem sectionRestored_memory (i : Fin 10) (mode : RestoreMode) {s : State} (run : s.part = .run) :
    (sectionRestored i mode s).memory = s.memory.append s.now .sectionState i.val (restoreRow i mode s) := by
  rw [sectionRestored_eq, emit_sectionLogs_memory _ (s := s.setSect i fun _ => s.sections[i].afterRestore mode) run]
  rfl

/-! ### The effect of an accepted restore -/

/-- The section restored, and the end of SECTION_DISTURBED reported (R32, R33). -/
def disturbanceEnded (i : Fin 10) (mode : RestoreMode) (s : State) : State :=
  endCondition .sectionDisturbed i.val (sectionRestored i mode s)

theorem carryOutRestore_direct (i : Fin 10) (s : State) :
    carryOutRestore i .direct s = endRecords [i] (disturbanceEnded i .direct s) := rfl

theorem carryOutRestore_sweep (i : Fin 10) (s : State) :
    carryOutRestore i .sweep s = endRecords [i] (takeDemand (sweepCommits i (disturbanceEnded i .sweep s))) := rfl

theorem disturbanceEnded_only (i : Fin 10) (mode : RestoreMode) (s : State) :
    Only ([.sections, .faults] ++ recordBlocks) s (disturbanceEnded i mode s) :=
  (sectionRestored_only i mode s).seq (endCondition_only _ _ _) (by decide) (by decide)

theorem disturbanceEnded_getElem (i : Fin 10) (mode : RestoreMode) (s : State) (j : Fin 10) :
    (disturbanceEnded i mode s).sections[j] = if i = j then s.sections[i].afterRestore mode else s.sections[j] := by
  rw [disturbanceEnded, (endCondition_only _ _ _).sections_eq (by decide), sectionRestored_getElem]

/-- An accepted restore brings what the statement lists, in its order. -/
theorem carryOutRestore_restored (i : Fin 10) (mode : RestoreMode) {s : State} (run : s.part = .run) :
    Restored i (decide (mode = .direct)) s (carryOutRestore i mode s) := by
  cases mode with
  | direct =>
    exact ⟨sectionRestored i .direct s, sectionRestored_sections i .direct s, sectionRestored_memory i .direct run,
      sectionRestored_only i .direct s, carryOutRestore_direct i s⟩
  | sweep =>
    refine ⟨sectionRestored i .sweep s, sectionRestored_sections i .sweep s, sectionRestored_memory i .sweep run,
      sectionRestored_only i .sweep s, ?_⟩
    have commits := sweepCommits_eq i (s := disturbanceEnded i .sweep s) (v := sectionRestored i .sweep s)
      ((endCondition_only _ _ _).configuration_eq (by decide)).symm
    rw [carryOutRestore_sweep, commits]
    rfl

theorem carryOutRestore_getElem (i : Fin 10) (mode : RestoreMode) (s : State) (j : Fin 10) :
    (carryOutRestore i mode s).sections[j] = if i = j then s.sections[i].afterRestore mode else s.sections[j] := by
  rw [← disturbanceEnded_getElem]
  cases mode with
  | direct => rw [carryOutRestore_direct, (endRecords_blocks _ _).sections_eq (by decide)]
  | sweep =>
    rw [carryOutRestore_sweep, (endRecords_blocks _ _).sections_eq (by decide), (takeDemand_only _).sections_eq (by decide),
      (sweepCommits_only _ _).sections_eq (by decide)]

theorem carryOutRestore_confirm (i : Fin 10) (mode : RestoreMode) (s : State) : ConfirmKept s (carryOutRestore i mode s) := by
  have ended : ConfirmKept s (disturbanceEnded i mode s) :=
    ConfirmKept.trans (.of_only (sectionRestored_only i mode s) (by decide)) (endCondition_confirm _ _ _)
  have ends := fun t => ConfirmKept.of_only (endRecords_blocks [i] t) (by decide)
  cases mode with
  | direct => exact ended.trans (ends _)
  | sweep => exact ((ended.trans (sweepCommits_confirm i _)).trans (takeDemand_confirm _)).trans (ends _)

theorem endCondition_faults_congr {s t : State} (k : FaultKind) (o : Nat) (faults : t.faults = s.faults) (now : t.now = s.now) :
    (endCondition k o t).faults = (endCondition k o s).faults := by
  unfold endCondition
  rw [deriveMode_faults, deriveMode_faults, applyFault_faults, applyFault_faults, faults, now]

theorem carryOutRestore_direct_faults (i : Fin 10) (s : State) :
    (carryOutRestore i .direct s).faults = (endCondition .sectionDisturbed i.val s).faults := by
  have frame := sectionRestored_only i .direct s
  rw [carryOutRestore_direct, (endRecords_blocks _ _).faults_eq (by decide)]
  exact endCondition_faults_congr _ _ (frame.faults_eq (by decide)) (frame.clock_eq (by decide)).1

section
variable {i : Fin 10} {k : Fin 4} {x : TrainRecord} {s : State} (inside : s.inSpan k i = true)
  (holds : s.slots[k].record = some x) (pending : x.committed = false)
include inside holds pending

/-- A SWEEP commits an uncommitted record whose span holds the section (R53). -/
theorem sweep_commits_record :
    (sweepCommits i (disturbanceEnded i .sweep s)).slots[k].record = some (committedBy x .prepared s.now) := by
  have frame := disturbanceEnded_only i .sweep s
  have prepared : (disturbanceEnded i .sweep s).sections[i].state = some .prepared := by
    rw [disturbanceEnded_getElem, if_pos rfl]
    rfl
  rw [← (frame.clock_eq (by decide)).1]
  refine sweepCommits_record ?_ prepared ?_ pending
  · rw [inSpan_of_configuration (frame.configuration_eq (by decide)), inside]
  · rw [frame.slots_eq (by decide), holds]

theorem carryOutRestore_sweep_record :
    GoneOrCommitted (committedBy x .prepared s.now) (carryOutRestore i .sweep s).slots[k] := by
  rw [carryOutRestore_sweep]
  refine endRecords_goneOrCommitted ?_ _
  have committed : GoneOrCommitted (committedBy x .prepared s.now) (sweepCommits i (disturbanceEnded i .sweep s)).slots[k] :=
    .inr (sweep_commits_record inside holds pending)
  exact committed.commits rfl (takeDemand_commits _ k)

/-- With the road open, the demand of a SWEEP's commit closes it, and the closure is counted (R64, R66). -/
theorem carryOutRestore_closes (road : s.seq.state = some .roadOpen) :
    (carryOutRestore i .sweep s).seq.state = some .amber ∧
      (carryOutRestore i .sweep s).counters[(12 : Fin 32)] = s.counters[(12 : Fin 32)].bumped := by
  have ended := disturbanceEnded_only i .sweep s
  have commits := sweepCommits_only i (disturbanceEnded i .sweep s)
  have open_ : (sweepCommits i (disturbanceEnded i .sweep s)).seq.state = some .roadOpen := by
    rw [commits.seq_eq (by decide) (by decide), ended.seq_eq (by decide) (by decide), road]
  have closes := takeDemand_leavesOpen open_ (demand_of_committed (sweep_commits_record inside holds pending) rfl)
  have count : CountKept 12 s (sweepCommits i (disturbanceEnded i .sweep s)) :=
    ((CountKept.of_only (sectionRestored_only i .sweep s) (by decide)).trans (.of_eq (endCondition_counters _ _ _))).trans
      (.foldl (fun s k => .ite (.of_eq (testPrepared_counters k s)) (.refl 12 s)) _ _)
  have ends := endRecords_kept (i := 12) (by decide) (by decide) [i]
    (leaveOpen .amber .demand .amber (sweepCommits i (disturbanceEnded i .sweep s)))
  rw [carryOutRestore_sweep, closes]
  refine ⟨?_, ?_⟩
  · rw [(endRecords_blocks _ _).seq_eq (by decide) (by decide), leaveOpen_state]
  · rw [ends, leaveOpen_closures, count]

end

/-! ### A restore whole (R31) -/

theorem restore_accepted {s : State} {i : Fin 10} {m : Nat} {mode : RestoreMode} (ok : s.restoreTest i.val m = .ok)
    (named : restoreMode m = some mode) : restore i.val m s = (.ok, carryOutRestore i mode s) := by
  unfold restore
  simp only [ok, i.isLt, dite_true, named]

theorem restore_refused {s : State} {n m : Nat} (refused : s.restoreTest n m ≠ .ok) :
    restore n m s = (s.restoreTest n m, s) := by
  unfold restore
  split
  · next ok => exact absurd ok refused
  · rfl

/-- An accepted restore names a section and a mode. -/
theorem restore_ok_cases {s : State} {n m : Nat} (ok : s.restoreTest n m = .ok) :
    ∃ (i : Fin 10) (mode : RestoreMode), i.val = n ∧ (mode = .direct ↔ m = 0) ∧
      restore n m s = (.ok, carryOutRestore i mode s) := by
  obtain ⟨low, two⟩ := restoreTest_ok_range ok
  match m, two with
  | 0, _ => exact ⟨⟨n, low⟩, .direct, rfl, by simp, restore_accepted (i := ⟨n, low⟩) ok rfl⟩
  | 1, _ => exact ⟨⟨n, low⟩, .sweep, rfl, by simp, restore_accepted (i := ⟨n, low⟩) ok rfl⟩

theorem restore_result (n m : Nat) (s : State) : (restore n m s).1 = s.restoreTest n m := by
  by_cases ok : s.restoreTest n m = .ok
  · obtain ⟨_, _, -, -, restored⟩ := restore_ok_cases ok
    rw [restored, ok]
  · rw [restore_refused ok]

theorem restore_getElem (n m : Nat) (s : State) (i : Fin 10) :
    (restore n m s).2.sections[i] =
      if s.restoreTest n m = .ok ∧ i.val = n then
        { s.sections[i] with state := some (if m = 0 then .clear else .prepared), count := 0, sweep := false }
      else s.sections[i] := by
  by_cases ok : s.restoreTest n m = .ok
  · obtain ⟨j, mode, rfl, direct, restored⟩ := restore_ok_cases ok
    rw [restored, carryOutRestore_getElem]
    by_cases same : j = i
    · subst same
      rw [if_pos rfl, if_pos ⟨ok, rfl⟩, Sect.afterRestore]
      simp only [direct]
    · rw [if_neg same, if_neg fun h => same (Fin.ext h.2).symm]
  · rw [restore_refused ok, if_neg fun h => ok h.1]

theorem restore_confirm (n m : Nat) (s : State) : ConfirmKept s (restore n m s).2 := by
  by_cases ok : s.restoreTest n m = .ok
  · obtain ⟨_, _, -, -, restored⟩ := restore_ok_cases ok
    rw [restored]
    exact carryOutRestore_confirm _ _ _
  · rw [restore_refused ok]
    exact .refl s

/-- An accepted SWEEP commits an uncommitted record whose span holds the section, or the record has ended (R53, R59). -/
theorem restore_record {n m : Nat} {s : State} (ok : s.restoreTest n m = .ok) (sweep : m ≠ 0) {i : Fin 10} (named : i.val = n)
    {k : Fin 4} (inside : s.inSpan k i = true) {x : TrainRecord} (holds : s.slots[k].record = some x)
    (pending : x.committed = false) : GoneOrCommitted (committedBy x .prepared s.now) (restore n m s).2.slots[k] := by
  obtain ⟨j, mode, place, direct, restored⟩ := restore_ok_cases ok
  obtain rfl : j = i := Fin.ext (place.trans named.symm)
  obtain rfl : mode = .sweep := by
    cases mode with
    | direct => exact absurd (direct.1 rfl) sweep
    | sweep => rfl
  have accepted : (restore n m s).2 = carryOutRestore j .sweep s := by rw [restored]
  rw [accepted]
  exact carryOutRestore_sweep_record inside holds pending

/-! ### The host's restore (11.4) -/

theorem restoreMode_eq_direct_iff (m : Nat) : restoreMode m = some .direct ↔ m = 0 := by
  match m with
  | 0 => simp [restoreMode]
  | 1 => simp [restoreMode]
  | m + 2 => simp [restoreMode]

theorem hostRestoreRequest_other (n : Nat) {m : Nat} (other : m ≠ 0) (s : State) : hostRestoreRequest n m s = restore n m s := by
  unfold hostRestoreRequest
  rw [if_neg (mt (restoreMode_eq_direct_iff m).1 other)]

theorem hostRestoreRequest_only (n m : Nat) (s : State) :
    Only ([.sections, .passages, .free] ++ seqBlocks) s (hostRestoreRequest n m s).2 := by
  unfold hostRestoreRequest
  split
  · exact Only.refl _ _
  · exact restore_only n m s

theorem exec_hostRestore_eq (n m tag : Byte) {s : State} (run : s.part = .run) (free : HostFree s) :
    exec (.hostRestore tag [n, m]) s = .next (placeReply Request.restore.code tag
      (acted .restore [n, m] (hostRestoreRequest n.toNat m.toNat s.frameIn))) := by
  have row : exec (.hostRestore tag [n, m]) s = .next (takeFrame Request.restore.code tag [n, m] s) := rfl
  have bytes : ∀ b : Byte, byte b.toNat = b := fun b => by simp [byte]
  have taken := takeFrame_eq_placeReply (q := .restore) (tag := tag) (payload := [n, m]) free (by simp) rfl
    (by rw [run]; rfl)
  have served : serve .restore [n, m] s.frameIn =
      acted .restore [byte n.toNat, byte m.toNat] (hostRestoreRequest n.toNat m.toNat s.frameIn) := rfl
  rw [row, taken, served, bytes, bytes]

theorem acted_eq (q : Request) (items : List Byte) (r : Result) (u : State) :
    acted q items (r, u) = ⟨some [byte r.code], false, hostLog q r items (react u)⟩ := rfl

/-- A run-time action is answered with its result, after the Sequencer has taken its effect and its record is written. -/
theorem acted_effect {q : Request} {tag : Byte} {items : List Byte} {x : Result × State} {bs : List Block} {s : State}
    (frame : Only bs s.frameIn x.2) (off : .port ∉ bs) :
    Replied q.code tag [byte x.1.code] s (placeReply q.code tag (acted q items x)) ∧
      (placeReply q.code tag (acted q items x)).sections = x.2.sections ∧
      SlotsCommit x.2 (placeReply q.code tag (acted q items x)) ∧
      Only (.port :: (bs ++ reactBlocks)) s (placeReply q.code tag (acted q items x)) := by
  have logged : Only reactBlocks x.2 (hostLog q x.1 items (react x.2)) :=
    (react_only x.2).trans ((emit_only _ _).mono (by decide))
  have whole : Only (bs ++ reactBlocks) s.frameIn (hostLog q x.1 items (react x.2)) :=
    frame.seq logged (by simp +contextual) (by simp +contextual)
  have placed : placeReply q.code tag (acted q items x) =
      (hostLog q x.1 items (react x.2)).replied q.code tag [byte x.1.code] := rfl
  have ports : (hostLog q x.1 items (react x.2)).host.ports = s.frameIn.host.ports :=
    whole .port (by rw [List.mem_append, not_or]; exact ⟨off, by decide⟩)
  simp only [HostPort.ports, HostPort.mk.injEq] at ports
  obtain ⟨-, -, -, collided, tx, -, -, warm⟩ := ports
  rw [placed]
  refine ⟨⟨rfl, collided, tx, warm⟩, logged.sections_eq (by decide), ?_, ?_⟩
  · have written : Only recordBlocks (react x.2) (hostLog q x.1 items (react x.2)) := emit_only _ _
    exact ((react_commits x.2).trans (.of_only written (by decide))).trans (.of_only (replied_only _ _ _ _) (by decide))
  · exact ((frameIn_only s).mono (by simp)).trans ((whole.mono (by simp +contextual)).trans
      ((replied_only _ _ _ _).mono (by simp)))

/-! ### The signaller's restore (R146, R160 to R163) -/

/-- The state in which the Report Scheduler takes a frame: the line taken, the waits at base, the frame counted (R146). -/
def frameTaken (s : State) : State := emit [.count cntLineGood] ((takeLine .idle [] s).setLine LineController.waitsToBase)

theorem frameTaken_only (s : State) : Only [.line, .counters, .notices] s (frameTaken s) :=
  ((takeLine_only .idle [] s).trans (setLine_only _ LineController.waitsToBase rfl rfl)).seq (emit_count_only _ _) (by decide)
    (by decide)

/-- A frame from the signal box that addresses the part, other than a BEACON, reaches the Report Scheduler (R143 to R146). -/
theorem receiveFrame_fromBox {h : LineHead} {addr : Addressing} {kind : Byte} {payload : List Byte} {s : State}
    (ready : LineReady s) (active : s.line.link = .active) (box : FromBox s h addr) (other : kind ≠ kindBeacon)
    (fits : payload.length ≤ 24) :
    receiveFrame h kind payload s = react (takeCommand 0 kind addr payload (frameTaken s)) := by
  obtain ⟨run, idle, none_⟩ := ready
  obtain ⟨source, own, addressed⟩ := box
  have canReceive : (s.canReceive && s.line.rx == .idle) = true := by
    simp [State.canReceive, LineController.silent, run, idle, none_]
  have notOwn : (takeLine .idle [] s).line.own ≠ some h.src := by rw [source]; exact own
  have addressing : ((takeLine .idle [] s).setLine LineController.waitsToBase).line.addressing h.dest = some addr := addressed
  have link : (frameTaken s).line.link = .active := by
    rw [frameTaken, (emit_count_only _ _).line_eq (by decide) (by decide)]
    exact active
  have taken : addressedFrame h kind addr payload ((takeLine .idle [] s).setLine LineController.waitsToBase) =
      takeCommand h.src kind addr payload (frameTaken s) := by
    unfold addressedFrame
    exact (if_neg other).trans (if_pos link)
  unfold receiveFrame completeFrame
  rw [if_neg (Nat.not_lt.2 fits), if_pos canReceive, if_neg notOwn]
  dsimp only
  rw [addressing]
  dsimp only
  rw [taken, source]

/-- The record and the confirmation of a signaller's command (R160, R163). -/
def commandReported (kind : Byte) (addr : Addressing) (r : Result) (payload : List Byte) (s : State) : State :=
  match addr with
  | .own => fillConfirm kind r (sigLog 0 kind addr (some r) payload s)
  | _ => sigLog 0 kind addr (some r) payload s

theorem takeCommand_restore (addr : Addressing) (n m : Byte) (s : State) :
    takeCommand 0 kindRestore addr [n, m] s =
      commandReported kindRestore addr (restore n.toNat m.toNat s).1 [n, m] (restore n.toNat m.toNat s).2 := by
  cases addr <;> exact if_pos rfl

theorem sigLog_blocks (kind : Byte) (addr : Addressing) (r : Option Result) (payload : List Byte) (s : State) :
    Only [.log, .notices] s (sigLog 0 kind addr r payload s) := writeLog_only _ _ _ s

theorem commandReported_only (kind : Byte) (addr : Addressing) (r : Result) (payload : List Byte) (s : State) :
    Only [.log, .notices, .reports] s (commandReported kind addr r payload s) := by
  have logged := sigLog_blocks kind addr (some r) payload s
  cases addr with
  | own => exact logged.seq (fillConfirm_only kind r _) (by decide) (by decide)
  | group => exact logged.mono (by decide)
  | broadcast => exact logged.mono (by decide)

theorem commandReported_memory (kind : Byte) (addr : Addressing) (r : Result) (payload : List Byte) {s : State}
    (run : s.part = .run) :
    (commandReported kind addr r payload s).memory =
      s.memory.append s.now .sigCmd 0 ([kind, byte addr.code, byte r.code, 0] ++ payload.take 4) := by
  have logged : (sigLog 0 kind addr (some r) payload s).memory =
      s.memory.append s.now .sigCmd 0 ([kind, byte addr.code, byte r.code, 0] ++ payload.take 4) := writeLog_memory run _ _ _
  cases addr <;> exact logged

theorem commandReported_confirm (kind : Byte) (addr : Addressing) (r : Result) (payload : List Byte) (s : State) :
    (commandReported kind addr r payload s).reports.confirm = confirmOf s addr kind r := by
  have logged := (sigLog_blocks kind addr (some r) payload s).reports_eq (by decide)
  cases addr with
  | own => rfl
  | group => exact congrArg ReportScheduler.confirm logged
  | broadcast => exact congrArg ReportScheduler.confirm logged

section
variable {h : LineHead} {addr : Addressing} {s : State} (ready : LineReady s) (active : s.line.link = .active)
  (box : FromBox s h addr)
include ready active box

theorem exec_sigRestore_eq (n m : Byte) :
    exec (.sigRestore h [n, m]) s = .next (react (commandReported kindRestore addr
      (restore n.toNat m.toNat (frameTaken s)).1 [n, m] (restore n.toNat m.toNat (frameTaken s)).2)) := by
  have row : exec (.sigRestore h [n, m]) s = .next (receiveFrame h kindRestore [n, m] s) := rfl
  rw [row, receiveFrame_fromBox ready active box (by decide) (by simp), takeCommand_restore]

omit ready active box in
theorem frameTaken_restoreTest (n m : Nat) (s : State) : (frameTaken s).restoreTest n m = s.restoreTest n m :=
  restoreTest_congr ((frameTaken_only s).sections_eq (by decide)) ((frameTaken_only s).points_eq (by decide)) n m

/-- A signaller's restore is confirmed with its test's result, restores the section and commits the records (R53, R163). -/
theorem exec_sigRestore_effect (n m : Byte) :
    ∃ t, exec (.sigRestore h [n, m]) s = .next t ∧
      t.reports.confirm = confirmOf s addr kindRestore (s.restoreTest n.toNat m.toNat) ∧
      t.sections = (restore n.toNat m.toNat (frameTaken s)).2.sections ∧
      SlotsCommit (restore n.toNat m.toNat (frameTaken s)).2 t ∧ Only ([.sections, .passages, .free] ++ reactBlocks) s t := by
  have restored := restore_only n.toNat m.toNat (frameTaken s)
  have reported := commandReported_only kindRestore addr (restore n.toNat m.toNat (frameTaken s)).1 [n, m]
    (restore n.toNat m.toNat (frameTaken s)).2
  have reacted := react_only (commandReported kindRestore addr (restore n.toNat m.toNat (frameTaken s)).1 [n, m]
    (restore n.toNat m.toNat (frameTaken s)).2)
  refine ⟨_, exec_sigRestore_eq ready active box n m, ?_, ?_, ?_, ?_⟩
  · have kept : ConfirmKept s (restore n.toNat m.toNat (frameTaken s)).2 :=
      ConfirmKept.trans (.of_only (frameTaken_only s) (by decide)) (restore_confirm _ _ _)
    rw [react_confirm, commandReported_confirm, restore_result, frameTaken_restoreTest, confirmOf, confirmOf, kept]
  · rw [reacted.sections_eq (by decide), reported.sections_eq (by decide)]
  · exact (SlotsCommit.of_only reported (by decide)).trans (react_commits _)
  · exact (((frameTaken_only s).mono (by decide)).trans (restored.mono (by decide))).trans
      ((reported.mono (by decide)).trans (reacted.mono (by decide)))

end

theorem toNat_byte_fin (i : Fin 10) : (byte i.val).toNat = i.val := by
  rw [byte_toNat]
  omega

theorem byte_zero_iff (m : Byte) : m = 0 ↔ m.toNat = 0 := by
  rw [← BitVec.toNat_inj]
  rfl

/-- An accepted restore of the signaller, in its parts (R30, R32, R33, R160). -/
theorem exec_sigRestore_accepted {i : Fin 10} {m : Nat} {mode : RestoreMode} {h : LineHead} {addr : Addressing} {s : State}
    (ready : LineReady s) (active : s.line.link = .active) (box : FromBox s h addr) (named : restoreMode m = some mode)
    (low : m < 2) (ok : s.restoreTest i.val m = .ok) :
    exec (.sigRestore h [byte i.val, byte m]) s = .next (react (commandReported kindRestore addr .ok [byte i.val, byte m]
      (carryOutRestore i mode (frameTaken s)))) := by
  have mByte : (byte m).toNat = m := by rw [byte_toNat]; omega
  have accepted := restore_accepted ((frameTaken_restoreTest i.val m s).trans ok) named
  rw [exec_sigRestore_eq ready active box, toNat_byte_fin, mByte, accepted]

/-! ### The clauses of the statement -/

/-- The host's restore: its reply, the sections, the records of a SWEEP (R31, R53). -/
theorem hostRestore_effect (n m tag : Byte) {s : State} (run : s.part = .run) (free : HostFree s) :
    ∃ t r, exec (.hostRestore tag [n, m]) s = .next t ∧ Replied 0x32 tag [byte r.code] s t ∧
      (m = 0 → r = .outOfRange) ∧ (m ≠ 0 → r = s.restoreTest n.toNat m.toNat) ∧
      (∀ i : Fin 10, t.sections[i] =
        if r = .ok ∧ i.val = n.toNat then { s.sections[i] with state := some .prepared, count := 0, sweep := false }
        else s.sections[i]) ∧
      (r = .ok → ∀ (i : Fin 10) (k : Fin 4) (x : TrainRecord), i.val = n.toNat → s.inSpan k i = true →
        s.slots[k].record = some x → x.committed = false → GoneOrCommitted (committedBy x .prepared s.now) t.slots[k]) ∧
      Only ([.sections, .passages, .port, .free] ++ reactBlocks) s t := by
  obtain ⟨replied, sections, commits, frame⟩ := acted_effect (q := .restore) (tag := tag) (items := [n, m])
    (hostRestoreRequest_only n.toNat m.toNat s.frameIn) (by decide)
  have steps := exec_hostRestore_eq n m tag run free
  have blocks := frame.mono (bs := [.sections, .passages, .port, .free] ++ reactBlocks) (by decide)
  by_cases direct : m = 0
  · subst direct
    exact ⟨_, .outOfRange, steps, replied, fun _ => rfl, fun h => absurd rfl h, fun i => by rw [sections]; rfl,
      fun h => absurd h (by decide), blocks⟩
  · have sweep : m.toNat ≠ 0 := mt (byte_zero_iff m).2 direct
    have request := hostRestoreRequest_other n.toNat sweep s.frameIn
    have result : (hostRestoreRequest n.toNat m.toNat s.frameIn).1 = s.restoreTest n.toNat m.toNat := by
      rw [request, restore_result]
      rfl
    rw [result] at replied
    refine ⟨_, s.restoreTest n.toNat m.toNat, steps, replied, fun h => absurd h direct, fun _ => rfl, fun i => ?_,
      fun ok i k x named inside holds pending => ?_, blocks⟩
    · rw [sections, request, restore_getElem, if_neg sweep]
      rfl
    · have record := restore_record (s := s.frameIn) ok sweep named inside holds pending
      rw [← request] at record
      exact record.commits rfl (commits k)

/-- The host's SWEEP in its parts. -/
theorem hostRestore_accepted (i : Fin 10) (tag : Byte) {s : State} (run : s.part = .run) (free : HostFree s)
    (ok : s.restoreTest i.val 1 = .ok) :
    ∃ w u, ActedReply (.hostRestore tag [byte i.val, 1]) .restore tag .ok s u ∧ Restored i false w u ∧ Only [.port] s w := by
  have accepted : restore (byte i.val).toNat 1 s.frameIn = (.ok, carryOutRestore i .sweep s.frameIn) := by
    rw [toNat_byte_fin]
    exact restore_accepted ok rfl
  have requested : hostRestoreRequest (byte i.val).toNat (1 : Byte).toNat s.frameIn =
      (.ok, carryOutRestore i .sweep s.frameIn) := (hostRestoreRequest_other _ (by decide) _).trans accepted
  refine ⟨s.frameIn, carryOutRestore i .sweep s.frameIn, ⟨[byte i.val, 1], ?_⟩, carryOutRestore_restored i .sweep run,
    frameIn_only s⟩
  rw [exec_hostRestore_eq (byte i.val) 1 tag run free, requested, acted_eq]

section
variable {h : LineHead} {addr : Addressing} {s : State} (ready : LineReady s) (active : s.line.link = .active)
  (box : FromBox s h addr)

/-- A span and a slot of it, as the frame that brings the restore leaves them. -/
theorem frameTaken_span {i : Fin 10} {k : Fin 4} {x : TrainRecord} (inside : s.inSpan k i = true)
    (holds : s.slots[k].record = some x) :
    (frameTaken s).inSpan k i = true ∧ (frameTaken s).slots[k].record = some x := by
  have taken := frameTaken_only s
  rw [inSpan_of_configuration (taken.configuration_eq (by decide)), taken.slots_eq (by decide)]
  exact ⟨inside, holds⟩

include ready active box

/-- The signaller's restore: its confirmation, the sections, the records of a SWEEP (R31, R53, R163). -/
theorem sigRestore_effect (n m : Byte) :
    ∃ t, exec (.sigRestore h [n, m]) s = .next t ∧
      t.reports.confirm = confirmOf s addr 0x04 (s.restoreTest n.toNat m.toNat) ∧
      (∀ i : Fin 10, t.sections[i] =
        if s.restoreTest n.toNat m.toNat = .ok ∧ i.val = n.toNat then
          { s.sections[i] with state := some (if m = 0 then .clear else .prepared), count := 0, sweep := false }
        else s.sections[i]) ∧
      (s.restoreTest n.toNat m.toNat = .ok → m ≠ 0 → ∀ (i : Fin 10) (k : Fin 4) (x : TrainRecord), i.val = n.toNat →
        s.inSpan k i = true → s.slots[k].record = some x → x.committed = false →
        GoneOrCommitted (committedBy x .prepared s.now) t.slots[k]) ∧
      Only ([.sections, .passages, .free] ++ reactBlocks) s t := by
  obtain ⟨t, steps, confirm, sections, commits, frame⟩ := exec_sigRestore_effect ready active box n m
  have taken := frameTaken_only s
  refine ⟨t, steps, confirm, fun i => ?_, fun ok sweep i k x named inside holds pending => ?_, frame⟩
  · rw [sections, restore_getElem, frameTaken_restoreTest, taken.sections_eq (by decide)]
    simp only [byte_zero_iff]
  · obtain ⟨inside', holds'⟩ := frameTaken_span inside holds
    have record := restore_record ((frameTaken_restoreTest _ _ s).trans ok) (mt (byte_zero_iff m).2 sweep) named inside'
      holds' pending
    rw [(taken.clock_eq (by decide)).1] at record
    exact record.commits rfl (commits k)

/-- An accepted restore of the signaller in its parts (R30, R32, R33, R160). -/
theorem sigRestore_accepted {i : Fin 10} {m : Nat} (low : m < 2) (ok : s.restoreTest i.val m = .ok) :
    ∃ w v u, exec (.sigRestore h [byte i.val, byte m]) s = .next (react u) ∧ Only [.line, .counters, .notices] s w ∧
      Restored i (decide (m = 0)) w v ∧ Wrote .sigCmd 0 [0x04, byte addr.code, 0, 0, byte i.val, byte m] v u ∧
      (m = 0 → u.faults = (endCondition .sectionDisturbed i.val s).faults) ∧ Only [.log, .notices, .reports] v u := by
  have taken := frameTaken_only s
  have run : (frameTaken s).part = .run := (taken.part_eq (by decide)).trans ready.1
  obtain ⟨mode, named, direct⟩ : ∃ mode, restoreMode m = some mode ∧ decide (mode = .direct) = decide (m = 0) := by
    match m, low with
    | 0, _ => exact ⟨.direct, rfl, rfl⟩
    | 1, _ => exact ⟨.sweep, rfl, rfl⟩
  have carried := carryOutRestore_only i mode (frameTaken s)
  have reported := commandReported_only kindRestore addr .ok [byte i.val, byte m] (carryOutRestore i mode (frameTaken s))
  refine ⟨frameTaken s, carryOutRestore i mode (frameTaken s), _,
    exec_sigRestore_accepted ready active box named low ok, taken, ?_, ?_, ?_, reported⟩
  · rw [← direct]
    exact carryOutRestore_restored i mode run
  · exact commandReported_memory _ _ _ _ ((carried.part_eq (by decide)).trans run)
  · rintro rfl
    obtain rfl := Option.some.inj (named.symm.trans restoreMode_zero)
    rw [reported.faults_eq (by decide), carryOutRestore_direct_faults]
    exact endCondition_faults_congr _ _ (taken.faults_eq (by decide)) (taken.clock_eq (by decide)).1

/-- A SWEEP of the signaller closes an open road by the commit it brings (R53, R64, R66). -/
theorem sigRestore_closes {i : Fin 10} {k : Fin 4} {x : TrainRecord} (ok : s.restoreTest i.val 1 = .ok)
    (inside : s.inSpan k i = true) (holds : s.slots[k].record = some x) (pending : x.committed = false)
    (road : s.seq.state = some .roadOpen) :
    ∃ t, exec (.sigRestore h [byte i.val, 1]) s = .next t ∧ t.seq.state = some .amber ∧
      t.counters[(12 : Fin 32)] = s.counters[(12 : Fin 32)].bumped := by
  have reported := commandReported_only kindRestore addr .ok [byte i.val, byte 1] (carryOutRestore i .sweep (frameTaken s))
  obtain ⟨inside', holds'⟩ := frameTaken_span inside holds
  obtain ⟨amber, counted⟩ := carryOutRestore_closes inside' holds' pending
    ((congrArg Sequencer.state ((frameTaken_only s).seq_eq (by decide) (by decide))).trans road)
  have stays : (commandReported kindRestore addr .ok [byte i.val, byte 1] (carryOutRestore i .sweep (frameTaken s))).seq.state =
      some .amber := (congrArg Sequencer.state (reported.seq_eq (by decide) (by decide))).trans amber
  have received : CountKept 12 s (frameTaken s) :=
    CountKept.trans (.of_only ((takeLine_only .idle [] s).trans (setLine_only _ LineController.waitsToBase rfl rfl))
      (by decide)) (emit_count_kept (by decide) _)
  refine ⟨_, exec_sigRestore_accepted (m := 1) ready active box rfl (by decide) ok, ?_, ?_⟩
  · rw [react, takeDemand_in_amber stays, (lineSettle_only _).seq_eq (by decide) (by decide), stays]
  · rw [react, takeDemand_in_amber stays, (lineSettle_only _).counters_eq (by decide), reported.counters_eq (by decide),
      counted, received]

end

/-- Settles O26: a host's and a signaller's restore reach `restore`, whose accepted outcome is `carryOutRestore` on the state
in which the frame was taken; the tests are restated from the model's. -/
theorem restoresClearOrPrepare : Obligations.RestoresClearOrPrepare := by
  unfold Obligations.RestoresClearOrPrepare
  exact ⟨fun n m tag s run free => hostRestore_effect n m tag run free,
    fun i tag s run free ok => hostRestore_accepted i tag run free ok,
    fun n m h addr s ready active box => sigRestore_effect ready active box n m,
    fun i m h addr s ready active box low ok => sigRestore_accepted ready active box low ok,
    fun i k h addr x s ready active box ok inside holds pending road =>
      sigRestore_closes ready active box ok inside holds pending road,
    fun n m s => ⟨restoreTest_of_range s, fun i named low => named ▸ restoreTest_of_lt s i low⟩⟩

end Sys2Proof.Machine
end

section
/-! PROOFS. CONFIG_TRACK (R40): the speed parameters of one slot. -/

namespace Sys2Proof.Machine

theorem setSlot_config_only (s : State) (k : Fin 4) (f : Slot → Slot) : Only [.slots, .config] s (s.setSlot k f) := by
  intro b hb; cases b <;> simp_all [Same]

theorem fieldTrack_byte {t : Nat} (h : t < 256) : fieldTrack (byte t) = trackOfCode t := by
  have e : (byte t).toNat = t := by rw [byte_toNat]; omega
  unfold fieldTrack
  rw [e]
  match t with
  | 0 | 1 | 2 => rfl
  | n + 3 => rfl

theorem fieldDir_byte {d : Nat} (h : d < 256) :
    fieldDir (byte d) = if d ≤ 1 then some (if d = 0 then .aToB else .bToA) else none := by
  have e : (byte d).toNat = d := by rw [byte_toNat]; omega
  unfold fieldDir fieldFlag
  rw [e]
  match d with
  | 0 | 1 => rfl
  | n + 2 => rw [if_neg (by omega)]; rfl

/-- The slot that CONFIG_TRACK names by a track's and a direction's code (3.1). -/
def slotOfCodes (t d : Nat) : Fin 4 := slotOf (if t = 1 then .one else .two) (if d = 0 then .aToB else .bToA)

theorem slotOfCodes_val {t d : Nat} (ht : t = 1 ∨ t = 2) (hd : d ≤ 1) : (slotOfCodes t d).val = 2 * (t - 1) + d := by
  obtain rfl | rfl : d = 0 ∨ d = 1 := by omega
  all_goals obtain rfl | rfl := ht <;> rfl

/-- CONFIG_TRACK's payload as its fields spell it. -/
theorem setTrackConfig_bytes {t d line floor acc : Nat} (s : State) (ht : t < 256) (hd : d < 256)
    (hl : line < 4294967296) (hf : floor < 4294967296) (ha : acc < 65536) :
    setTrackConfig ([byte t, byte d] ++ be32 line ++ be32 floor ++ be16 acc) s =
      if (t = 1 ∨ t = 2) ∧ d ≤ 1 ∧ 2000 ≤ line ∧ line ≤ 70000 ∧ 500 ≤ floor ∧ floor ≤ 70000 ∧ acc ≤ 1500 then
        some (s.setSlot (slotOfCodes t d) fun x => { x with vLine := line, vFloor := floor, accel := acc })
      else none := by
  simp only [be32, be16, List.cons_append, List.nil_append, setTrackConfig]
  rw [rd32_be32 _ hl, rd32_be32 _ hf, rd16_be16 _ ha, fieldTrack_byte ht, fieldDir_byte hd]
  by_cases track : t = 1 ∨ t = 2
  · by_cases dir : d ≤ 1
    · have code : trackOfCode t = some (if t = 1 then .one else .two) := by obtain rfl | rfl := track <;> rfl
      simp only [code, dir, track, if_true, within, Bool.and_eq_true, decide_eq_true_eq, true_and, and_assoc,
        Nat.zero_le, slotOfCodes]
    · refine Eq.trans ?_ (if_neg fun ok => dir ok.2.1).symm
      rw [if_neg dir]
      cases trackOfCode t <;> rfl
  · have unknown : trackOfCode t = none := by
      unfold trackOfCode
      rw [if_neg (mt Or.inl track), if_neg (mt Or.inr track)]
    refine Eq.trans ?_ (if_neg fun ok => track ok.1).symm
    rw [unknown]

/-- Settles O10: the five fields are read back and the speeds of the slot they name set together. -/
theorem configTrackSetsTheSlot : Obligations.ConfigTrackSetsTheSlot := by
  unfold Obligations.ConfigTrackSetsTheSlot
  intro t d line floor acc tag s ht hd hl hf ha config free
  have allowed : Request.configTrack.allowedIn s.part = true := by rw [config]; rfl
  have bytes := setTrackConfig_bytes s.frameIn ht hd hl hf ha
  dsimp only
  split
  · next ok =>
    rw [if_pos ok] at bytes
    refine ⟨_, accepts_of_serve (q := .configTrack) rfl free (by simp [be16, be32]) rfl allowed
      (congrArg (configured · s.frameIn) bytes) (setSlot_config_only _ _ _) (by decide), fun k => ?_⟩
    simp only [State.replied, State.frameIn, State.setHost_slots, State.setSlot_slots, Fin.getElem_fin,
      upd_getElem, slotOfCodes_val ok.1 ok.2.1, eq_comm]
  · next bad =>
    rw [if_neg bad] at bytes
    exact refuses_of_serve (q := .configTrack) rfl free (by simp [be16, be32]) rfl allowed
      (congrArg (configured · s.frameIn) bytes)

end Sys2Proof.Machine
end

section
/-! PROOFS. The arithmetic of a prediction (R46 to R49) and the arrangement of the slots it reads (R38). -/

namespace Sys2Proof.Machine

/-! ### The predicted interval by its bounds (R49) -/

/-- A train that does not accelerate runs at the speed used (R49). -/
theorem predictedMs_level {vUsed vLine a : Nat} (d : Nat) (level : a = 0 ∨ max vLine vUsed = vUsed) :
    predictedMs vUsed vLine a d = 1000 * d / vUsed := by
  unfold predictedMs
  exact if_pos (level.imp_right le_of_eq)

section
variable {vUsed vLine a d : Nat} (accelerates : 0 < a) (below : vUsed < max vLine vUsed)
include accelerates below

/-- Still accelerating at the island: T is the floor of the root of the motion's equation (R49). -/
theorem predictedMs_accelerating (reaches : vUsed * vUsed + 2 * a * d ≤ max vLine vUsed * max vLine vUsed) :
    (1000 * vUsed + a * predictedMs vUsed vLine a d) ^ 2 ≤ 1000000 * (vUsed * vUsed + 2 * a * d) ∧
      1000000 * (vUsed * vUsed + 2 * a * d) < (1000 * vUsed + a * (predictedMs vUsed vLine a d + 1)) ^ 2 := by
  have value : predictedMs vUsed vLine a d =
      (isqrt (1000000 * (vUsed * vUsed + 2 * a * d)) - 1000 * vUsed) / a := by
    unfold predictedMs
    dsimp only
    rw [if_neg (by omega), if_pos (by omega)]
  generalize predictedMs vUsed vLine a d = t at *
  obtain ⟨root, above⟩ := isqrt_spec (1000000 * (vUsed * vUsed + 2 * a * d))
  have start : 1000 * vUsed ≤ isqrt (1000000 * (vUsed * vUsed + 2 * a * d)) := le_isqrt (by nlinarith)
  generalize isqrt (1000000 * (vUsed * vUsed + 2 * a * d)) = x at *
  have low : a * t ≤ x - 1000 * vUsed := by rw [value]; exact Nat.mul_div_le _ _
  have high : x - 1000 * vUsed < a * (t + 1) := by rw [value]; exact Nat.lt_mul_div_succ _ accelerates
  rw [pow_two, pow_two]
  constructor
  · exact (Nat.mul_self_le_mul_self (by omega)).trans root
  · exact above.trans_le (Nat.mul_self_le_mul_self (by omega))

/-- At the top speed before the island: T is the floor of the two parts' sum (R49). -/
theorem predictedMs_reaching (reaches : ¬vUsed * vUsed + 2 * a * d ≤ max vLine vUsed * max vLine vUsed) :
    predictedMs vUsed vLine a d =
      1000 * (2 * a * d + (max vLine vUsed - vUsed) ^ 2) / (2 * a * max vLine vUsed) := by
  have square : vUsed * vUsed ≤ max vLine vUsed * max vLine vUsed := Nat.mul_self_le_mul_self below.le
  unfold predictedMs
  dsimp only
  rw [if_neg (by omega), if_neg (by omega), pow_two]

end

/-- A time within the run at the top speed falls short of the distance while the train still accelerates. -/
theorem accelerating_square_le {v a d top q : Nat} (below : v < top) (reaches : v * v + 2 * a * d ≤ top * top)
    (within_ : q * top ≤ 1000 * d) : (1000 * v + a * q) ^ 2 ≤ 1000000 * (v * v + 2 * a * d) := by
  obtain ⟨w, rfl⟩ := Nat.exists_eq_add_of_lt below
  have gain : a * q ≤ 1000 * (w + 1) := by
    refine Nat.le_of_mul_le_mul_right (c := 2 * (v + w + 1)) ?_ (by omega)
    nlinarith
  nlinarith [Nat.mul_le_mul_left (a * q) (show 2000 * v + a * q ≤ 2000 * (v + w + 1) by omega)]

/-- T lies between the times at the top speed and at the speed used (R49). -/
theorem predictedMs_bounds {vUsed : Nat} (vLine a d : Nat) (moving : 0 < vUsed) :
    1000 * d / max vLine vUsed ≤ predictedMs vUsed vLine a d ∧ predictedMs vUsed vLine a d ≤ 1000 * d / vUsed := by
  by_cases level : a = 0 ∨ max vLine vUsed = vUsed
  · rw [predictedMs_level d level]
    exact ⟨Nat.div_le_div_left (le_max_right _ _) moving, le_refl _⟩
  · have accelerates : 0 < a := by omega
    have below : vUsed < max vLine vUsed := by omega
    have fast := Nat.div_mul_le_self (1000 * d) (max vLine vUsed)
    by_cases reaches : vUsed * vUsed + 2 * a * d ≤ max vLine vUsed * max vLine vUsed
    · obtain ⟨low, high⟩ := predictedMs_accelerating accelerates below reaches
      have short := accelerating_square_le below reaches fast
      generalize predictedMs vUsed vLine a d = t at *
      generalize 1000 * d / max vLine vUsed = q at *
      constructor
      · by_contra later
        have beyond : a * (t + 1) ≤ a * q := Nat.mul_le_mul_left a (by omega)
        exact absurd (high.trans_le (Nat.pow_le_pow_left (by omega) 2)) (not_lt.2 short)
      · rw [Nat.le_div_iff_mul_le moving]
        refine le_of_mul_le_mul_left (a := 2000 * a) ?_ (by omega)
        nlinarith [Nat.zero_le ((a * t) ^ 2)]
    · rw [predictedMs_reaching accelerates below reaches]
      obtain ⟨w, top⟩ := Nat.exists_eq_add_of_lt below
      rw [top] at fast reaches ⊢
      rw [show vUsed + w + 1 - vUsed = w + 1 by omega]
      have divisor : 0 < 2 * a * (vUsed + w + 1) := by positivity
      constructor
      · rw [Nat.le_div_iff_mul_le divisor]
        nlinarith
      · rw [Nat.le_div_iff_mul_le moving]
        refine le_of_mul_le_mul_left (a := 2 * a * (vUsed + w + 1)) ?_ divisor
        have quotient := Nat.mul_div_le (1000 * (2 * a * d + (w + 1) ^ 2)) (2 * a * (vUsed + w + 1))
        generalize 1000 * (2 * a * d + (w + 1) ^ 2) / (2 * a * (vUsed + w + 1)) = t at *
        nlinarith [Nat.mul_le_mul_right vUsed quotient, Nat.mul_le_mul_left (w + 1) (not_le.1 reaches).le]

/-! ### The slots' near points, distances and upstream points (R38, R46) -/

section
variable {s : State} {k : Fin 4}

theorem nearPoint_of_island {j : Fin 10} (island : s.island (slotTrack k) = some j) :
    s.nearPoint k = some (if FromA k then s.sections[j].aEnd else s.sections[j].bEnd) := by
  unfold State.nearPoint
  rw [island, slotDir_eq, Option.map_some]
  by_cases dir : FromA k
  · rw [if_pos dir, if_pos dir]
  · rw [if_neg dir, if_neg dir]

theorem distance_of_near {q : Fin 12} (near : s.nearPoint k = some q) (p : Fin 12) :
    s.distance k p = (s.points[q].position - s.points[p].position).natAbs := by
  unfold State.distance
  rw [near]

theorem upstream_iff {q : Fin 12} (near : s.nearPoint k = some q) (p : Fin 12) :
    s.upstream k p = true ↔ s.points[p].inService = true ∧ s.points[p].track = some (trackOfSlot k) ∧
      if FromA k then s.points[p].position < s.points[q].position else s.points[q].position < s.points[p].position := by
  unfold State.upstream
  rw [near, slotTrack_eq, slotDir_eq]
  by_cases dir : FromA k
  · rw [if_pos dir, if_pos dir]
    simp only [Bool.and_eq_true, beq_iff_eq, decide_eq_true_eq, and_assoc]
  · rw [if_neg dir, if_neg dir]
    simp only [Bool.and_eq_true, beq_iff_eq, decide_eq_true_eq, and_assoc]

end

end Sys2Proof.Machine
end

section
/-! PROOFS. A prediction whole: the speed used and its checks (R47, R48), the record's times (R45, R50), the commit test (R51),
and the axle event that brings it (R38, R43, R44). -/

namespace Sys2Proof.Machine

/-! ### What a raise reads (R123 to R125) -/

/-- Two states are alike to a raise: the fault table, the clock and the free values taken. -/
structure AlikeToRaise (s t : State) : Prop where
  faults : t.faults = s.faults
  now : t.now = s.now
  free : t.free = s.free

theorem AlikeToRaise.refl (s : State) : AlikeToRaise s s := ⟨rfl, rfl, rfl⟩

theorem AlikeToRaise.trans {s t u : State} (h : AlikeToRaise s t) (h' : AlikeToRaise t u) : AlikeToRaise s u :=
  ⟨h'.faults.trans h.faults, h'.now.trans h.now, h'.free.trans h.free⟩

theorem AlikeToRaise.of_only {bs : List Block} {s t : State} (h : Only bs s t)
    (off : ∀ b ∈ [Block.faults, .clock, .free], b ∉ bs) : AlikeToRaise s t :=
  ⟨h.faults_eq (off _ (by decide)), (h.clock_eq (off _ (by decide))).1, h .free (off _ (by decide))⟩

theorem raise_free (k : FaultKind) (o d : Nat) (s : State) :
    (raise k o d s).free = if s.faults.place s.now k o = .lost then s.free + 1 else s.free := by
  have applied : (applyFault (fun f => f.raised s.now (Config.freeByte s.free) k o d) s).free = s.free :=
    applyFault_only _ s .free (by decide)
  have derived : ∀ t, (deriveMode .raised t).free = t.free := fun t => deriveMode_only .raised t .free (by decide)
  unfold raise
  dsimp only
  rw [derived]
  simp only [beq_iff_eq]
  split
  · exact congrArg (· + 1) applied
  · exact applied

/-- Raises in alike states leave alike states. -/
theorem AlikeToRaise.raise {s t : State} (h : AlikeToRaise s t) (k : FaultKind) (o d : Nat) :
    AlikeToRaise (raise k o d s) (raise k o d t) where
  faults := by rw [raise_faults, raise_faults, h.faults, h.now, h.free]
  now := by
    rw [((raise_only k o d t).clock_eq (by decide)).1, ((raise_only k o d s).clock_eq (by decide)).1, h.now]
  free := by rw [raise_free, raise_free, h.faults, h.now, h.free]

/-! ### The measured speed (R47) -/

/-- The measurement is taken as a detection glitch (R47). -/
abbrev Glitch (spacing : Nat) (n : Option Nat) : Prop := ∃ m, n = some m ∧ 90000 < spacing * 20000 / m

/-- The speed is known and exceeds the line's (R48). -/
abbrev Overspeed (vLine spacing : Nat) (n : Option Nat) : Prop :=
  ∃ m, n = some m ∧ ¬Glitch spacing n ∧ vLine < spacing * 20000 / m

theorem glitch_some_iff (spacing m : Nat) : Glitch spacing (some m) ↔ 90000 < spacing * 20000 / m :=
  ⟨fun ⟨_, e, h⟩ => Option.some.inj e ▸ h, fun h => ⟨m, rfl, h⟩⟩

theorem isGlitch_iff (spacing : Nat) (n : Option Nat) : isGlitch spacing n = true ↔ Glitch spacing n := by
  cases n with
  | none => simp [isGlitch]
  | some m => exact decide_eq_true_iff.trans (glitch_some_iff spacing m).symm

theorem not_overspeed_iff (vLine spacing : Nat) (n : Option Nat) :
    ¬Overspeed vLine spacing n ↔
      n = none ∨ Glitch spacing n ∨ ∀ m, n = some m → spacing * 20000 / m ≤ vLine := by
  constructor
  · intro slow
    by_cases glitch : Glitch spacing n
    · exact .inr (.inl glitch)
    · exact .inr (.inr fun m interval => not_lt.1 fun exceeds => slow ⟨m, interval, glitch, exceeds⟩)
  · rintro (rfl | glitch | slow) ⟨m, interval, sound, exceeds⟩
    · exact absurd interval (by simp)
    · exact sound glitch
    · exact absurd (slow m interval) (not_le.2 exceeds)

theorem knownSpeed_of_glitch {spacing : Nat} {n : Option Nat} (glitch : Glitch spacing n) : knownSpeed spacing n = none := by
  obtain ⟨m, rfl, fast⟩ := glitch
  exact if_pos fast

theorem knownSpeed_of_sound {spacing : Nat} {n : Option Nat} (sound : ¬Glitch spacing n) :
    knownSpeed spacing n = n.map (spacing * 20000 / ·) := by
  cases n with
  | none => rfl
  | some m => exact if_neg (mt (glitch_some_iff spacing m).2 sound)

/-! ### The speed checks (R47, R48) -/

section
variable (k : Fin 4) (p : Fin 12) {n : Option Nat} {s : State}

theorem speedChecks_glitch (glitch : Glitch s.points[p].spacing n) : speedChecks k p n s = emit [.count 17] s := by
  unfold speedChecks
  exact if_pos ((isGlitch_iff _ _).2 glitch)

theorem speedChecks_overspeed {m : Nat} (interval : n = some m) (sound : ¬Glitch s.points[p].spacing n)
    (fast : s.slots[k].vLine < s.points[p].spacing * 20000 / m) :
    speedChecks k p n s = raise .overspeed p.val (s.points[p].spacing * 20000 / m / 1000) (emit [.count 31] s) := by
  unfold speedChecks
  rw [if_neg (mt (isGlitch_iff _ _).1 sound), knownSpeed_of_sound sound, interval, Option.map_some]
  exact if_pos fast

theorem speedChecks_within (sound : ¬Glitch s.points[p].spacing n)
    (slow : ¬Overspeed s.slots[k].vLine s.points[p].spacing n) : speedChecks k p n s = s := by
  unfold speedChecks
  rw [if_neg (mt (isGlitch_iff _ _).1 sound), knownSpeed_of_sound sound]
  cases n with
  | none => rfl
  | some m => exact if_neg fun fast => slow ⟨m, rfl, sound, fast⟩

variable (n s)

/-- A point's measurement is a glitch, an overspeed or neither, and the checks go by that. -/
theorem speedChecks_counters :
    (speedChecks k p n s).counters[(17 : Fin 32)] =
        (if Glitch s.points[p].spacing n then s.counters[(17 : Fin 32)].bumped else s.counters[(17 : Fin 32)]) ∧
      (speedChecks k p n s).counters[(31 : Fin 32)] =
        (if Overspeed s.slots[k].vLine s.points[p].spacing n then s.counters[(31 : Fin 32)].bumped
        else s.counters[(31 : Fin 32)]) ∧
      (speedChecks k p n s).counters[(15 : Fin 32)] = s.counters[(15 : Fin 32)] := by
  by_cases glitch : Glitch s.points[p].spacing n
  · have slow : ¬Overspeed s.slots[k].vLine s.points[p].spacing n := fun ⟨_, _, sound, _⟩ => sound glitch
    rw [speedChecks_glitch k p glitch, if_pos glitch, if_neg slow]
    exact ⟨emit_count_self 17 s, emit_count_kept (by decide) s, emit_count_kept (by decide) s⟩
  · rw [if_neg glitch]
    by_cases fast : Overspeed s.slots[k].vLine s.points[p].spacing n
    · obtain ⟨m, interval, sound, exceeds⟩ := id fast
      rw [speedChecks_overspeed k p interval sound exceeds, raise_counters, if_pos fast]
      exact ⟨emit_count_kept (by decide) s, emit_count_self 31 s, emit_count_kept (by decide) s⟩
    · rw [speedChecks_within k p glitch fast, if_neg fast]
      exact ⟨rfl, rfl, rfl⟩

/-- To a raise the checks leave the state as the raise of OVERSPEED leaves it, or as it was. -/
theorem speedChecks_alike {y : State} (none_ : ¬Overspeed s.slots[k].vLine s.points[p].spacing n → y = s)
    (raised : ∀ m, n = some m → ¬Glitch s.points[p].spacing n → s.slots[k].vLine < s.points[p].spacing * 20000 / m →
      y = raise .overspeed p.val (s.points[p].spacing * 20000 / m / 1000) s) :
    AlikeToRaise y (speedChecks k p n s) := by
  have counted := fun i => AlikeToRaise.of_only (emit_count_only i s) (by decide)
  by_cases fast : Overspeed s.slots[k].vLine s.points[p].spacing n
  · obtain ⟨m, interval, sound, exceeds⟩ := fast
    rw [speedChecks_overspeed k p interval sound exceeds, raised m interval sound exceeds]
    exact (counted 31).raise _ _ _
  · rw [none_ fast]
    by_cases glitch : Glitch s.points[p].spacing n
    · rw [speedChecks_glitch k p glitch]
      exact counted 17
    · rw [speedChecks_within k p glitch fast]
      exact .refl s

end

/-- The speed used, by what is measured (R48). -/
theorem prediction_vUsed (k : Fin 4) (p : Fin 12) (n : Option Nat) (s : State) {v : Nat}
    (unknown : n = none ∨ Glitch s.points[p].spacing n → v = s.slots[k].vLine)
    (known : ∀ m, n = some m → ¬Glitch s.points[p].spacing n →
      v = max (s.points[p].spacing * 20000 / m) s.slots[k].vFloor) :
    (s.prediction k p n).vUsed =
      if s.faults.mode = some .auto ∨ s.faults.mode = none then v else max v s.slots[k].vLine := by
  have base : (match knownSpeed s.points[p].spacing n with
      | none => s.slots[k].vLine
      | some v => max v s.slots[k].vFloor) = v := by
    by_cases glitch : Glitch s.points[p].spacing n
    · rw [knownSpeed_of_glitch glitch, unknown (.inr glitch)]
    · rw [knownSpeed_of_sound glitch]
      cases n with
      | none => exact (unknown (.inl rfl)).symm
      | some m => exact (known m rfl glitch).symm
  rw [← base]
  rfl

/-! ### The commit test (R51) -/

/-- The record's warning start has been reached and it has not committed (R51). -/
abbrev CommitDue (r : TrainRecord) (now : Time) : Prop := r.committed = false ∧ reached now r.warningS = true

section
variable {k : Fin 4} {r : TrainRecord} {s : State} (holds : s.slots[k].record = some r) (ms : Nat)
include holds

theorem commitTest_stands (waits : ¬CommitDue r s.now) : commitTest k ms s = s := by
  unfold commitTest
  rw [holds]
  refine ite_eq_left_iff.2 fun pending => ?_
  exact if_neg fun due => waits ⟨Bool.eq_false_iff.2 pending, due⟩

theorem commitTest_short (due : CommitDue r s.now) (short : ms < s.rwt) :
    commitTest k ms s = raise .shortWarning (slotTrack k).code (ms / 1000)
      (emit [.count 15] (commitRecord k .prediction s.now true s)) := by
  unfold commitTest
  rw [holds]
  dsimp only
  rw [if_neg (Bool.eq_false_iff.1 due.1), if_pos due.2, if_pos short]
  rfl

theorem commitTest_timely (due : CommitDue r s.now) (timely : ¬ms < s.rwt) :
    commitTest k ms s = commitRecord k .prediction s.now false s := by
  unfold commitTest
  rw [holds]
  dsimp only
  rw [if_neg (Bool.eq_false_iff.1 due.1), if_pos due.2, if_neg timely]

theorem commitTest_counter {i : Fin 32} (other : i ≠ 15) :
    (commitTest k ms s).counters[i] = s.counters[i] := by
  by_cases due : CommitDue r s.now
  · by_cases short : ms < s.rwt
    · rw [commitTest_short holds ms due short, raise_counters]
      exact CountKept.trans (.of_eq (commitRecord_counters _ _ _ _ _)) (emit_count_kept other.symm _)
    · rw [commitTest_timely holds ms due short, commitRecord_counters]
  · rw [commitTest_stands holds ms due]

theorem commitTest_shortWarnings :
    (commitTest k ms s).counters[(15 : Fin 32)] =
      if CommitDue r s.now ∧ ms < s.rwt then s.counters[(15 : Fin 32)].bumped else s.counters[(15 : Fin 32)] := by
  by_cases due : CommitDue r s.now
  · by_cases short : ms < s.rwt
    · rw [commitTest_short holds ms due short, raise_counters, emit_count_self, commitRecord_counters, if_pos ⟨due, short⟩]
    · rw [commitTest_timely holds ms due short, commitRecord_counters, if_neg fun h => short h.2]
  · rw [commitTest_stands holds ms due, if_neg fun h => due h.1]

theorem commitTest_slots :
    (commitTest k ms s).slots =
      s.slots.set k { s.slots[k] with record := some (
        if CommitDue r s.now then r.commit .prediction s.now (decide (ms < s.rwt)) else r) } := by
  by_cases due : CommitDue r s.now
  · have committed : ∀ short, (commitRecord k .prediction s.now short s).slots =
        s.slots.set k { s.slots[k] with record := some (r.commit .prediction s.now short) } := fun short => by
      rw [commitRecord_slots, upd, Slot.committing_of_pending holds due.1]
    rw [if_pos due]
    by_cases short : ms < s.rwt
    · rw [commitTest_short holds ms due short, (raise_only _ _ _ _).slots_eq (by decide),
        (emit_only _ _).slots_eq (by decide), committed, decide_eq_true short]
    · rw [commitTest_timely holds ms due short, committed, decide_eq_false short]
  · rw [commitTest_stands holds ms due, if_neg due, ← holds]
    exact (Vector.set_getElem_self k.isLt).symm

theorem commitTest_faults :
    (commitTest k ms s).faults =
      if CommitDue r s.now ∧ ms < s.rwt then (raise .shortWarning (slotTrack k).code (ms / 1000) s).faults
      else s.faults := by
  have committed := fun short => AlikeToRaise.of_only (commitRecord_only k .prediction s.now short s) (by decide)
  by_cases due : CommitDue r s.now
  · by_cases short : ms < s.rwt
    · rw [commitTest_short holds ms due short, if_pos ⟨due, short⟩]
      exact (((committed true).trans (.of_only (emit_count_only 15 _) (by decide))).raise _ _ _).faults
    · rw [commitTest_timely holds ms due short, if_neg fun h => short h.2]
      exact (committed false).faults
  · rw [commitTest_stands holds ms due, if_neg fun h => due h.1]

end

/-! ### The prediction whole (R45 to R51) -/

/-- The record's slot with a prediction appended and its times set, the checks of the speed made, "predicted" logged: what
the commit test finds. -/
def predictionMade (k : Fin 4) (p : Fin 12) (n : Option Nat) (r : TrainRecord) (s : State) : State :=
  emit [.log .record k.val (predictedData r.committed (s.prediction k p n))]
    ((speedChecks k p n s).setRecord k (some (r.predicted s.now s.rwt (s.prediction k p n))))

section
variable (k : Fin 4) (p : Fin 12) (n : Option Nat) (r : TrainRecord) (s : State)

theorem predictionMade_after :
    Only ([.slots] ++ recordBlocks) (speedChecks k p n s) (predictionMade k p n r s) :=
  (setRecord_only _ k _).seq (emit_only _ _) (by decide) (by decide)

theorem predictionMade_only : Only ([.slots] ++ faultBlocks) s (predictionMade k p n r s) :=
  (speedChecks_only k p n s).seq (predictionMade_after k p n r s) (by decide) (by decide)

theorem predictionMade_slots :
    (predictionMade k p n r s).slots =
      s.slots.set k { s.slots[k] with record := some (r.predicted s.now s.rwt (s.prediction k p n)) } := by
  have checked : (speedChecks k p n s).slots = s.slots := (speedChecks_only k p n s).slots_eq (by decide)
  unfold predictionMade
  rw [(emit_only _ _).slots_eq (by decide), State.setRecord, State.setSlot_slots, checked]
  rfl

theorem predictionMade_record :
    (predictionMade k p n r s).slots[k].record = some (r.predicted s.now s.rwt (s.prediction k p n)) := by
  rw [predictionMade_slots, Fin.getElem_fin, Vector.getElem_set_self]

theorem predictionMade_counters : (predictionMade k p n r s).counters = (speedChecks k p n s).counters :=
  emit_counters (by simp) _

variable {k r s}

theorem predict_eq (holds : s.slots[k].record = some r) :
    predict k p n s = commitTest k (s.prediction k p n).tMs (predictionMade k p n r s) := by
  have checked := speedChecks_only k p n s
  unfold predict predictionMade
  rw [holds]
  dsimp only
  rw [(checked.clock_eq (by decide)).1, (checked .times (by decide)).2]

end

/-- A committed record takes the new A alone (R51). -/
theorem predicted_of_committed {r : TrainRecord} (done : r.committed = true) (now : Time) (rwt : Nat) (e : Prediction) :
    r.predicted now rwt e =
      { r with predictions := r.predictions ++ [e], arrivalA := some (now + BitVec.ofNat 32 e.tMs) } := by
  unfold TrainRecord.predicted
  exact if_pos done

/-- An uncommitted record takes A and S, its start timer running to S (R50, R51). -/
theorem predicted_of_pending {r : TrainRecord} (pending : r.committed = false) (now : Time) (rwt : Nat) (e : Prediction) :
    r.predicted now rwt e =
      let w := now + BitVec.ofNat 32 e.tMs - BitVec.ofNat 32 rwt
      { r with
        predictions := r.predictions ++ [e], arrivalA := some (now + BitVec.ofNat 32 e.tMs), warningS := some w
        startTimer := some w } := by
  unfold TrainRecord.predicted
  exact if_neg (Bool.eq_false_iff.1 pending)

/-- After a prediction the record's S has been reached when it was uncommitted and A - RWT is not ahead (R51). -/
theorem commitDue_predicted (r : TrainRecord) (now : Time) (rwt : Nat) (e : Prediction) :
    CommitDue (r.predicted now rwt e) now ↔
      r.committed = false ∧ atOrBefore (now + BitVec.ofNat 32 e.tMs - BitVec.ofNat 32 rwt) now = true := by
  unfold CommitDue
  rw [TrainRecord.predicted_committed]
  refine and_congr_right fun pending => ?_
  rw [predicted_of_pending pending]
  rfl

/-- The record after a prediction and its commit test (R50, R51). -/
theorem commit_predicted (r : TrainRecord) (now : Time) (rwt : Nat) (e : Prediction) :
    (if CommitDue (r.predicted now rwt e) now then
        (r.predicted now rwt e).commit .prediction now (decide (e.tMs < rwt))
      else r.predicted now rwt e) =
      let a := now + BitVec.ofNat 32 e.tMs
      let w := a - BitVec.ofNat 32 rwt
      if r.committed then { r with predictions := r.predictions ++ [e], arrivalA := some a }
      else if atOrBefore w now then
        { r with
          predictions := r.predictions ++ [e], arrivalA := some a, warningS := some w, startTimer := none
          committed := true, commitTime := some now, commitCause := some .prediction
          shortWarning := r.shortWarning || decide (e.tMs < rwt) }
      else { r with predictions := r.predictions ++ [e], arrivalA := some a, warningS := some w, startTimer := some w } := by
  dsimp only
  by_cases done : r.committed = true
  · rw [if_neg fun due => absurd (done.symm.trans ((commitDue_predicted r now rwt e).1 due).1) (by decide),
      predicted_of_committed done, if_pos done]
  · have pending := Bool.eq_false_iff.2 done
    rw [if_neg done]
    by_cases due : atOrBefore (now + BitVec.ofNat 32 e.tMs - BitVec.ofNat 32 rwt) now = true
    · rw [if_pos ((commitDue_predicted r now rwt e).2 ⟨pending, due⟩), predicted_of_pending pending, if_pos due]
      rfl
    · rw [if_neg fun h => due ((commitDue_predicted r now rwt e).1 h).2, predicted_of_pending pending, if_neg due]

section
variable {k : Fin 4} {r : TrainRecord} {s : State} (holds : s.slots[k].record = some r) (p : Fin 12) (n : Option Nat)
include holds

theorem predict_counters :
    (predict k p n s).counters[(17 : Fin 32)] =
        (if Glitch s.points[p].spacing n then s.counters[(17 : Fin 32)].bumped else s.counters[(17 : Fin 32)]) ∧
      (predict k p n s).counters[(31 : Fin 32)] =
        (if Overspeed s.slots[k].vLine s.points[p].spacing n then s.counters[(31 : Fin 32)].bumped
        else s.counters[(31 : Fin 32)]) := by
  have record := predictionMade_record k p n r s
  obtain ⟨glitches, overspeeds, -⟩ := speedChecks_counters k p n s
  rw [predict_eq p n holds, commitTest_counter record _ (by decide), commitTest_counter record _ (by decide),
    predictionMade_counters]
  exact ⟨glitches, overspeeds⟩

/-- The record is short of warning as the prediction commits it (R51). -/
abbrev ShortCommit (r : TrainRecord) (s : State) (e : Prediction) : Prop :=
  r.committed = false ∧ atOrBefore (s.now + BitVec.ofNat 32 e.tMs - BitVec.ofNat 32 s.rwt) s.now = true ∧ e.tMs < s.rwt

omit holds in
theorem shortCommit_iff :
    (CommitDue (r.predicted s.now s.rwt (s.prediction k p n)) (predictionMade k p n r s).now ∧
        (s.prediction k p n).tMs < (predictionMade k p n r s).rwt) ↔ ShortCommit r s (s.prediction k p n) := by
  have frame := predictionMade_only k p n r s
  rw [(frame.clock_eq (by decide)).1, (frame .times (by decide)).2, commitDue_predicted, and_assoc]

theorem predict_shortWarnings :
    (predict k p n s).counters[(15 : Fin 32)] =
      if ShortCommit r s (s.prediction k p n) then s.counters[(15 : Fin 32)].bumped else s.counters[(15 : Fin 32)] := by
  rw [predict_eq p n holds, commitTest_shortWarnings (predictionMade_record k p n r s), predictionMade_counters,
    (speedChecks_counters k p n s).2.2]
  exact if_congr (shortCommit_iff p n) rfl rfl

theorem predict_slots :
    (predict k p n s).slots = s.slots.set k { s.slots[k] with record := some (
      if CommitDue (r.predicted s.now s.rwt (s.prediction k p n)) s.now then
        (r.predicted s.now s.rwt (s.prediction k p n)).commit .prediction s.now (decide ((s.prediction k p n).tMs < s.rwt))
      else r.predicted s.now s.rwt (s.prediction k p n)) } := by
  have frame := predictionMade_only k p n r s
  rw [predict_eq p n holds, commitTest_slots (predictionMade_record k p n r s), (frame.clock_eq (by decide)).1,
    (frame .times (by decide)).2, predictionMade_slots, Vector.set_set]
  simp only [Fin.getElem_fin, Vector.getElem_set_self]

theorem predict_faults {y : State} (alike : AlikeToRaise y (speedChecks k p n s)) :
    (predict k p n s).faults =
      if ShortCommit r s (s.prediction k p n) then
        (raise .shortWarning (trackOfSlot k).code ((s.prediction k p n).tMs / 1000) y).faults
      else y.faults := by
  have made := alike.trans (.of_only (predictionMade_after k p n r s) (by decide))
  rw [predict_eq p n holds, commitTest_faults (predictionMade_record k p n r s), slotTrack_eq,
    (made.raise _ _ _).faults, made.faults]
  exact if_congr (shortCommit_iff p n) rfl rfl

end

end Sys2Proof.Machine
end

section
/-! PROOFS. An axle event at an approach point, and the statement about predictions (R38, R43 to R51). -/

namespace Sys2Proof.Machine

/-! ### An axle event away from the island (R38, R43, R44) -/

section
variable {p : Fin 12} {t : Track} {d : Dir} {s : State} (n : Option Nat) (track : s.points[p].track = some t)
  (away : s.nearPoint (slotOf t d) ≠ some p)
include track away

theorem takeAxle_unseen (outside : s.upstream (slotOf t d) p = false) : takeAxle p d n s = s := by
  unfold takeAxle
  rw [track]
  dsimp only
  rw [if_neg away, outside]
  rfl

theorem takeAxle_creates (upstream : s.upstream (slotOf t d) p = true) (empty : s.slots[slotOf t d].record = none) :
    takeAxle p d n s = testPrepared (slotOf t d) (predict (slotOf t d) p n (createRecord (slotOf t d) p s)) := by
  unfold takeAxle
  rw [track]
  dsimp only
  rw [if_neg away, if_pos upstream, empty]

theorem takeAxle_follows {r : TrainRecord} (upstream : s.upstream (slotOf t d) p = true)
    (holds : s.slots[slotOf t d].record = some r) :
    takeAxle p d n s =
      if r.phase = .approaching ∧ ∀ e ∈ r.predictions, s.distance (slotOf t d) p < s.distance (slotOf t d) e.point then
        predict (slotOf t d) p n s
      else s := by
  have nearer : s.nearerThanAll (slotOf t d) p r = true ↔
      ∀ e ∈ r.predictions, s.distance (slotOf t d) p < s.distance (slotOf t d) e.point := by
    simp only [State.nearerThanAll, List.all_eq_true, decide_eq_true_eq]
  unfold takeAxle
  rw [track]
  dsimp only
  rw [if_neg away, if_pos upstream, holds]
  exact if_congr (and_congr_right fun _ => nearer) rfl rfl

end

/-! ### A new record (R43) -/

theorem createRecord_eq (k : Fin 4) (p : Fin 12) (s : State) :
    createRecord k p s = writeLog .record k.val [0, byte p.val] (s.setRecord k (some (newRecord s.now))) := rfl

theorem createRecord_blocks (k : Fin 4) (p : Fin 12) (s : State) :
    Only [.slots, .log, .notices] s (createRecord k p s) := by
  rw [createRecord_eq]
  exact (setRecord_only s k _).seq (writeLog_only _ _ _ _) (by decide) (by decide)

theorem createRecord_slots (k : Fin 4) (p : Fin 12) (s : State) :
    (createRecord k p s).slots = s.slots.set k { s.slots[k] with record := some (newRecord s.now) } := by
  rw [createRecord_eq, (writeLog_only _ _ _ _).slots_eq (by decide)]
  rfl

theorem createRecord_wrote (k : Fin 4) (p : Fin 12) {s : State} (run : s.part = .run) :
    Wrote .record k.val [0, byte p.val] s (createRecord k p s) := by
  rw [createRecord_eq]
  exact writeLog_memory (s := s.setRecord k _) run _ _ _

/-! ### The statement -/

/-- T by its bounds, and by the motion's equations (R49). -/
theorem predictedMs_spec (vUsed vLine a d : Nat) :
    let top := max vLine vUsed
    let t := predictedMs vUsed vLine a d
    (0 < vUsed → 1000 * d / top ≤ t ∧ t ≤ 1000 * d / vUsed) ∧
    (a = 0 ∨ top = vUsed → t = 1000 * d / vUsed) ∧
    (0 < a → vUsed < top →
      if vUsed * vUsed + 2 * a * d ≤ top * top then
        (1000 * vUsed + a * t) ^ 2 ≤ 1000000 * (vUsed * vUsed + 2 * a * d) ∧
        1000000 * (vUsed * vUsed + 2 * a * d) < (1000 * vUsed + a * (t + 1)) ^ 2
      else
        t * (2 * a * top) ≤ 1000 * (2 * a * d + (top - vUsed) ^ 2) ∧
        1000 * (2 * a * d + (top - vUsed) ^ 2) < (t + 1) * (2 * a * top)) := by
  refine ⟨predictedMs_bounds vLine a d, predictedMs_level d, fun accelerates below => ?_⟩
  split
  · next reaches => exact predictedMs_accelerating accelerates below reaches
  · next reaches =>
    have divisor : 0 < 2 * a * max vLine vUsed := Nat.mul_pos (by omega) (by omega)
    rw [predictedMs_reaching accelerates below reaches]
    exact ⟨Nat.div_mul_le_self _ _, Nat.lt_mul_of_div_lt (Nat.lt_succ_self _) divisor⟩

/-- Settles O33: T by the motion's equations, the slot's geometry by its island, the axle event by the slot's record; the rest is
`predict` clause by clause, each read off the speed checks and the commit test. -/
theorem predictionsSetTheTimes : Obligations.PredictionsSetTheTimes := by
  unfold Obligations.PredictionsSetTheTimes
  refine ⟨predictedMs_spec, ?_, ?_, ?_⟩
  · intro k p q j s track role first side
    have island : s.island (slotTrack k) = some j := by
      rw [slotTrack_eq]
      exact (island_eq_some_iff s _ j).2 ⟨⟨track, role⟩, first⟩
    have near : s.nearPoint k = some q := (nearPoint_of_island island).trans (congrArg some side.symm)
    exact ⟨near, distance_of_near near p, upstream_iff near p⟩
  · intro p t d n s track k away
    refine ⟨takeAxle_unseen n track away, fun upstream empty run => ?_, fun r => takeAxle_follows n track away⟩
    exact ⟨createRecord k p s, takeAxle_creates n track away upstream empty, createRecord_slots k p s,
      createRecord_wrote k p run, createRecord_blocks k p s⟩
  · intro k p n r s holds x glitch e a w u
    obtain ⟨glitches, overspeeds⟩ := predict_counters holds p n
    have slow_iff := not_overspeed_iff x.vLine s.points[p].spacing n
    refine ⟨fun v => prediction_vUsed k p n s, rfl, rfl, rfl, fun h => glitches.trans (if_pos h),
      fun h => glitches.trans (if_neg h), fun m interval sound exceeds =>
        overspeeds.trans (if_pos ⟨m, interval, sound, exceeds⟩),
      fun h => overspeeds.trans (if_neg (slow_iff.2 h)), predict_shortWarnings holds p n, ?_,
      fun y none_ raised => predict_faults holds p n
        (speedChecks_alike k p n s (fun slow => none_ (slow_iff.1 slow)) raised), predict_only k p n s⟩
    exact (predict_slots holds p n).trans (by rw [commit_predicted])

end Sys2Proof.Machine
end

section
/-! PROOFS. How a train record commits and arrives (R43, R52 to R58, R60): the start timer, the long-warning mark, the PREPARED
commit, the arrival and its LATE_CLOSURE. -/

namespace Sys2Proof.Machine

/-! ### One commit whole (R55) -/

section
variable {k : Fin 4} {r : TrainRecord} {s : State} (holds : s.slots[k].record = some r) (pending : r.committed = false)
include holds pending

theorem commitRecord_eq (cause : CommitCause) (time : Time) :
    commitRecord k cause time false s =
      writeLog .record k.val [2, byte cause.code, byte (flag r.shortWarning)]
        (s.setRecord k (some (committedBy r cause time))) := by
  unfold commitRecord
  rw [holds]
  dsimp only
  rw [if_neg (Bool.eq_false_iff.1 pending), commit_eq, Bool.or_false]
  rfl

theorem commitRecord_sets (cause : CommitCause) (time : Time) :
    (commitRecord k cause time false s).slots =
      s.slots.set k { s.slots[k] with record := some (committedBy r cause time) } := by
  rw [commitRecord_slots, upd, Slot.committing_of_pending holds pending, commit_eq]

theorem commitRecord_wrote (run : s.part = .run) (cause : CommitCause) (time : Time) :
    Wrote .record k.val [2, byte cause.code, byte (flag r.shortWarning)] s (commitRecord k cause time false s) := by
  rw [commitRecord_eq holds pending]
  exact writeLog_memory (s := s.setRecord k _) run _ _ _

end

theorem commitRecord_blocks (k : Fin 4) (cause : CommitCause) (time : Time) (short : Bool) (s : State) :
    Only [.slots, .log, .notices] s (commitRecord k cause time short s) := by
  unfold commitRecord
  split
  · exact Only.refl _ _
  · split
    · exact Only.refl _ _
    · exact (setRecord_only s k _).seq (writeLog_only _ _ _ _) (by decide) (by decide)

theorem commitRecord_committed {k : Fin 4} {r : TrainRecord} {s : State} (holds : s.slots[k].record = some r)
    (done : r.committed = true) (cause : CommitCause) (time : Time) (short : Bool) :
    commitRecord k cause time short s = s := by
  unfold commitRecord
  rw [holds]
  exact if_pos done

/-! ### The timers of a record (R52, R60) -/

theorem exec_startTimerExpiry {k : Fin 4} {r : TrainRecord} {w : Time} {s : State} (run : s.part = .run)
    (holds : s.slots[k].record = some r) (pending : r.committed = false) (timer : r.startTimer = some w)
    (due : atOrBefore w s.now = true) :
    exec (.startTimerExpiry k) s = .next (react (commitRecord k .timer w false s)) := by
  have timerDue : s.startTimerDue k = true := by
    rw [startTimerDue_eq holds, run, pending, timer]
    exact due
  have timerS : s.timerS k = w := by
    unfold State.timerS
    rw [holds, Option.bind_some, timer]
    rfl
  change Host.Outcome.next _ = _
  rw [if_pos timerDue, timerS]

theorem exec_longWarningMark {k : Fin 4} {r : TrainRecord} {c : Time} {s : State} (run : s.part = .run)
    (holds : s.slots[k].record = some r) (done : r.committed = true) (approaching : r.phase = .approaching)
    (unmarked : r.longMark = false) (time : r.commitTime = some c) (aged : 65535000 ≤ elapsed s.now c) :
    exec (.longWarningMark k) s = .next
      { s with slots := s.slots.set k { s.slots[k] with record := some { r with longMark := true } } } := by
  have due : s.longWarningDue k = true := by
    unfold State.longWarningDue
    rw [holds]
    dsimp only
    rw [run, done, approaching, unmarked, time]
    exact decide_eq_true aged
  change Host.Outcome.next _ = _
  rw [if_pos due, State.setSlot, upd, holds]
  rfl

/-! ### The PREPARED commit (R53) -/

theorem spanPrepared_iff (s : State) (k : Fin 4) :
    s.spanPrepared k = true ↔ ∃ i : Fin 10, s.inSpan k i = true ∧ s.sections[i].state = some .prepared := by
  unfold State.spanPrepared
  rw [List.any_eq_true]
  simp only [Bool.and_eq_true, beq_iff_eq]
  exact ⟨fun ⟨i, _, h⟩ => ⟨i, h⟩, fun ⟨i, h⟩ => ⟨i, mem_allSections i, h⟩⟩

theorem testPrepared_stands {k : Fin 4} {r : TrainRecord} {s : State} (holds : s.slots[k].record = some r)
    (h : (∀ i : Fin 10, s.inSpan k i = true → s.sections[i].state ≠ some .prepared) ∨ r.committed = true) :
    testPrepared k s = s := by
  unfold testPrepared
  rcases h with unprepared | done
  · refine if_neg fun prepared => ?_
    obtain ⟨i, inside, state⟩ := (spanPrepared_iff s k).1 prepared
    exact unprepared i inside state
  · rw [commitRecord_committed holds done, ite_self]

/-! ### The arrival's own part (R56) -/

section
variable {k : Fin 4} {r : TrainRecord} {s : State} (holds : s.slots[k].record = some r) (p : Fin 12)
include holds

theorem commitRecord_arrival :
    (commitRecord k .arrival s.now false s).slots =
      s.slots.set k { s.slots[k] with record := some (if r.committed then r else committedBy r .arrival s.now) } := by
  by_cases done : r.committed = true
  · rw [commitRecord_committed holds done, if_pos done, ← holds]
    exact (Vector.set_getElem_self k.isLt).symm
  · rw [commitRecord_sets holds (Bool.eq_false_iff.2 done), if_neg done]

theorem arriveRecord_eq :
    arriveRecord k p s =
      let u := commitRecord k .arrival s.now false s
      writeLog .record k.val [3, byte p.val] (u.setRecord k (some (arrivedAt r u.now))) := by
  have now := ((commitRecord_blocks k .arrival s.now false s).clock_eq (by decide)).1
  have found : (commitRecord k .arrival s.now false s).slots[k].record = some (if r.committed then r else committedBy r .arrival s.now) := by
    rw [commitRecord_arrival holds, Fin.getElem_fin, Vector.getElem_set_self]
  unfold arriveRecord
  dsimp only
  rw [found, now]
  rfl

theorem arriveRecord_blocks : Only [.slots, .log, .notices] s (arriveRecord k p s) := by
  rw [arriveRecord_eq holds]
  exact (commitRecord_blocks k .arrival s.now false s).trans
    ((setRecord_only _ k _).seq (writeLog_only _ _ _ _) (by decide) (by decide))

theorem arriveRecord_slots :
    (arriveRecord k p s).slots = s.slots.set k { s.slots[k] with record := some (arrivedAt r s.now) } := by
  rw [arriveRecord_eq holds]
  dsimp only
  rw [(writeLog_only _ _ _ _).slots_eq (by decide), State.setRecord, State.setSlot_slots, commitRecord_arrival holds,
    ((commitRecord_blocks k .arrival s.now false s).clock_eq (by decide)).1, upd]
  simp only [Fin.getElem_fin, Vector.getElem_set_self, Vector.set_set]

theorem arriveRecord_demand : (arriveRecord k p s).demand = true := by
  refine demand_of_committed (k := k) (r := arrivedAt r s.now) ?_ ?_
  · rw [arriveRecord_slots holds, Fin.getElem_fin, Vector.getElem_set_self]
  · unfold arrivedAt
    dsimp only
    split
    · next done => exact done
    · rfl

end

/-! ### The arrival's reading of the Sequencer (R57) -/

theorem slotTrack_slotOf (t : Track) (d : Dir) : slotTrack (slotOf t d) = t := by
  cases t <;> cases d <;> rfl

theorem lateClosureTest_raises {x : SeqState} (k : Fin 4) {s : State} (state : s.seq.state = some x) (out : x ≠ .closed) :
    lateClosureTest k s = raise .lateClosure (slotTrack k).code x.code (emit [.count 16] s) := by
  unfold lateClosureTest
  rw [state, if_neg fun closed => out (Option.some.inj closed)]
  rfl

/-- An arrival's reading of the Sequencer, before or after it takes the demand (R57; log entry 3). -/
def readSequencer (k : Fin 4) (s : State) : State :=
  if s.demand && (s.seq.state == some .roadOpen || s.seq.state == some .raising) then
    lateClosureTest k (if s.order then takeDemand s.tookFree else s.tookFree)
  else lateClosureTest k s

theorem arrival_eq (k : Fin 4) (p : Fin 12) (s : State) : arrival k p s = readSequencer k (arriveRecord k p s) := rfl

section
variable (k : Fin 4) {s : State}

theorem readSequencer_closed (closed : s.seq.state = some .closed) : readSequencer k s = s := by
  unfold readSequencer lateClosureTest
  rw [closed, if_neg (by simp), if_pos rfl]

theorem readSequencer_closing {x : SeqState} (state : s.seq.state = some x) (notClosed : x ≠ .closed)
    (notOpen : x ≠ .roadOpen) (notRaising : x ≠ .raising) :
    readSequencer k s = raise .lateClosure (slotTrack k).code x.code (emit [.count 16] s) := by
  unfold readSequencer
  rw [state, if_neg (by simp [notOpen, notRaising])]
  exact lateClosureTest_raises k state notClosed

theorem takeDemand_keeps_lateClosures (road : s.seq.state = some .roadOpen) (demand : s.demand = true) :
    (takeDemand s).counters[(16 : Fin 32)] = s.counters[(16 : Fin 32)] := by
  have counted := emit_count_kept (i := 16) (j := 12) (by decide) (s.setSeq fun q =>
    { q with closureStart := s.now, counted := true, longBin := false, longFlag := false })
  rw [takeDemand_leavesOpen road demand, leaveOpen]
  rw [(lampCommand_only _ _).counters_eq (by decide), (abortTest_only _).counters_eq (by decide), seqGo_counters]
  exact counted

/-- In OPEN the state told is OPEN or, with the demand taken first, AMBER (R57, R66; log entry 3). -/
theorem readSequencer_open (road : s.seq.state = some .roadOpen) (demand : s.demand = true) :
    ∃ v detail, readSequencer k s = raise .lateClosure (slotTrack k).code detail (emit [.count 16] v) ∧
      (detail = 0 ∨ detail = 1) ∧ Only ([.seq, .lamps, .free] ++ recordBlocks) s v ∧
      v.counters[(16 : Fin 32)] = s.counters[(16 : Fin 32)] := by
  have free := (tookFree_only s).mono (bs := [.seq, .lamps, .free] ++ recordBlocks) (by decide)
  unfold readSequencer
  rw [demand, road, if_pos (by decide)]
  by_cases first : s.order = true
  · have leaves := takeDemand_leavesOpen (s := s.tookFree) road demand
    have amber : (takeDemand s.tookFree).seq.state = some .amber := by rw [leaves, leaveOpen_state]
    rw [if_pos first]
    refine ⟨takeDemand s.tookFree, SeqState.amber.code, lateClosureTest_raises k amber (by decide), .inr rfl, ?_,
      takeDemand_keeps_lateClosures (s := s.tookFree) road demand⟩
    rw [leaves]
    exact free.trans ((leaveOpen_only _ _ _ _).mono (by decide))
  · rw [if_neg first]
    exact ⟨s.tookFree, SeqState.roadOpen.code, lateClosureTest_raises k (s := s.tookFree) road (by decide), .inl rfl, free, rfl⟩

end

/-! ### An axle event at the near island point (R43, R56 to R58) -/

section
variable {p : Fin 12} {t : Track} {d : Dir} {r : TrainRecord} {s : State} (n : Option Nat)
  (track : s.points[p].track = some t)
include track

/-- The axle arrives on the slot's APPROACHING record, or on a new one (R43, R56). -/
theorem takeAxle_arrives (near : s.nearPoint (slotOf t d) = some p)
    (train : (s.slots[slotOf t d].record = some r ∧ r.phase = .approaching) ∨
      (s.slots[slotOf t d].record = none ∧ r = newRecord s.now)) :
    ∃ v, takeAxle p d n s = readSequencer (slotOf t d) v ∧ v.demand = true ∧
      v.slots = s.slots.set (slotOf t d) { s.slots[slotOf t d] with record := some (arrivedAt r s.now) } ∧
      Only [.slots, .log, .notices] s v := by
  unfold takeAxle
  rw [track]
  dsimp only
  rw [if_pos near]
  rcases train with ⟨holds, approaching⟩ | ⟨empty, rfl⟩
  · rw [holds]
    dsimp only
    rw [approaching]
    exact ⟨_, arrival_eq _ _ _, arriveRecord_demand holds p, arriveRecord_slots holds p, arriveRecord_blocks holds p⟩
  · have created := createRecord_blocks (slotOf t d) p s
    have holds : (createRecord (slotOf t d) p s).slots[slotOf t d].record = some (newRecord s.now) := by
      rw [createRecord_slots, Fin.getElem_fin, Vector.getElem_set_self]
    rw [empty]
    refine ⟨_, arrival_eq _ _ _, arriveRecord_demand holds p, ?_, created.trans (arriveRecord_blocks holds p)⟩
    rw [arriveRecord_slots holds, createRecord_slots, (created.clock_eq (by decide)).1]
    simp only [Fin.getElem_fin, Vector.getElem_set_self, Vector.set_set]

/-- Later axles of an arrived train count into the island and change nothing elsewhere (R44, R58). -/
theorem takeAxle_arrived (holds : s.slots[slotOf t d].record = some r) (arrived : r.phase = .arrived) :
    takeAxle p d n s =
      if s.nearPoint (slotOf t d) = some p then
        { s with slots := s.slots.set (slotOf t d) { s.slots[slotOf t d] with
          record := some { r with axlesIn := min 65535 (r.axlesIn + 1) } } }
      else s := by
  by_cases near : s.nearPoint (slotOf t d) = some p
  · have enters : takeAxle p d n s = islandEntry (slotOf t d) s := by
      unfold takeAxle
      rw [track]
      dsimp only
      rw [if_pos near, holds]
      dsimp only
      rw [arrived]
    rw [enters, if_pos near, islandEntry, State.setSlot, upd, holds]
    rfl
  · rw [if_neg near]
    cases upstream : s.upstream (slotOf t d) p with
    | false => exact takeAxle_unseen n track near upstream
    | true =>
      rw [takeAxle_follows n track near upstream holds, if_neg]
      rw [arrived]
      simp

end

/-! ### The statement -/

/-- The arrival by the Sequencer's state (R57). -/
theorem takeAxle_arrival_spec {p : Fin 12} {t : Track} {d : Dir} {r : TrainRecord} {s : State} (n : Option Nat)
    (track : s.points[p].track = some t) (near : s.nearPoint (slotOf t d) = some p)
    (train : (s.slots[slotOf t d].record = some r ∧ r.phase = .approaching) ∨
      (s.slots[slotOf t d].record = none ∧ r = newRecord s.now)) :
    let slots := s.slots.set (slotOf t d) { s.slots[slotOf t d] with record := some (arrivedAt r s.now) }
    (s.seq.state = some .closed → (takeAxle p d n s).slots = slots ∧
      Only [.slots, .log, .notices] s (takeAxle p d n s)) ∧
    (∀ x, s.seq.state = some x → x ≠ .closed → x ≠ .roadOpen → x ≠ .raising →
      ∃ v, takeAxle p d n s = raise .lateClosure t.code x.code v ∧ v.slots = slots ∧
        v.counters[(16 : Fin 32)] = s.counters[(16 : Fin 32)].bumped ∧ Only [.slots, .log, .notices, .counters] s v) ∧
    (s.seq.state = some .roadOpen →
      ∃ v detail, takeAxle p d n s = raise .lateClosure t.code detail v ∧ (detail = 0 ∨ detail = 1) ∧ v.slots = slots ∧
        v.counters[(16 : Fin 32)] = s.counters[(16 : Fin 32)].bumped ∧
        Only ([.slots, .seq, .lamps, .free] ++ recordBlocks) s v) := by
  obtain ⟨v, axle, demand, slots, frame⟩ := takeAxle_arrives n track near train
  have seq : v.seq = s.seq := frame.seq_eq (by decide) (by decide)
  have counters : v.counters = s.counters := frame.counters_eq (by decide)
  rw [axle]
  refine ⟨fun closed => ?_, fun x state notClosed notOpen notRaising => ?_, fun road => ?_⟩
  · rw [readSequencer_closed _ (by rw [seq, closed])]
    exact ⟨slots, frame⟩
  · rw [readSequencer_closing _ (by rw [seq, state]) notClosed notOpen notRaising, slotTrack_slotOf]
    refine ⟨_, rfl, ((emit_count_only 16 v).slots_eq (by decide)).trans slots, ?_,
      frame.seq (emit_count_only 16 v) (by decide) (by decide)⟩
    rw [emit_count_self, counters]
  · obtain ⟨w, detail, reads, told, after, kept⟩ := readSequencer_open (slotOf t d) (by rw [seq, road]) demand
    rw [slotTrack_slotOf] at reads
    refine ⟨_, detail, reads, told, ?_, ?_, (frame.seq after (by decide) (by decide)).trans
      ((emit_count_only 16 w).mono (by decide))⟩
    · rw [(emit_count_only 16 w).slots_eq (by decide), after.slots_eq (by decide), slots]
    · rw [emit_count_self, kept, counters]

/-- Settles O32: the timers and the PREPARED commit are one commit each; the arrival is the record's own part, then the reading of
the Sequencer by its state. -/
theorem trainTimersExpire : Obligations.TrainTimersExpire := by
  unfold Obligations.TrainTimersExpire
  refine ⟨?_, ?_, ?_, ?_, ?_⟩
  · intro k r w s run holds pending timer due
    refine ⟨_, exec_startTimerExpiry run holds pending timer due, ?_, fun j other => ?_,
      commitRecord_wrote holds pending run .timer w, commitRecord_blocks k .timer w false s⟩
    · rw [commitRecord_sets holds pending, Fin.getElem_fin, Vector.getElem_set_self]
    · rw [commitRecord_getElem, if_neg other.symm]
  · intro k r c s run holds done approaching unmarked time aged
    exact exec_longWarningMark run holds done approaching unmarked time aged
  · intro k r s run holds
    refine ⟨fun prepared pending => ?_, testPrepared_stands holds⟩
    have commits : testPrepared k s = commitRecord k .prepared s.now false s := if_pos ((spanPrepared_iff s k).2 prepared)
    rw [commits]
    exact ⟨commitRecord_sets holds pending .prepared s.now, commitRecord_wrote holds pending run .prepared s.now,
      commitRecord_blocks k .prepared s.now false s⟩
  · intro p t d n r s _ track near k train
    exact takeAxle_arrival_spec n track near train
  · intro p t d n r s track holds arrived
    exact takeAxle_arrived n track holds arrived

end Sys2Proof.Machine
end

section
/-! PROOFS. What the Sequencer does as it takes the demand (R64, R66, R71, R73, R76, R77), and the re-open guard (R54, R74). -/

namespace Sys2Proof.Machine

/-! ### A table taken entry by entry -/

theorem upd_getFin {α : Type} {m : Nat} (v : Vector α m) (i : Fin m) (f : α → α) (j : Fin m) :
    (upd v i f)[j] = if i = j then f v[j] else v[j] := by
  simp [Fin.ext_iff]

/-- A fold whose turns each change one entry by its old value, at a time that stands, changes every entry listed once. -/
theorem foldl_getElem_once {β : Type} {m : Nat} {view : State → Vector β m} {f : State → Fin m → State} {g : β → β}
    {now : Time}
    (turn : ∀ t i, t.now = now → (f t i).now = now ∧
      ∀ j : Fin m, (view (f t i))[j] = if i = j then g (view t)[j] else (view t)[j])
    {l : List (Fin m)} (nodup : l.Nodup) {s : State} (start : s.now = now) (j : Fin m) :
    (view (l.foldl f s))[j] = if j ∈ l then g (view s)[j] else (view s)[j] := by
  induction l generalizing s with
  | nil => exact (if_neg List.not_mem_nil).symm
  | cons i l ih =>
    obtain ⟨fresh, nodup⟩ := List.nodup_cons.1 nodup
    obtain ⟨now_, entries⟩ := turn s i start
    rw [List.foldl_cons, ih nodup now_, entries j]
    by_cases here : i = j
    · subst here
      rw [if_neg fresh, if_pos rfl, if_pos List.mem_cons_self]
    · simp only [if_neg here, List.mem_cons, Ne.symm here, false_or]

/-! ### Barrier commands (R106, R109) -/

/-- A command that makes of each barrier it reaches what its old value says reaches the configured ones that pass the test. -/
theorem toBarriers_getElem {p : Barrier → Bool} {f : Fin 4 → State → State} {g : Barrier → Time → Barrier}
    (now : ∀ b t, (f b t).now = t.now) (sets : ∀ b t, (f b t).barriers = upd t.barriers b fun x => g x t.now) (s : State)
    (b : Fin 4) :
    (toBarriers p f s).barriers[b] =
      if s.barriers[b].configured && p s.barriers[b] then g s.barriers[b] s.now else s.barriers[b] := by
  have taken := foldl_getElem_once (view := State.barriers) (now := s.now)
    (f := fun t b => if t.barriers[b].configured && p t.barriers[b] then f b t else t)
    (g := fun x => if x.configured && p x then g x s.now else x) ?_ (l := allBarriers) (by decide) rfl b
  · rwa [if_pos (mem_allBarriers b)] at taken
  · intro t i same
    by_cases reached_ : (t.barriers[i].configured && p t.barriers[i]) = true
    · rw [if_pos reached_]
      refine ⟨(now i t).trans same, fun j => ?_⟩
      rw [sets, same, upd_getFin]
      by_cases here : i = j
      · subst here
        rw [if_pos rfl, if_pos rfl, if_pos reached_]
      · rw [if_neg here, if_neg here]
    · rw [if_neg reached_]
      refine ⟨same, fun j => ?_⟩
      by_cases here : i = j
      · subst here
        rw [if_pos rfl, if_neg reached_]
      · rw [if_neg here]

theorem toBarriers_release (p : Barrier → Bool) (s : State) (b : Fin 4) :
    (toBarriers p releaseBarrier s).barriers[b] =
      if s.barriers[b].configured && p s.barriers[b] then s.barriers[b].released s.now else s.barriers[b] :=
  toBarriers_getElem (f := releaseBarrier) (g := Barrier.released) (fun _ _ => rfl) (fun _ _ => rfl) s b

theorem raiseBarrier_barriers (b : Fin 4) (s : State) :
    (raiseBarrier b s).barriers = upd s.barriers b fun x => x.raised s.now := by
  unfold raiseBarrier
  dsimp only
  split
  · exact (endCondition_only _ _ _).barriers_eq (by decide)
  · rfl

theorem toBarriers_raise (p : Barrier → Bool) (s : State) (b : Fin 4) :
    (toBarriers p raiseBarrier s).barriers[b] =
      if s.barriers[b].configured && p s.barriers[b] then s.barriers[b].raised s.now else s.barriers[b] :=
  toBarriers_getElem (f := raiseBarrier) (g := Barrier.raised) (fun b t => ((raiseBarrier_only b t).clock_eq (by decide)).1)
    raiseBarrier_barriers s b

/-- A barrier is held up by its outputs or driven up: a release finds it so (R106). -/
abbrev Barrier.Up (b : Barrier) : Prop := b.state = some .heldUp ∨ b.state = some .raising

theorem Barrier.lowerFrom_outputs (b : Barrier) (now : Time) :
    (b.lowerFrom now).holdOut = false ∧ (b.lowerFrom now).raiseOut = false := by
  unfold Barrier.lowerFrom
  split <;> exact ⟨rfl, rfl⟩

/-- A release takes a barrier off its outputs, to LOWERING or DOWN (R106, R111). -/
theorem Barrier.released_outputs {b : Barrier} (up : b.Up) (now : Time) :
    (b.released now).holdOut = false ∧ (b.released now).raiseOut = false ∧ ¬(b.released now).Up := by
  have lowers := b.lowerFrom_outputs now
  have state := b.lowerFrom_state now
  unfold Barrier.released
  rcases up with held | raising
  · rw [held]
    exact ⟨lowers.1, lowers.2, by simp [Barrier.Up, state]⟩
  · rw [raising]
    dsimp only
    split
    · exact ⟨rfl, rfl, by simp [Barrier.Up, Barrier.enter, Barrier.still]⟩
    · exact ⟨lowers.1, lowers.2, by simp [Barrier.Up, state]⟩

theorem Barrier.released_of_notUp {b : Barrier} (down : ¬b.Up) (now : Time) : b.released now = b := by
  unfold Barrier.released
  split
  · next held => exact absurd (.inl held) down
  · next raising => exact absurd (.inr raising) down
  · rfl

/-- A raise takes a barrier out of DOWN (R109). -/
theorem Barrier.raised_state {b : Barrier} (down : b.state = some .down) (now : Time) :
    (b.raised now).state = some .raising ∨ (b.raised now).state = some .heldUp := by
  unfold Barrier.raised
  rw [down]
  dsimp only
  split
  · exact .inl rfl
  · split
    · exact .inr rfl
    · exact .inl rfl

/-! ### Lamp commands (R90, R100) -/

theorem Lamp.darken_lit (l : Lamp) (now : Time) (settle : Nat) : (l.darken now settle).lit = false := by
  unfold Lamp.darken
  split
  · rfl
  · next dark => exact Bool.eq_false_iff.2 dark

theorem isAmber_eq (c : Fin 10) : isAmber c = decide (c = 0 ∨ c = 5) := by revert c; decide

theorem LampDriver.forEnabled_getElem (d : LampDriver) (f : Fin 10 → Lamp → Lamp) {c : Fin 10}
    (enabled : d.lamps[c].enabled = true) : (d.forEnabled f).lamps[c] = f c d.lamps[c] := by
  unfold LampDriver.forEnabled
  dsimp only
  rw [Fin.getElem_fin, remake_getElem]
  exact if_pos enabled

theorem LampDriver.amber_lit (d : LampDriver) (now : Time) {c : Fin 10} (enabled : d.lamps[c].enabled = true) :
    (d.command .amber now).lamps[c].lit = decide (c = 0 ∨ c = 5) := by
  have driven := d.forEnabled_getElem (fun c l =>
    if isAmber c then l.light (some (later now d.flash.settle)) else l.darken now d.flash.settle) enabled
  refine (congrArg Lamp.lit driven).trans ?_
  rw [← isAmber_eq]
  cases isAmber c with
  | true => rfl
  | false => exact Lamp.darken_lit _ _ _

theorem LampDriver.redStart_gen (d : LampDriver) (now : Time) : (d.command .redStart now).gen.isSome = true := rfl

theorem LampDriver.redContinue_gen (d : LampDriver) (now : Time) : (d.command .redContinue now).gen.isSome = true := by
  unfold LampDriver.command
  dsimp only
  split
  · next runs => exact runs
  · rfl

theorem abortTest_lamps (s : State) : (abortTest s).lamps = { s.lamps with test := none } := by
  unfold abortTest
  split
  · next idle => rw [← idle]
  · exact (queueNotice_only _ _).lamps_eq (by decide)

/-! ### Leaving OPEN (R66) -/

theorem leaveOpen_seq (x : SeqState) (c : SeqCause) (l : LampCmd) (s : State) :
    (leaveOpen x c l s).seq = { s.seq with
      state := some x, entry := s.now, closureStart := s.now, counted := true, longBin := false, longFlag := false } := by
  have counted := emit_count_only 12 (s.setSeq fun q =>
    { q with closureStart := s.now, counted := true, longBin := false, longFlag := false })
  unfold leaveOpen seqGo
  dsimp only
  rw [(lampCommand_only _ _).seq_eq (by decide) (by decide), (abortTest_only _).seq_eq (by decide) (by decide),
    (emit_only _ _).seq_eq (by decide) (by decide), State.setSeq_seq]
  dsimp only [cntClosures]
  rw [counted.seq_eq (by decide) (by decide), (counted.clock_eq (by decide)).1]
  rfl

theorem leaveOpen_lamps (x : SeqState) (c : SeqCause) (l : LampCmd) (s : State) :
    (leaveOpen x c l s).lamps = ({ s.lamps with test := none } : LampDriver).command l s.now := by
  have before : ∀ short (t : State), t.lamps = s.lamps → t.now = s.now →
      (lampCommand l (abortTest (seqGo x c short none t))).lamps =
        ({ s.lamps with test := none } : LampDriver).command l s.now := fun short t lamps now => by
    have moved := seqGo_only x c short none t
    change (abortTest _).lamps.command l (abortTest _).now = _
    rw [abortTest_lamps, ((abortTest_only _).clock_eq (by decide)).1, moved.lamps_eq (by decide),
      (moved.clock_eq (by decide)).1, lamps, now]
  have counted := emit_count_only 12 (s.setSeq fun q =>
    { q with closureStart := s.now, counted := true, longBin := false, longFlag := false })
  exact before _ _ (counted.lamps_eq (by decide)) (counted.clock_eq (by decide)).1

/-! ### A closing that goes on (R69, R70, R77) -/

/-- The demand follows the slots, the sections, the hold set and the mode (R64). -/
theorem demand_congr {s t : State} (slots : t.slots = s.slots) (sections : t.sections = s.sections)
    (signaller : t.seq.holdSignaller = s.seq.holdSignaller) (local_ : t.seq.holdLocal = s.seq.holdLocal)
    (faults : t.faults = s.faults) : t.demand = s.demand := by
  unfold State.demand
  rw [slots, sections, signaller, local_, faults]

/-- From one state of a closing to a later one: the closure and the demand stand, the reds flash on, no released barrier is
moved. -/
structure ClosesOn (s t : State) : Prop where
  demand : t.demand = s.demand
  closureStart : t.seq.closureStart = s.seq.closureStart
  counted : t.seq.counted = s.seq.counted
  closures : CountKept 12 s t
  gen : s.lamps.gen.isSome = true → t.lamps.gen.isSome = true
  released : ∀ b : Fin 4, ¬s.barriers[b].Up → t.barriers[b] = s.barriers[b]

theorem ClosesOn.refl (s : State) : ClosesOn s s := ⟨rfl, rfl, rfl, .refl _ _, id, fun _ _ => rfl⟩

theorem ClosesOn.trans {s t u : State} (h : ClosesOn s t) (h' : ClosesOn t u) : ClosesOn s u where
  demand := h'.demand.trans h.demand
  closureStart := h'.closureStart.trans h.closureStart
  counted := h'.counted.trans h.counted
  closures := h.closures.trans h'.closures
  gen := h'.gen ∘ h.gen
  released := fun b down => by
    have same := h.released b down
    exact (h'.released b (by rwa [same])).trans same

/-- The exit-delay mark is no part of what stands. -/
theorem closesOn_exitMark (s : State) (mark : Option Time) : ClosesOn s (s.setSeq fun q => { q with exitMark := mark }) :=
  ⟨rfl, rfl, rfl, .refl _ _, id, fun _ _ => rfl⟩

theorem seqMove_seq (x : SeqState) (c : SeqCause) (s : State) : (seqMove x c s).seq = { s.seq with state := some x, entry := s.now } :=
  (emit_only _ _).seq_eq (by decide) (by decide)

section
variable (x : SeqState) (c : SeqCause) (l : LampCmd) (p : Barrier → Bool) (s : State)

theorem moveAndRelease_seq :
    (toBarriers p releaseBarrier (lampCommand l (seqMove x c s))).seq = { s.seq with state := some x, entry := s.now } := by
  rw [(toBarriers_only p _ releaseBarrier_only _).seq_eq (by decide) (by decide),
    (lampCommand_only l _).seq_eq (by decide) (by decide), seqMove_seq]

theorem moveAndRelease_lamps :
    (toBarriers p releaseBarrier (lampCommand l (seqMove x c s))).lamps = s.lamps.command l s.now := by
  have moved := seqMove_only x c s
  rw [(toBarriers_only p _ releaseBarrier_only _).lamps_eq (by decide)]
  change (seqMove x c s).lamps.command l (seqMove x c s).now = _
  rw [moved.lamps_eq (by decide), (moved.clock_eq (by decide)).1]

theorem moveAndRelease_barriers (b : Fin 4) :
    (toBarriers p releaseBarrier (lampCommand l (seqMove x c s))).barriers[b] =
      if s.barriers[b].configured && p s.barriers[b] then s.barriers[b].released s.now else s.barriers[b] := by
  have before : Only ([.seq, .lamps] ++ recordBlocks) s (lampCommand l (seqMove x c s)) :=
    (seqMove_only x c s).seq (lampCommand_only l _) (by decide) (by decide)
  rw [toBarriers_release, before.barriers_eq (by decide), (before.clock_eq (by decide)).1]

/-- A move with a red command and a release. -/
theorem closesOn_moveAndRelease (red : (s.lamps.command l s.now).gen.isSome = true) :
    ClosesOn s (toBarriers p releaseBarrier (lampCommand l (seqMove x c s))) where
  demand := by
    have frame := moveAndRelease_only x c l p s
    have seq := moveAndRelease_seq x c l p s
    exact demand_congr (frame.slots_eq (by decide)) (frame.sections_eq (by decide)) (by rw [seq]) (by rw [seq])
      (frame.faults_eq (by decide))
  closureStart := by rw [moveAndRelease_seq]
  counted := by rw [moveAndRelease_seq]
  closures := moveAndRelease_kept x c l p s
  gen := fun _ => by rw [moveAndRelease_lamps]; exact red
  released := fun b down => by rw [moveAndRelease_barriers, Barrier.released_of_notUp down, ite_self]

end

/-- The Sequencer stands in a state that closes the road behind its reds (R68 to R73). -/
abbrev Closing (s : State) : Prop :=
  s.seq.state = some .lowerEntry ∨ s.seq.state = some .lowerExit ∨ s.seq.state = some .closed

theorem testClosed_of_demand {s : State} (demand : s.demand = true) : testClosed s = s := by
  unfold testClosed
  exact if_neg fun h => absurd (demand.symm.trans h.2.1) (by decide)

section
variable {s : State} (demand : s.demand = true)
include demand

theorem enterClosed_closesOn : ClosesOn s (enterClosed s) ∧ Closing (enterClosed s) := by
  have closes := closesOn_moveAndRelease .closed .barriers .redContinue Barrier.notReleased s (LampDriver.redContinue_gen _ _)
  have stays : enterClosed s = toBarriers Barrier.notReleased releaseBarrier (lampCommand .redContinue (seqMove .closed .barriers s)) :=
    testClosed_of_demand (closes.demand.trans demand)
  rw [stays]
  exact ⟨closes, .inr (.inr (by rw [moveAndRelease_seq]))⟩

theorem testLowerExit_closesOn (closing : Closing s) : ClosesOn s (testLowerExit s) ∧ Closing (testLowerExit s) := by
  unfold testLowerExit
  split
  · exact enterClosed_closesOn demand
  · exact ⟨.refl s, closing⟩

theorem enterLowerExit_closesOn : ClosesOn s (enterLowerExit s) ∧ Closing (enterLowerExit s) := by
  have closes := closesOn_moveAndRelease .lowerExit .barriers .redContinue Barrier.isExit s (LampDriver.redContinue_gen _ _)
  obtain ⟨on, closing⟩ := testLowerExit_closesOn (closes.demand.trans demand)
    (.inr (.inl (by rw [moveAndRelease_seq])))
  exact ⟨closes.trans on, closing⟩

theorem testLowerEntry_closesOn (closing : Closing s) : ClosesOn s (testLowerEntry s) ∧ Closing (testLowerEntry s) := by
  have unmarked := closesOn_exitMark s none
  unfold testLowerEntry
  split
  · dsimp only
    split
    · obtain ⟨on, closing⟩ := enterLowerExit_closesOn (unmarked.demand.trans demand)
      exact ⟨unmarked.trans on, closing⟩
    · obtain ⟨on, closing⟩ := enterClosed_closesOn (unmarked.demand.trans demand)
      exact ⟨unmarked.trans on, closing⟩
  · exact ⟨.refl s, closing⟩

end

/-- What a re-closure releases (R77). -/
def recloseTakes (b : Barrier) : Bool := b.state == some .raising || b.isEntry

theorem recloseTakes_of_raising {b : Barrier} (h : b.state = some .raising) : recloseTakes b = true := by
  simp [recloseTakes, h]

theorem recloseTakes_of_entry {b : Barrier} (h : b.role = .entry) : recloseTakes b = true := by
  simp [recloseTakes, Barrier.isEntry, h]

theorem reclose_eq (s : State) :
    reclose s = testLowerEntry (setExitMark
      (toBarriers recloseTakes releaseBarrier (lampCommand .redStart (seqMove .lowerEntry .demand s)))) := rfl

/-- A re-closure goes to LOWER_ENTRY or beyond, the closure going on and the barriers in motion released (R77). -/
theorem reclose_closesOn {s : State} (demand : s.demand = true) :
    Closing (reclose s) ∧ ClosesOn s (reclose s) ∧ (reclose s).lamps.gen.isSome = true ∧
      ∀ b : Fin 4, s.barriers[b].configured = true → recloseTakes s.barriers[b] = true → s.barriers[b].Up →
        (reclose s).barriers[b].holdOut = false ∧ (reclose s).barriers[b].raiseOut = false := by
  rw [reclose_eq]
  have closes := closesOn_moveAndRelease .lowerEntry .demand .redStart recloseTakes s (LampDriver.redStart_gen _ _)
  have seq := moveAndRelease_seq .lowerEntry .demand .redStart recloseTakes s
  have lamps := moveAndRelease_lamps .lowerEntry .demand .redStart recloseTakes s
  have barriers := moveAndRelease_barriers .lowerEntry .demand .redStart recloseTakes s
  generalize toBarriers recloseTakes releaseBarrier (lampCommand .redStart (seqMove .lowerEntry .demand s)) = u at *
  have marked := closesOn_exitMark u (some (later u.now u.seq.tExitDelay))
  obtain ⟨on, closing⟩ := testLowerEntry_closesOn (s := setExitMark u) (marked.demand.trans (closes.demand.trans demand))
    (.inl (by change u.seq.state = _; rw [seq]))
  refine ⟨closing, closes.trans (marked.trans on), on.gen (marked.gen ?_), fun b configured taken up => ?_⟩
  · rw [lamps]
    exact LampDriver.redStart_gen _ _
  · have released := barriers b
    rw [configured, taken, if_pos (by decide)] at released
    obtain ⟨holdOut, raiseOut, down⟩ := Barrier.released_outputs up s.now
    rw [(marked.trans on).released b (by rwa [released]), released]
    exact ⟨holdOut, raiseOut⟩

/-! ### The re-open guard (R54, R74) -/

theorem guardTakes_iff (now : Time) (g : Nat) (x : Slot) :
    guardTakes now g x = true ↔
      ∃ r w, x.record = some r ∧ r.committed = false ∧ r.warningS = some w ∧ elapsed w now ≤ g := by
  unfold guardTakes
  constructor
  · intro taken
    split at taken
    · exact absurd taken (by decide)
    · next r holds =>
      rw [Bool.and_eq_true, Bool.not_eq_true'] at taken
      obtain ⟨pending, near⟩ := taken
      split at near
      · exact absurd near (by decide)
      · next w start => exact ⟨r, w, holds, pending, start, of_decide_eq_true near⟩
  · rintro ⟨r, w, holds, pending, start, near⟩
    rw [holds]
    dsimp only
    rw [pending, start]
    exact decide_eq_true near

theorem guardFinds_iff (g : Nat) (s : State) :
    guardFinds g s = true ↔ ∃ k : Fin 4, guardTakes s.now g s.slots[k] = true := by
  unfold guardFinds
  rw [List.any_eq_true]
  exact ⟨fun ⟨k, _, h⟩ => ⟨k, h⟩, fun ⟨k, h⟩ => ⟨k, mem_allSlots k, h⟩⟩

theorem guardCommit_blocks (g : Nat) (s : State) : Only [.slots, .log, .notices] s (guardCommit g s) :=
  Only.foldl (fun s k => Only.ite (commitRecord_blocks k .guard s.now false s) (Only.refl _ s)) _ _

theorem guardCommit_getElem (g : Nat) (s : State) (k : Fin 4) :
    (guardCommit g s).slots[k] =
      if guardTakes s.now g s.slots[k] then
        { s.slots[k] with record := s.slots[k].record.map fun r => committedBy r .guard s.now }
      else s.slots[k] := by
  have taken := foldl_getElem_once (view := State.slots) (now := s.now)
    (f := fun t k => if guardTakes t.now g t.slots[k] then commitRecord k .guard t.now false t else t)
    (g := fun x => if guardTakes s.now g x then x.committing .guard s.now false else x) ?_ (l := allSlots) (by decide) rfl k
  · rw [if_pos (mem_allSlots k)] at taken
    refine taken.trans (ite_congr rfl (fun takes => ?_) fun _ => rfl)
    obtain ⟨r, w, holds, pending, -⟩ := (guardTakes_iff _ _ _).1 takes
    rw [Slot.committing_of_pending holds pending, commit_eq, holds]
    rfl
  · intro t i same
    rw [same]
    by_cases takes : guardTakes s.now g t.slots[i] = true
    · rw [if_pos takes]
      refine ⟨((commitRecord_blocks i .guard s.now false t).clock_eq (by decide)).1.trans same, fun j => ?_⟩
      rw [commitRecord_getElem]
      by_cases here : i = j
      · subst here
        rw [if_pos rfl, if_pos rfl, if_pos takes]
      · rw [if_neg here, if_neg here]
    · rw [if_neg takes]
      refine ⟨same, fun j => ?_⟩
      by_cases here : i = j
      · subst here
        rw [if_pos rfl, if_neg takes]
      · rw [if_neg here]

/-- The largest value taken bounds every value taken, and is one of them or the start (R74). -/
theorem largestOf_spec (s : State) (p : Barrier → Bool) (f : Barrier → Nat) :
    (∀ b : Fin 4, s.barriers[b].configured = true → p s.barriers[b] = true → f s.barriers[b] ≤ s.largestOf p f) ∧
      (s.largestOf p f = 0 ∨
        ∃ b : Fin 4, s.barriers[b].configured = true ∧ p s.barriers[b] = true ∧ f s.barriers[b] = s.largestOf p f) := by
  have above : ∀ n, n < s.largestOf p f ↔
      ∃ b ∈ allBarriers, (s.barriers[b].configured && p s.barriers[b]) = true ∧ n < f s.barriers[b] := fun n => by
    have exceeds := lt_add_foldl_max allBarriers (fun b => s.barriers[b].configured && p s.barriers[b])
      (fun b => f s.barriers[b]) n 0 0
    simp only [Nat.zero_add, Nat.not_lt_zero, false_or] at exceeds
    exact exceeds
  have bound : ∀ b : Fin 4, s.barriers[b].configured = true → p s.barriers[b] = true →
      f s.barriers[b] ≤ s.largestOf p f := fun b configured passes => by
    by_contra exceeds
    exact Nat.lt_irrefl _ ((above (s.largestOf p f)).2
      ⟨b, mem_allBarriers b, Bool.and_eq_true_iff.2 ⟨configured, passes⟩, not_le.1 exceeds⟩)
  refine ⟨bound, ?_⟩
  rcases Nat.eq_zero_or_pos (s.largestOf p f) with zero | positive
  · exact .inl zero
  · obtain ⟨b, -, taken, reaches⟩ := (above (s.largestOf p f - 1)).1 (Nat.sub_lt positive Nat.one_pos)
    obtain ⟨configured, passes⟩ := Bool.and_eq_true_iff.1 taken
    have below := bound b configured passes
    exact .inr ⟨b, configured, passes, by omega⟩

/-! ### Leaving CLOSED (R73, R76) -/

theorem barriersAll_down_iff (s : State) :
    s.barriersAll Barrier.isDown = true ↔
      ∀ b : Fin 4, s.barriers[b].configured = true → s.barriers[b].state = some .down := by
  unfold State.barriersAll Barrier.isDown
  rw [List.all_eq_true]
  simp only [Bool.or_eq_true, Bool.not_eq_true', beq_iff_eq]
  constructor
  · intro h b configured
    exact (h b (mem_allBarriers b)).resolve_left fun off => absurd (configured.symm.trans off) (by decide)
  · intro h b _
    cases configured : s.barriers[b].configured with
    | false => exact .inl rfl
    | true => exact .inr (h b configured)

theorem seqGo_state (x : SeqState) (c : SeqCause) (short : Bool) (len : Option Nat) (s : State) :
    (seqGo x c short len s).seq.state = some x :=
  congrArg Sequencer.state ((emit_only _ _).seq_eq (by decide) (by decide))

/-- Entry into OPEN: the Sequencer's move, then its lamp command, the histogram and the end of LONG_CLOSURE (R76, R80, R81). -/
theorem enterOpen_split (s : State) :
    ∃ u, u.seq.state = some .roadOpen ∧ Only (.seq :: recordBlocks) s u ∧
      Only ([.lamps, .faults] ++ recordBlocks) u (enterOpen s) := by
  have bins : ∀ (len : Option Nat) (t : State), Only ([.lamps, .faults] ++ recordBlocks) t
      (match len with | some ms => emit [.count (cntClosureBin ms)] t | none => t) := fun len t => by
    cases len with
    | none => exact Only.refl _ t
    | some ms => exact (emit_only _ t).mono (by decide)
  have ends := fun t => (endCondition_only .longClosure 0 t).mono (bs := [.lamps, .faults] ++ recordBlocks) (by decide)
  have dark := fun t => (lampCommand_only .dark t).mono (bs := [.lamps, .faults] ++ recordBlocks) (by decide)
  have opens := (setSeq_only s (fun q =>
    { q with counted := false, longFlag := false, openMark := decide (q.tMinOpen = 0) }) rfl rfl rfl).mono
      (bs := .seq :: recordBlocks) (by decide)
  refine ⟨seqGo .roadOpen .barriers false (if s.seq.counted then some (s.seq.closureLength s.now) else none) _,
    seqGo_state .., opens.trans (seqGo_only .roadOpen .barriers false _ _), ?_⟩
  unfold enterOpen
  exact ((dark _).trans (bins _ _)).trans (Only.ite (ends _) (Only.refl _ _))

theorem enterRaising_effect {s : State} (down : ∀ b : Fin 4, s.barriers[b].configured = true → s.barriers[b].state = some .down) :
    (enterRaising s).slots = s.slots ∧
      ((enterRaising s).seq.state = some .raising ∨ (enterRaising s).seq.state = some .roadOpen) ∧
      ∀ b : Fin 4, s.barriers[b].configured = true →
        (enterRaising s).barriers[b].state = some .raising ∨ (enterRaising s).barriers[b].state = some .heldUp := by
  have before : Only ([.seq, .lamps] ++ recordBlocks) s (lampCommand .redContinue (seqMove .raising .guardPassed s)) :=
    (seqMove_only _ _ s).seq (lampCommand_only _ _) (by decide) (by decide)
  have moved := moveAndRaise_only .raising .guardPassed .redContinue (fun _ => true) s
  have state : (toBarriers (fun _ => true) raiseBarrier (lampCommand .redContinue (seqMove .raising .guardPassed s))).seq.state =
      some .raising := by
    rw [(toBarriers_only _ _ raiseBarrier_only _).seq_eq (by decide) (by decide),
      (lampCommand_only _ _).seq_eq (by decide) (by decide), seqMove_seq]
  have raised : ∀ b : Fin 4, s.barriers[b].configured = true →
      (toBarriers (fun _ => true) raiseBarrier (lampCommand .redContinue (seqMove .raising .guardPassed s))).barriers[b].state =
        some .raising ∨
      (toBarriers (fun _ => true) raiseBarrier (lampCommand .redContinue (seqMove .raising .guardPassed s))).barriers[b].state =
        some .heldUp := fun b configured => by
    rw [toBarriers_raise, before.barriers_eq (by decide), configured, if_pos (by decide)]
    exact Barrier.raised_state (down b configured) _
  change (testRaising _).slots = _ ∧ ((testRaising _).seq.state = _ ∨ (testRaising _).seq.state = _) ∧ _
  unfold enterRaising
  dsimp only
  generalize toBarriers (fun _ => true) raiseBarrier (lampCommand .redContinue (seqMove .raising .guardPassed s)) = u at *
  by_cases up : u.seq.state = some .raising ∧ u.barriersAll Barrier.isHeldUp
  · obtain ⟨v, open_, first, rest⟩ := enterOpen_split u
    have opens : testRaising u = enterOpen u := if_pos up
    rw [opens]
    refine ⟨?_, .inr ?_, fun b configured => ?_⟩
    · rw [rest.slots_eq (by decide), first.slots_eq (by decide), moved.slots_eq (by decide)]
    · rw [rest.seq_eq (by decide) (by decide), open_]
    · rw [rest.barriers_eq (by decide), first.barriers_eq (by decide)]
      exact raised b configured
  · have waits : testRaising u = u := if_neg up
    rw [waits]
    exact ⟨moved.slots_eq (by decide), .inl state, raised⟩

/-! ### The statement -/

section
variable {s : State}

theorem takeDemand_closing
    (state : s.seq.state = none ∨ s.seq.state = some .amber ∨ s.seq.state = some .redWait ∨
      s.seq.state = some .lowerEntry ∨ s.seq.state = some .lowerExit) : takeDemand s = s := by
  unfold takeDemand
  rcases state with state | state | state | state | state <;> rw [state]

theorem takeDemand_undemanded (state : s.seq.state = some .roadOpen ∨ s.seq.state = some .raising)
    (absent : s.demand = false) : takeDemand s = s := by
  unfold takeDemand
  rcases state with state | state <;> rw [state, absent] <;> rfl

theorem takeDemand_raising (raising : s.seq.state = some .raising) (demand : s.demand = true) :
    takeDemand s = reclose s := by
  unfold takeDemand
  rw [raising]
  exact if_pos demand

theorem takeDemand_closed (closed : s.seq.state = some .closed) : takeDemand s = testClosed s := by
  unfold takeDemand
  rw [closed]

theorem takeDemand_held (closed : s.seq.state = some .closed)
    (held : s.demand = true ∨ ∃ b : Fin 4, s.barriers[b].configured = true ∧ s.barriers[b].state ≠ some .down) :
    takeDemand s = s := by
  rw [takeDemand_closed closed]
  rcases held with demand | ⟨b, configured, notDown⟩
  · exact testClosed_of_demand demand
  · exact if_neg fun h => notDown ((barriersAll_down_iff s).1 h.2.2 b configured)

/-- OPEN with the demand goes to AMBER, a lamp test aborted (R66, R100). -/
theorem takeDemand_toAmber (road : s.seq.state = some .roadOpen) (demand : s.demand = true) :
    (takeDemand s).seq = { s.seq with
      state := some .amber, entry := s.now, closureStart := s.now, counted := true, longBin := false,
      longFlag := false } ∧
    (takeDemand s).counters[(12 : Fin 32)] = s.counters[(12 : Fin 32)].bumped ∧
    (takeDemand s).lamps.gen = none ∧ (takeDemand s).lamps.test = none ∧
    (∀ c : Fin 10, s.lamps.lamps[c].enabled = true → (takeDemand s).lamps.lamps[c].lit = decide (c = 0 ∨ c = 5)) ∧
    Only [.seq, .lamps, .log, .notices, .reports, .counters] s (takeDemand s) := by
  rw [takeDemand_leavesOpen road demand, leaveOpen_closures, leaveOpen_seq, leaveOpen_lamps]
  exact ⟨rfl, rfl, rfl, rfl, fun c enabled => LampDriver.amber_lit { s.lamps with test := none } s.now enabled,
    (leaveOpen_only _ _ _ s).mono (by decide)⟩

/-- RAISING with the demand closes again (R77). -/
theorem takeDemand_recloses (raising : s.seq.state = some .raising) (demand : s.demand = true) :
    ((takeDemand s).seq.state = some .lowerEntry ∨ (takeDemand s).seq.state = some .lowerExit ∨
      (takeDemand s).seq.state = some .closed) ∧
    (takeDemand s).seq.closureStart = s.seq.closureStart ∧ (takeDemand s).seq.counted = s.seq.counted ∧
    (takeDemand s).counters[(12 : Fin 32)] = s.counters[(12 : Fin 32)] ∧
    (takeDemand s).lamps.gen.isSome = true ∧
    (∀ b : Fin 4, s.barriers[b].configured = true →
      (s.barriers[b].state = some .raising ∨ (s.barriers[b].state = some .heldUp ∧ s.barriers[b].role = .entry)) →
      (takeDemand s).barriers[b].holdOut = false ∧ (takeDemand s).barriers[b].raiseOut = false) := by
  obtain ⟨closing, on, gen, released⟩ := reclose_closesOn demand
  rw [takeDemand_raising raising demand]
  refine ⟨closing, on.closureStart, on.counted, on.closures, gen, fun b configured takes => ?_⟩
  rcases takes with state | ⟨state, role⟩
  · exact released b configured (recloseTakes_of_raising state) (.inr state)
  · exact released b configured (recloseTakes_of_entry role) (.inl state)

/-- CLOSED without the demand and with the barriers down is left unless the guard finds a record (R73, R74, R76). -/
theorem takeDemand_fromClosed (closed : s.seq.state = some .closed) (absent : s.demand = false)
    (down : ∀ b : Fin 4, s.barriers[b].configured = true → s.barriers[b].state = some .down) :
    if ∃ k : Fin 4, guardTakes s.now s.guardMs s.slots[k] = true then
      (takeDemand s).seq = s.seq ∧ Only [.slots, .log, .notices] s (takeDemand s) ∧
      ∀ k : Fin 4, (takeDemand s).slots[k] =
        if guardTakes s.now s.guardMs s.slots[k] then
          { s.slots[k] with record := s.slots[k].record.map fun r => committedBy r .guard s.now }
        else s.slots[k]
    else
      (takeDemand s).slots = s.slots ∧
      ((takeDemand s).seq.state = some .raising ∨ (takeDemand s).seq.state = some .roadOpen) ∧
      ∀ b : Fin 4, s.barriers[b].configured = true →
        (takeDemand s).barriers[b].state = some .raising ∨ (takeDemand s).barriers[b].state = some .heldUp := by
  have tested : takeDemand s = if guardFinds s.guardMs s then guardCommit s.guardMs s else enterRaising s :=
    (takeDemand_closed closed).trans (if_pos ⟨closed, absent, (barriersAll_down_iff s).2 down⟩)
  rw [tested]
  split
  · next found =>
    have frame := guardCommit_blocks s.guardMs s
    rw [if_pos ((guardFinds_iff _ s).2 found)]
    exact ⟨frame.seq_eq (by decide) (by decide), frame, guardCommit_getElem s.guardMs s⟩
  · next none_ =>
    rw [if_neg (mt (guardFinds_iff _ s).1 none_)]
    exact enterRaising_effect down

end

/-- Settles O36: one lemma for each state of the Sequencer; the guard time is the largest limit's, the guard's reach its test. -/
theorem takingTheDemand : Obligations.TakingTheDemand := by
  unfold Obligations.TakingTheDemand
  intro s
  obtain ⟨bound, reached_⟩ := largestOf_spec s (fun _ => true) fun b => b.raise.total
  refine ⟨takeDemand_closing, takeDemand_undemanded, takeDemand_held, takeDemand_toAmber, takeDemand_recloses,
    takeDemand_fromClosed, ⟨_, rfl, fun b configured => bound b configured rfl, ?_⟩,
    fun k g => guardTakes_iff s.now g s.slots[k]⟩
  exact reached_.imp_right fun ⟨b, configured, _, equal⟩ => ⟨b, configured, equal⟩

end Sys2Proof.Machine
end

section
/-! PROOFS. The marks of an open road and of a closure, at their times (R66, R80, R81). -/

namespace Sys2Proof.Machine

theorem openMarkDue_eq {s : State} (run : s.part = .run) (road : s.seq.state = some .roadOpen)
    (unmarked : s.seq.openMark = false) (passed : s.seq.tMinOpen ≤ elapsed s.now s.seq.entry) : s.openMarkDue = true := by
  simp [State.openMarkDue, State.inSeq, run, road, unmarked, passed]

/-- The Sequencer is out of OPEN in RUN: a closure goes on (R80). -/
theorem closing_of_state {x : SeqState} {s : State} (run : s.part = .run) (state : s.seq.state = some x)
    (out : x ≠ .roadOpen) : s.closing = true := by
  simp [State.closing, run, state, out]

/-- Settles O34: each command is due as its hypotheses say, and sets its mark. -/
theorem closureMarksAreSet : Obligations.ClosureMarksAreSet := by
  unfold Obligations.ClosureMarksAreSet
  refine ⟨fun s run road unmarked passed => ?_, fun x s run state out unmarked passed => ?_,
    fun x s run state out unmarked passed => ?_⟩
  · exact congrArg Host.Outcome.next (if_pos (openMarkDue_eq run road unmarked passed))
  · have due : s.longBinDue = true := by
      simp [State.longBinDue, closing_of_state run state out, unmarked, Config.longBinMs, passed]
    exact congrArg Host.Outcome.next (if_pos due)
  · have due : s.longClosureDue = true := by
      simp [State.longClosureDue, closing_of_state run state out, unmarked, passed]
    exact congrArg Host.Outcome.next (if_pos due)

end Sys2Proof.Machine
end

section
/-! PROOFS. The latch and the mode over what the Fault Manager does (R130, R131, R134): the latch is set while a SEVERE record is
active, and the mode is the derived one. -/

namespace Sys2Proof.Machine

/-! ### The two laws of the Fault Manager -/

/-- The latch is set while a SEVERE record is active (R130). -/
def FaultManager.Latched (f : FaultManager) : Prop := f.anyActive .severe = true → f.latch = true

/-- The mode is the one R131 derives. -/
def FaultManager.Derives (f : FaultManager) : Prop := f.mode = some f.derived

/-- One Fault Manager follows another: the laws of the latch and of the mode go over from it. -/
structure FaultManager.Follows (f g : FaultManager) : Prop where
  latched : f.Latched → g.Latched
  derives : f.Derives → g.Derives

theorem FaultManager.Follows.refl (f : FaultManager) : f.Follows f := ⟨id, id⟩

theorem FaultManager.Follows.trans {f g h : FaultManager} (a : f.Follows g) (b : g.Follows h) : f.Follows h :=
  ⟨b.latched ∘ a.latched, b.derives ∘ a.derives⟩

theorem mem_allFaultSlots (i : Fin 32) : i ∈ allFaultSlots := by revert i; decide

theorem anyActive_iff (f : FaultManager) (c : FaultClass) :
    f.anyActive c = true ↔ ∃ i : Fin 32, ∃ r, f.table[i].record = some r ∧ r.cls = c ∧ r.active = true := by
  simp only [FaultManager.anyActive, List.any_eq_true, Option.any_eq_true, Bool.and_eq_true, beq_iff_eq]
  exact ⟨fun ⟨i, _, r, holds, cls, active⟩ => ⟨i, r, holds, cls, active⟩,
    fun ⟨i, r, holds, cls, active⟩ => ⟨i, mem_allFaultSlots i, r, holds, cls, active⟩⟩

/-! ### What leaves the records' classes and activity -/

/-- What the mode reads of a record: its class and whether it is active (R131). -/
def FaultRecord.weight (r : FaultRecord) : FaultClass × Bool := (r.cls, r.active)

/-- Two Fault Managers differ at most in what neither the latch nor the mode reads. -/
structure FaultManager.Alike (f g : FaultManager) : Prop where
  mode : g.mode = f.mode
  latch : g.latch = f.latch
  records : ∀ i : Fin 32, g.table[i].record.map FaultRecord.weight = f.table[i].record.map FaultRecord.weight

theorem FaultManager.Alike.refl (f : FaultManager) : f.Alike f := ⟨rfl, rfl, fun _ => rfl⟩

theorem FaultManager.Alike.trans {f g h : FaultManager} (a : f.Alike g) (b : g.Alike h) : f.Alike h :=
  ⟨b.mode.trans a.mode, b.latch.trans a.latch, fun i => (b.records i).trans (a.records i)⟩

/-- A change of the marks beside the records. -/
theorem FaultManager.alike_of_records {f : FaultManager} {t : Vector FaultSlot 32}
    (h : ∀ i : Fin 32, t[i].record.map FaultRecord.weight = f.table[i].record.map FaultRecord.weight) :
    f.Alike { f with table := t } := ⟨rfl, rfl, h⟩

theorem any_weight (r : Option FaultRecord) (c : FaultClass) :
    (r.any fun r => r.cls == c && r.active) = (r.map FaultRecord.weight).any fun w => w.1 == c && w.2 := by
  cases r <;> rfl

theorem FaultManager.Alike.anyActive {f g : FaultManager} (h : f.Alike g) (c : FaultClass) :
    g.anyActive c = f.anyActive c := by
  unfold FaultManager.anyActive
  simp only [any_weight, h.records]

theorem FaultManager.Alike.follows {f g : FaultManager} (h : f.Alike g) : f.Follows g := by
  refine ⟨fun latched active => ?_, fun derives => ?_⟩
  · rw [h.latch]
    exact latched (by rwa [h.anyActive] at active)
  · unfold FaultManager.Derives FaultManager.derived at *
    rw [h.mode, h.latch, h.anyActive, derives]

/-! ### One slot's record -/

/-- A change of one slot keeps the latch's law if its new record does. -/
theorem FaultManager.Latched.set {f g : FaultManager} (h : f.Latched) {i : Fin 32}
    (others : ∀ j : Fin 32, j ≠ i → g.table[j] = f.table[j]) (latch : f.latch = true → g.latch = true)
    (here : ∀ r, g.table[i].record = some r → r.cls = .severe → r.active = true → g.latch = true) : g.Latched := by
  intro active
  obtain ⟨j, r, holds, cls, on⟩ := (anyActive_iff g .severe).1 active
  by_cases e : j = i
  · subst e
    exact here r holds cls on
  · rw [others j e] at holds
    exact latch (h ((anyActive_iff f .severe).2 ⟨j, r, holds, cls, on⟩))

/-- A change of the Fault Manager keeps the latch's law. -/
def FaultManager.KeepsLatch (f : FaultManager) (x : FaultStep) : Prop := f.Latched → x.1.Latched

theorem FaultManager.keepsLatch_refl (f : FaultManager) (os : List Output) : f.KeepsLatch (f, os) := id

theorem FaultManager.KeepsLatch.next {f : FaultManager} {x : FaultStep} {g : FaultManager → FaultStep}
    (h : f.KeepsLatch x) (h' : x.1.KeepsLatch (g x.1)) : f.KeepsLatch (x.next g) := h' ∘ h

theorem FaultManager.latchFor_of_severe (f : FaultManager) {c : FaultClass} (h : c = .severe) : (f.latchFor c).latch = true := by
  simp [FaultManager.latchFor, h]

section
variable (f : FaultManager) (now : Time) (i : Fin 32)

theorem FaultManager.reraise_keepsLatch (d : Nat) : f.KeepsLatch (f.reraise now i d) := fun latched => by
  unfold FaultManager.reraise
  split
  · exact latched
  · refine latched.set (i := i) (fun j e => ?_) (fun on => latchFor_latch on _) fun r holds cls _ => ?_
    · rw [upd_getFin, if_neg e.symm]
    · rw [upd_getFin, if_pos rfl] at holds
      cases holds
      exact f.latchFor_of_severe cls

theorem FaultManager.create_keepsLatch (k : FaultKind) (o d : Nat) : f.KeepsLatch (f.create now i k o d) := fun latched => by
  refine latched.set (i := i) (fun j e => ?_) (fun on => latchFor_latch on _) fun r holds cls _ => ?_
  · simp [FaultManager.create, FaultManager.latchFor, Fin.val_ne_of_ne e.symm]
  · simp only [FaultManager.create, Fin.getElem_fin, Vector.getElem_set_self, Option.some.injEq] at holds
    subst holds
    exact f.latchFor_of_severe cls

theorem FaultManager.remove_keepsLatch (req : Requester) : f.KeepsLatch (f.remove i req) := fun latched => by
  unfold FaultManager.remove
  split
  · exact latched
  · refine latched.set (i := i) (fun j e => ?_) id fun r holds => ?_
    · simp [Fin.val_ne_of_ne e.symm]
    · simp [FaultSlot.empty] at holds

/-- A record takes a state in which it is active only if it was active before. -/
theorem FaultManager.restate_keepsLatch {r : FaultRecord} {st : FaultState} (holds : f.table[i].record = some r)
    (quieter : st ≠ .clearedUnacked → r.active = true) (act : FaultAction) (req : Requester) :
    f.KeepsLatch (f.restate now i st act req) := fun latched => by
  unfold FaultManager.restate
  rw [holds]
  refine latched.set (i := i) (fun j e => ?_) id fun q held cls on => ?_
  · rw [upd_getFin, if_neg e.symm]
  · rw [upd_getFin, if_pos rfl] at held
    cases held
    have active : st ≠ .clearedUnacked := by simpa [FaultRecord.active] using on
    exact latched ((anyActive_iff f .severe).2 ⟨i, r, holds, cls, quieter active⟩)

theorem FaultManager.endAt_keepsLatch : f.KeepsLatch (f.endAt now i) := by
  unfold FaultManager.endAt
  split
  · exact f.keepsLatch_refl _
  · next r holds =>
    split
    · exact f.restate_keepsLatch now i holds (fun off => absurd rfl off) _ _
    · exact f.remove_keepsLatch i _
    · exact f.keepsLatch_refl _

theorem FaultManager.ackAt_keepsLatch (req : Requester) : f.KeepsLatch (f.ackAt now req i) := by
  unfold FaultManager.ackAt
  split
  · exact f.keepsLatch_refl _
  · next r holds =>
    split
    · next active =>
      split
      · exact f.remove_keepsLatch i req
      · exact f.restate_keepsLatch now i holds (fun _ => by simp [FaultRecord.active, active]) _ _
    · exact f.keepsLatch_refl _
    · exact f.remove_keepsLatch i req

end

/-! ### Raise, end and acknowledge -/

section
variable (f : FaultManager) (now : Time)

theorem FaultManager.raised_keepsLatch (n : Byte) (k : FaultKind) (o d : Nat) : f.KeepsLatch (f.raised now n k o d) := by
  unfold FaultManager.raised
  split
  · exact f.reraise_keepsLatch now _ d
  · exact f.create_keepsLatch now _ k o d
  · exact f.create_keepsLatch now _ k o d
  · refine (f.keepsLatch_refl _).next ?_
    unfold FaultManager.raiseTableFull
    split
    · exact f.reraise_keepsLatch now 31 _
    · exact f.create_keepsLatch now 31 _ _ _

theorem FaultManager.testTableFull_keepsLatch : f.KeepsLatch (f.testTableFull now) := by
  unfold FaultManager.testTableFull
  split
  · exact f.endAt_keepsLatch now 31
  · exact f.keepsLatch_refl _

theorem FaultManager.endOf_keepsLatch (k : FaultKind) (o : Nat) : f.KeepsLatch (f.endOf now k o) := by
  unfold FaultManager.endOf
  split
  · exact f.keepsLatch_refl _
  · split
    · exact f.keepsLatch_refl _
    · exact f.endAt_keepsLatch now _

theorem FaultManager.ended_keepsLatch (k : FaultKind) (o : Nat) : f.KeepsLatch (f.ended now k o) := by
  unfold FaultManager.ended
  split
  · exact f.keepsLatch_refl _
  · split
    · exact f.keepsLatch_refl _
    · exact (f.endAt_keepsLatch now _).next (FaultManager.testTableFull_keepsLatch _ now)

/-- Changes taken one after another. -/
theorem FaultManager.KeepsLatch.foldl {α : Type} {f : FaultManager} {g : FaultManager → α → FaultStep}
    (hg : ∀ (f : FaultManager) (a : α), f.KeepsLatch (g f a)) (l : List α) {x : FaultStep} (h : f.KeepsLatch x) :
    f.KeepsLatch (l.foldl (fun x a => x.next fun f => g f a) x) := by
  induction l generalizing x with
  | nil => exact h
  | cons a l ih => exact ih (h.next (hg x.1 a))

theorem FaultManager.ackPair_keepsLatch (req : Requester) (x : AckPair) : f.KeepsLatch (f.ackPair now req x) := by
  unfold FaultManager.ackPair
  split
  · exact f.keepsLatch_refl _
  · split
    · exact f.keepsLatch_refl _
    · exact f.ackAt_keepsLatch now _ req

theorem FaultManager.acked_keepsLatch (req : Requester) (t : AckTarget) : f.KeepsLatch (f.acked now req t) := by
  unfold FaultManager.acked
  refine .next ?_ (FaultManager.testTableFull_keepsLatch _ now)
  cases t with
  | all => exact .foldl (fun f i => f.ackAt_keepsLatch now i req) _ (f.keepsLatch_refl _)
  | pairs l => exact .foldl (fun f p => f.ackPair_keepsLatch now req p) _ (f.keepsLatch_refl _)

end

/-! ### On the whole state -/

/-- The mode is derived from the latch and the table alone, so that taking it leaves the latch's law (R131). -/
theorem FaultManager.Latched.withMode {f : FaultManager} (h : f.Latched) (m : Option Mode) : { f with mode := m }.Latched := h

/-- The mode derived afresh after a change. -/
theorem FaultManager.KeepsLatch.follows {f : FaultManager} {x : FaultStep} (h : f.KeepsLatch x) :
    f.Follows { x.1 with mode := some x.1.derived } := ⟨fun latched => (h latched).withMode _, fun _ => rfl⟩

theorem raise_follows (k : FaultKind) (o d : Nat) (s : State) : s.faults.Follows (raise k o d s).faults := by
  rw [raise_faults]
  exact (s.faults.raised_keepsLatch _ _ k o d).follows

theorem deriveMode_applyFault_follows (c : ModeCause) {g : FaultManager → FaultStep} {s : State}
    (h : s.faults.KeepsLatch (g s.faults)) : s.faults.Follows (deriveMode c (applyFault g s)).faults := by
  rw [deriveMode_faults, applyFault_faults]
  exact h.follows

theorem endCondition_follows (k : FaultKind) (o : Nat) (s : State) : s.faults.Follows (endCondition k o s).faults :=
  deriveMode_applyFault_follows .ended (s.faults.ended_keepsLatch s.now k o)

theorem endThenRaise_follows (e : Option FaultKind) (k : FaultKind) (o d : Nat) (s : State) :
    s.faults.Follows (endThenRaise e k o d s).faults := by
  unfold endThenRaise
  split
  · exact raise_follows k o d s
  · exact ((deriveMode_applyFault_follows .ended (s.faults.endOf_keepsLatch s.now _ o)).trans (raise_follows k o d _)).trans
      (deriveMode_applyFault_follows .ended (FaultManager.testTableFull_keepsLatch _ s.now))

theorem acknowledge_follows (req : Requester) (t : AckTarget) (s : State) :
    s.faults.Follows (acknowledge req t s).2.faults := by
  unfold acknowledge
  split
  · exact deriveMode_applyFault_follows .ack (s.faults.acked_keepsLatch s.now req t)
  · exact .refl _

/-- A release clears the latch only while no SEVERE record is active (R134). -/
theorem release_follows (s : State) : s.faults.Follows (release s).2.faults := by
  unfold release
  split
  · exact .refl _
  · next none_ =>
    rw [deriveMode_faults]
    exact ⟨fun _ active => absurd active none_, fun _ => rfl⟩

/-! ### The marks of the Report Scheduler -/

theorem FaultManager.remake_alike (f : FaultManager) {g : Fin 32 → FaultSlot → FaultSlot}
    (h : ∀ i x, (g i x).record.map FaultRecord.weight = x.record.map FaultRecord.weight) :
    f.Alike { f with table := remake f.table g } :=
  alike_of_records fun i => by rw [Fin.getElem_fin, remake_getElem]; exact h _ _

theorem FaultManager.upd_alike (f : FaultManager) (i : Fin 32) {g : FaultSlot → FaultSlot}
    (h : ∀ x, (g x).record = x.record) : f.Alike { f with table := upd f.table i g } :=
  alike_of_records fun j => by
    rw [upd_getFin]
    split
    · rw [h]
    · rfl

theorem freeze_alike (c : Content) (s : State) : s.faults.Alike (freeze c s).faults := by
  unfold freeze
  split
  · exact s.faults.remake_alike fun i x => by split <;> rfl
  · split <;> exact .refl _

theorem FaultSlot.reported_weight (x : FaultSlot) (now : Time) :
    (x.reported now).record.map FaultRecord.weight = x.record.map FaultRecord.weight := by
  unfold FaultSlot.reported
  split
  · next r _ holds => rw [holds]; rfl
  · rfl

theorem writeMarks_alike (f : TxFrame) (s : State) : s.faults.Alike (writeMarks f s).faults := by
  unfold writeMarks
  split
  · exact s.faults.remake_alike fun i x => x.reported_weight s.now
  · split <;> exact .refl _

theorem notSent_alike (s : State) : s.faults.Alike (notSent s).faults := s.faults.remake_alike fun _ _ => rfl

theorem linkUp_alike (s : State) : s.faults.Alike (linkUp s).faults := s.faults.remake_alike fun _ _ => rfl

theorem linkGone_alike (s : State) : s.faults.Alike (linkGone s).faults := s.faults.remake_alike fun _ _ => rfl

end Sys2Proof.Machine
end

section
/-! PROOFS. The laws of the reds and of the open road (R65, R66, R104), and what an operation within a step carries over of
them. -/

namespace Sys2Proof.Machine

/-! ### A barrier's outputs are those of its state (R104) -/

theorem Barrier.enter_outputs (b : Barrier) (st : BarrierState) : (b.enter st).OutputsMatch := by
  cases st <;> exact ⟨rfl, rfl⟩

theorem Barrier.lowerFrom_match (b : Barrier) (now : Time) : (b.lowerFrom now).OutputsMatch := by
  unfold Barrier.lowerFrom
  split <;> exact b.enter_outputs .lowering

theorem Barrier.toFault_match (b : Barrier) (now : Time) (d : Nat) : (b.toFault now d).OutputsMatch := by
  unfold Barrier.toFault Barrier.settle
  dsimp only
  split <;> exact b.enter_outputs .fault

theorem Barrier.released_match {b : Barrier} (h : b.OutputsMatch) (now : Time) : (b.released now).OutputsMatch := by
  unfold Barrier.released
  split
  · exact b.lowerFrom_match now
  · split
    · exact b.enter_outputs .down
    · exact b.lowerFrom_match now
  · exact h

theorem Barrier.started_match (b : Barrier) (now : Time) (up down : Bool) : (b.started now up down).OutputsMatch := by
  unfold Barrier.started
  dsimp only
  split
  · exact Barrier.toFault_match _ _ _
  · split
    · exact ⟨rfl, rfl⟩
    · exact Barrier.lowerFrom_match _ _

/-- A barrier becomes another while its channel stays configured, or not: HELD_UP stays, and so does the law of the outputs. -/
structure Barrier.Carried (b x : Barrier) : Prop where
  configured : x.configured = b.configured
  held : b.state = some .heldUp → x.state = some .heldUp
  outputs : b.OutputsMatch → x.OutputsMatch

theorem Barrier.Carried.refl (b : Barrier) : b.Carried b := ⟨rfl, id, id⟩

theorem Barrier.carried_of_eq {b x : Barrier} (configured : x.configured = b.configured) (state : x.state = b.state)
    (hold : x.holdOut = b.holdOut) (drive : x.raiseOut = b.raiseOut) : b.Carried x :=
  ⟨configured, state.trans, fun h => by unfold Barrier.OutputsMatch at *; rwa [state, hold, drive]⟩

theorem Barrier.raised_carried (b : Barrier) (now : Time) : b.Carried (b.raised now) := by
  unfold Barrier.raised
  split
  · next down =>
    have notHeld : b.state ≠ some .heldUp := by rw [down]; decide
    dsimp only
    split
    · exact ⟨rfl, fun held => absurd held notHeld, fun _ => b.enter_outputs .raising⟩
    · split
      · exact ⟨rfl, fun held => absurd held notHeld, fun _ => b.enter_outputs .heldUp⟩
      · exact ⟨rfl, fun held => absurd held notHeld, fun _ => b.enter_outputs .raising⟩
  · exact .refl b

theorem Barrier.toTravel_carried (b : Barrier) (now : Time) : b.Carried (b.toTravel now) := by
  unfold Barrier.toTravel
  split
  · exact carried_of_eq rfl rfl rfl rfl
  · exact .refl b

theorem Barrier.settle_carried (b : Barrier) (now : Time) : b.Carried (b.settle now) := by
  unfold Barrier.settle
  split <;> exact carried_of_eq rfl rfl rfl rfl

/-- A judgement that keeps a barrier keeps it up where it is held, and its outputs by its state. -/
theorem Barrier.judge_carried {b x : Barrier} {now : Time} (h : b.judge now = .keep x) : b.Carried x := by
  unfold Barrier.judge at h
  split at h
  · cases h; exact .refl b
  · cases h; exact b.settle_carried now
  · next st _ state =>
    split at h
    · cases h
    · cases st with
      | heldUp => cases h; exact carried_of_eq rfl rfl rfl rfl
      | lowering =>
        have notHeld : b.state ≠ some .heldUp := by rw [state]; decide
        dsimp only at h
        split at h
        · cases h; exact ⟨rfl, fun held => absurd held notHeld, fun _ => b.enter_outputs .down⟩
        · split at h <;> cases h
          · exact .refl b
          · exact b.toTravel_carried now
      | raising =>
        dsimp only at h
        split at h
        · cases h; exact ⟨rfl, fun _ => rfl, fun _ => b.enter_outputs .heldUp⟩
        · split at h <;> cases h
          · exact .refl b
          · exact b.toTravel_carried now
      | down => cases h; exact carried_of_eq rfl rfl rfl rfl
      | fault => cases h; exact b.settle_carried now

/-! ### What one operation carries over -/

/-- The generator runs in every state of the Sequencer but OPEN and AMBER (R89, R90). -/
def RedsLaw (s : State) : Prop :=
  s.lamps.gen.isSome = true ↔ s.seq.state ≠ some .roadOpen ∧ s.seq.state ≠ some .amber

/-- In OPEN and AMBER every configured barrier is HELD_UP (R66, R72, R76). -/
def UpLaw (s : State) : Prop :=
  s.seq.state = some .roadOpen ∨ s.seq.state = some .amber →
    ∀ b : Fin 4, s.barriers[b].configured = true → s.barriers[b].state = some .heldUp

/-- What an operation within a step carries over of the laws, the barriers of an open road apart: they may fall as a barrier
enters FAULT, until its report has closed the road (R72). -/
structure Carries (s t : State) : Prop where
  part : t.part = s.part
  live : t.seq.state.isSome = s.seq.state.isSome
  startUp : t.lamps.startUp.isSome = s.lamps.startUp.isSome
  outputs : BarrierOutputs s → BarrierOutputs t
  reds : RedsLaw s → RedsLaw t
  sections : ∀ i : Fin 10, t.sections[i].track = s.sections[i].track ∧
    (s.sections[i].state.isSome = true → t.sections[i].state.isSome = true)
  faults : s.faults.Follows t.faults

/-- What an operation carries over, the barriers of an open road among it. -/
structure CarriesUp (s t : State) : Prop extends Carries s t where
  up : UpLaw s → UpLaw t

theorem Carries.refl (s : State) : Carries s s := ⟨rfl, rfl, rfl, id, id, fun _ => ⟨rfl, id⟩, .refl _⟩

theorem Carries.trans {s t u : State} (h : Carries s t) (h' : Carries t u) : Carries s u where
  part := h'.part.trans h.part
  live := h'.live.trans h.live
  startUp := h'.startUp.trans h.startUp
  outputs := h'.outputs ∘ h.outputs
  reds := h'.reds ∘ h.reds
  sections i := ⟨(h'.sections i).1.trans (h.sections i).1, (h'.sections i).2 ∘ (h.sections i).2⟩
  faults := h.faults.trans h'.faults

theorem CarriesUp.refl (s : State) : CarriesUp s s := ⟨.refl s, id⟩

theorem CarriesUp.trans {s t u : State} (h : CarriesUp s t) (h' : CarriesUp t u) : CarriesUp s u :=
  ⟨h.toCarries.trans h'.toCarries, h'.up ∘ h.up⟩

theorem CarriesUp.ite {s t u : State} {c : Prop} [Decidable c] (ht : CarriesUp s t) (hu : CarriesUp s u) :
    CarriesUp s (if c then t else u) := by
  split
  · exact ht
  · exact hu

/-- An operation that is made under a condition, which the argument for it may use. -/
theorem CarriesUp.when {s t : State} {c : Prop} [Decidable c] (h : c → CarriesUp s t) :
    CarriesUp s (if c then t else s) := by
  split
  · next holds => exact h holds
  · exact .refl s

theorem CarriesUp.foldl {α : Type} {f : State → α → State} (hf : ∀ s a, CarriesUp s (f s a)) (l : List α) (s : State) :
    CarriesUp s (l.foldl f s) := by
  induction l generalizing s with
  | nil => exact .refl s
  | cons a l ih => exact (hf s a).trans (ih (f s a))

/-- An operation that leaves the Sequencer's state and, of the lamps, what the laws read. -/
theorem CarriesUp.of_parts {s t : State} (part : t.part = s.part) (state : t.seq.state = s.seq.state)
    (gen : t.lamps.gen.isSome = s.lamps.gen.isSome) (startUp : t.lamps.startUp.isSome = s.lamps.startUp.isSome)
    (barriers : ∀ b : Fin 4, s.barriers[b].Carried t.barriers[b])
    (sections : ∀ i : Fin 10, t.sections[i].track = s.sections[i].track ∧
      (s.sections[i].state.isSome = true → t.sections[i].state.isSome = true))
    (faults : s.faults.Follows t.faults) : CarriesUp s t where
  part := part
  live := by rw [state]
  startUp := startUp
  outputs h b := (barriers b).outputs (h b)
  reds h := by unfold RedsLaw at *; rwa [gen, state]
  sections := sections
  faults := faults
  up h road b configured := by
    rw [state] at road
    exact (barriers b).held (h road b ((barriers b).configured.symm.trans configured))

/-- The blocks that hold what the laws of a step's operations read. -/
def lawBlocks : List Block := [.part, .seq, .lamps, .barriers, .sections, .faults]

section
variable {bs : List Block} {s t : State} (h : Only bs s t)
include h

/-- A frame that leaves the Sequencer's motion leaves its state. -/
theorem Only.state_eq (off : .seq ∉ bs) : t.seq.state = s.seq.state := by
  have moved : t.seq.motion = s.seq.motion := h .seq off
  exact (congrArg Sequencer.state moved : t.seq.motion.state = s.seq.motion.state)

theorem Only.mode_eq (off : .faults ∉ bs) : t.faults.mode = s.faults.mode := by rw [h.faults_eq off]

theorem CarriesUp.of_faults (off : ∀ b ∈ [Block.part, .seq, .lamps, .barriers, .sections], b ∉ bs)
    (faults : s.faults.Follows t.faults) : CarriesUp s t :=
  .of_parts (h.part_eq (off _ (by decide))) (h.state_eq (off _ (by decide))) (by rw [h.lamps_eq (off _ (by decide))])
    (by rw [h.lamps_eq (off _ (by decide))]) (fun b => by rw [h.barriers_eq (off _ (by decide))]; exact .refl _)
    (fun i => by rw [h.sections_eq (off _ (by decide))]; exact ⟨rfl, id⟩) faults

theorem CarriesUp.of_only (off : ∀ b ∈ lawBlocks, b ∉ bs) : CarriesUp s t :=
  .of_faults h (fun b hb => off b (by revert b; decide)) (by rw [h.faults_eq (off _ (by decide))]; exact .refl _)

theorem CarriesUp.of_lamps (off : ∀ b ∈ [Block.part, .seq, .barriers, .sections, .faults], b ∉ bs)
    (gen : t.lamps.gen.isSome = s.lamps.gen.isSome) (startUp : t.lamps.startUp.isSome = s.lamps.startUp.isSome) :
    CarriesUp s t :=
  .of_parts (h.part_eq (off _ (by decide))) (h.state_eq (off _ (by decide))) gen startUp
    (fun b => by rw [h.barriers_eq (off _ (by decide))]; exact .refl _)
    (fun i => by rw [h.sections_eq (off _ (by decide))]; exact ⟨rfl, id⟩)
    (by rw [h.faults_eq (off _ (by decide))]; exact .refl _)

theorem CarriesUp.of_barriers (off : ∀ b ∈ [Block.part, .seq, .lamps, .sections, .faults], b ∉ bs)
    (barriers : ∀ b : Fin 4, s.barriers[b].Carried t.barriers[b]) : CarriesUp s t :=
  .of_parts (h.part_eq (off _ (by decide))) (h.state_eq (off _ (by decide))) (by rw [h.lamps_eq (off _ (by decide))])
    (by rw [h.lamps_eq (off _ (by decide))]) barriers
    (fun i => by rw [h.sections_eq (off _ (by decide))]; exact ⟨rfl, id⟩)
    (by rw [h.faults_eq (off _ (by decide))]; exact .refl _)

/-- An operation that takes the Sequencer to a state behind the reds, with the reds flashing (R67 to R77). -/
theorem CarriesUp.of_red (off : ∀ b ∈ [Block.part, .sections], b ∉ bs) {x : SeqState} (live : s.seq.state.isSome = true)
    (state : t.seq.state = some x) (shut : x ≠ .roadOpen ∧ x ≠ .amber) (gen : t.lamps.gen.isSome = true)
    (startUp : t.lamps.startUp.isSome = s.lamps.startUp.isSome) (outputs : BarrierOutputs s → BarrierOutputs t)
    (faults : s.faults.Follows t.faults) : CarriesUp s t where
  part := h.part_eq (off _ (by decide))
  live := by rw [state, live]; rfl
  startUp := startUp
  outputs := outputs
  reds _ := by
    unfold RedsLaw
    rw [state]
    exact ⟨fun _ => ⟨fun e => shut.1 (Option.some.inj e), fun e => shut.2 (Option.some.inj e)⟩, fun _ => gen⟩
  sections i := by rw [h.sections_eq (off _ (by decide))]; exact ⟨rfl, id⟩
  faults := faults
  up _ road := by
    rw [state] at road
    exact (road.elim (fun e => shut.1 (Option.some.inj e)) fun e => shut.2 (Option.some.inj e)).elim

end

/-! ### The shared operations -/

theorem emit_carries (os : List Output) (s : State) : CarriesUp s (emit os s) := .of_only (emit_only os s) (by decide)

theorem raise_carries (k : FaultKind) (o d : Nat) (s : State) : CarriesUp s (raise k o d s) :=
  .of_faults (raise_only k o d s) (by decide) (raise_follows k o d s)

theorem endCondition_carries (k : FaultKind) (o : Nat) (s : State) : CarriesUp s (endCondition k o s) :=
  .of_faults (endCondition_only k o s) (by decide) (endCondition_follows k o s)

theorem setBarrier_getElem (s : State) (b : Fin 4) (f : Barrier → Barrier) (a : Fin 4) :
    (s.setBarrier b f).barriers[a] = if b = a then f s.barriers[a] else s.barriers[a] := upd_getFin _ _ _ _

/-- One barrier becomes another. -/
theorem setBarrier_carries {s : State} {b : Fin 4} {f : Barrier → Barrier}
    (h : s.barriers[b].Carried (f s.barriers[b])) : CarriesUp s (s.setBarrier b f) := by
  refine .of_parts rfl rfl rfl rfl (fun a => ?_) (fun _ => ⟨rfl, id⟩) (.refl _)
  rw [setBarrier_getElem]
  split
  · next e => subst e; exact h
  · exact .refl _

/-! ### The Sequencer's transitions (R65 to R77) -/

theorem LampDriver.command_startUp (d : LampDriver) (l : LampCmd) (now : Time) : (d.command l now).startUp = d.startUp := by
  cases l with
  | dark | amber | redStart => rfl
  | redContinue =>
    unfold LampDriver.command
    dsimp only
    split <;> rfl

/-- A command that has the reds flash (R90). -/
def LampCmd.Red (l : LampCmd) : Prop := l = .redStart ∨ l = .redContinue

theorem LampDriver.red_gen {l : LampCmd} (red : l.Red) (d : LampDriver) (now : Time) : (d.command l now).gen.isSome = true := by
  rcases red with rfl | rfl
  · exact d.redStart_gen now
  · exact d.redContinue_gen now

section
variable {s : State} (live : s.seq.state.isSome = true)
include live

/-- A move behind the reds with a release (R68 to R70, R73, R77). -/
theorem moveAndRelease_carries {x : SeqState} {l : LampCmd} (shut : x ≠ .roadOpen ∧ x ≠ .amber) (red : l.Red) (c : SeqCause)
    (p : Barrier → Bool) : CarriesUp s (toBarriers p releaseBarrier (lampCommand l (seqMove x c s))) := by
  have frame := moveAndRelease_only x c l p s
  have lamps := moveAndRelease_lamps x c l p s
  refine .of_red frame (by decide) live (by rw [moveAndRelease_seq]) shut (by rw [lamps]; exact LampDriver.red_gen red _ _)
    (by rw [lamps, LampDriver.command_startUp]) (fun outputs b => ?_)
    (by rw [frame.faults_eq (by decide)]; exact .refl _)
  rw [moveAndRelease_barriers]
  split
  · exact Barrier.released_match (outputs b) _
  · exact outputs b

theorem move_carries {x : SeqState} {l : LampCmd} (shut : x ≠ .roadOpen ∧ x ≠ .amber) (red : l.Red) (c : SeqCause) :
    CarriesUp s (lampCommand l (seqMove x c s)) := by
  have moved := seqMove_only x c s
  have frame : Only ([.seq, .lamps] ++ recordBlocks) s (lampCommand l (seqMove x c s)) :=
    moved.seq (lampCommand_only l _) (by decide) (by decide)
  have lamps : (lampCommand l (seqMove x c s)).lamps = s.lamps.command l s.now := by
    change (seqMove x c s).lamps.command l (seqMove x c s).now = _
    rw [moved.lamps_eq (by decide), (moved.clock_eq (by decide)).1]
  refine .of_red frame (by decide) live ?_ shut (by rw [lamps]; exact LampDriver.red_gen red _ _)
    (by rw [lamps, LampDriver.command_startUp]) (fun outputs b => ?_)
    (by rw [frame.faults_eq (by decide)]; exact .refl _)
  · rw [(lampCommand_only l _).state_eq (by decide), seqMove_seq]
  · rw [frame.barriers_eq (by decide)]
    exact outputs b

end

theorem raiseBarrier_carries (b : Fin 4) (s : State) : CarriesUp s (raiseBarrier b s) := by
  have raised : CarriesUp s (s.setBarrier b fun x => x.raised s.now) := setBarrier_carries (Barrier.raised_carried _ _)
  have ended : ∀ c : Bool, CarriesUp s
      (if c then endCondition .barrierDisturbed b.val (s.setBarrier b fun x => x.raised s.now)
        else s.setBarrier b fun x => x.raised s.now) :=
    fun c => .ite (raised.trans (endCondition_carries _ _ _)) raised
  exact ended _

theorem toBarriers_carries {f : Fin 4 → State → State} (h : ∀ b s, CarriesUp s (f b s)) (p : Barrier → Bool) (s : State) :
    CarriesUp s (toBarriers p f s) := .foldl (fun s b => .ite (h b s) (.refl s)) _ _

/-! ### OPEN (R66, R76) -/

/-- The state in which the road is open again, but for the end of a LONG_CLOSURE (R66, R76, R81). -/
def openedRoad (s : State) : State :=
  let len := if s.seq.counted then some (s.seq.closureLength s.now) else none
  let t := lampCommand .dark (seqGo .roadOpen .barriers false len
    (s.setSeq fun q => { q with counted := false, longFlag := false, openMark := decide (q.tMinOpen = 0) }))
  match len with
  | some ms => emit [.count (cntClosureBin ms)] t
  | none => t

theorem enterOpen_eq (s : State) :
    enterOpen s = if s.seq.longFlag then endCondition .longClosure 0 (openedRoad s) else openedRoad s := rfl

section
variable (s : State)

/-- The Sequencer's move to OPEN with its lamp command, before the histogram counts the closure. -/
theorem openedRoad_split :
    ∃ t : State, t.seq = { s.seq with
        state := some .roadOpen, entry := s.now, counted := false, longFlag := false
        openMark := decide (s.seq.tMinOpen = 0) } ∧
      t.lamps = s.lamps.command .dark s.now ∧ Only ([.seq, .lamps] ++ recordBlocks) s t ∧
      Only recordBlocks t (openedRoad s) := by
  have marks := setSeq_only s (fun q =>
    { q with counted := false, longFlag := false, openMark := decide (q.tMinOpen = 0) }) rfl rfl rfl
  have moves := fun len => seqGo_only .roadOpen .barriers false len (s.setSeq fun q =>
    { q with counted := false, longFlag := false, openMark := decide (q.tMinOpen = 0) })
  refine ⟨lampCommand .dark (seqGo .roadOpen .barriers false
    (if s.seq.counted then some (s.seq.closureLength s.now) else none) _), ?_, ?_,
    (marks.seq (moves _) (cs := .seq :: recordBlocks) (by decide) (by decide)).seq (lampCommand_only _ _) (by decide)
      (by decide), ?_⟩
  · rw [(lampCommand_only _ _).seq_eq (by decide) (by decide)]
    exact (emit_only _ _).seq_eq (by decide) (by decide)
  · change (seqGo _ _ _ _ _).lamps.command .dark (seqGo _ _ _ _ _).now = _
    rw [(moves _).lamps_eq (by decide), ((moves _).clock_eq (by decide)).1]
    rfl
  · unfold openedRoad
    cases s.seq.counted
    · exact Only.refl _ _
    · exact emit_only _ _

theorem openedRoad_only : Only ([.seq, .lamps] ++ recordBlocks) s (openedRoad s) := by
  obtain ⟨t, -, -, first, rest⟩ := openedRoad_split s
  exact first.trans (rest.mono (by decide))

theorem openedRoad_seq :
    (openedRoad s).seq = { s.seq with
      state := some .roadOpen, entry := s.now, counted := false, longFlag := false
      openMark := decide (s.seq.tMinOpen = 0) } := by
  obtain ⟨t, seq, -, -, rest⟩ := openedRoad_split s
  rw [rest.seq_eq (by decide) (by decide), seq]

theorem openedRoad_lamps : (openedRoad s).lamps = s.lamps.command .dark s.now := by
  obtain ⟨t, -, lamps, -, rest⟩ := openedRoad_split s
  rw [rest.lamps_eq (by decide), lamps]

end

/-- The road opens with the lamps dark and every barrier up (R76). -/
theorem enterOpen_carries {s : State} (live : s.seq.state.isSome = true)
    (held : ∀ b : Fin 4, s.barriers[b].configured = true → s.barriers[b].state = some .heldUp) :
    CarriesUp s (enterOpen s) := by
  have frame := openedRoad_only s
  have state : (openedRoad s).seq.state = some .roadOpen := by rw [openedRoad_seq]
  have barriers := frame.barriers_eq (by decide)
  have opened : CarriesUp s (openedRoad s) :=
    { part := frame.part_eq (by decide)
      live := by rw [state, live]; rfl
      startUp := by rw [openedRoad_lamps, LampDriver.command_startUp]
      outputs := fun outputs b => by rw [barriers]; exact outputs b
      reds := fun _ => by
        unfold RedsLaw
        rw [openedRoad_lamps, state]
        exact ⟨fun runs => absurd runs Bool.false_ne_true, fun out => absurd rfl out.1⟩
      sections := fun i => by rw [frame.sections_eq (by decide)]; exact ⟨rfl, id⟩
      faults := by rw [frame.faults_eq (by decide)]; exact .refl _
      up := fun _ _ b configured => by
        rw [barriers] at configured ⊢
        exact held b configured }
  rw [enterOpen_eq]
  exact .ite (opened.trans (endCondition_carries _ _ _)) opened

/-- A test of every configured barrier. -/
theorem barriersAll_iff (s : State) (p : Barrier → Bool) :
    s.barriersAll p = true ↔ ∀ b : Fin 4, s.barriers[b].configured = true → p s.barriers[b] = true := by
  unfold State.barriersAll
  rw [List.all_eq_true]
  simp only [Bool.or_eq_true, Bool.not_eq_true']
  constructor
  · intro h b configured
    exact (h b (mem_allBarriers b)).resolve_left fun off => absurd (configured.symm.trans off) (by decide)
  · intro h b _
    cases configured : s.barriers[b].configured with
    | false => exact .inl rfl
    | true => exact .inr (h b configured)

theorem barriersAll_heldUp_iff (s : State) :
    s.barriersAll Barrier.isHeldUp = true ↔
      ∀ b : Fin 4, s.barriers[b].configured = true → s.barriers[b].state = some .heldUp := by
  rw [barriersAll_iff]
  simp only [Barrier.isHeldUp, beq_iff_eq]

theorem live_of_state {s : State} {x : SeqState} (h : s.seq.state = some x) : s.seq.state.isSome = true := by
  rw [h]; rfl

theorem testRaising_carries (s : State) : CarriesUp s (testRaising s) :=
  .when fun ⟨state, up⟩ => enterOpen_carries (live_of_state state) ((barriersAll_heldUp_iff s).1 up)

section
variable {s : State} (live : s.seq.state.isSome = true)
include live

theorem enterRaising_carries : CarriesUp s (enterRaising s) :=
  ((move_carries live (by decide) (.inr rfl) .guardPassed).trans (toBarriers_carries raiseBarrier_carries _ _)).trans
    (testRaising_carries _)

end

theorem testClosed_carries (s : State) : CarriesUp s (testClosed s) :=
  .when fun ⟨state, _, _⟩ => .ite (.of_only (guardCommit_only _ s) (by decide)) (enterRaising_carries (live_of_state state))

theorem enterClosed_carries {s : State} (live : s.seq.state.isSome = true) : CarriesUp s (enterClosed s) :=
  (moveAndRelease_carries live (by decide) (.inr rfl) .barriers _).trans (testClosed_carries _)

theorem testLowerExit_carries (s : State) : CarriesUp s (testLowerExit s) :=
  .when fun ⟨state, _⟩ => enterClosed_carries (live_of_state state)

theorem enterLowerExit_carries {s : State} (live : s.seq.state.isSome = true) : CarriesUp s (enterLowerExit s) :=
  (moveAndRelease_carries live (by decide) (.inr rfl) .barriers _).trans (testLowerExit_carries _)

/-- A change of the Sequencer's marks and times alone. -/
theorem setSeq_carries {s : State} {f : Sequencer → Sequencer} (h : (f s.seq).state = s.seq.state) :
    CarriesUp s (s.setSeq f) :=
  .of_parts rfl h rfl rfl (fun _ => .refl _) (fun _ => ⟨rfl, id⟩) (.refl _)

theorem testLowerEntry_carries (s : State) : CarriesUp s (testLowerEntry s) := by
  have unmarked : CarriesUp s (s.setSeq fun q => { q with exitMark := none }) := setSeq_carries rfl
  exact .when fun ⟨state, _, _⟩ =>
    have live := live_of_state (s := s.setSeq fun q => { q with exitMark := none }) state
    unmarked.trans (.ite (enterLowerExit_carries live) (enterClosed_carries live))

theorem setExitMark_carries (s : State) : CarriesUp s (setExitMark s) := setSeq_carries rfl

theorem enterLowerEntry_carries {s : State} (live : s.seq.state.isSome = true) : CarriesUp s (enterLowerEntry s) :=
  ((moveAndRelease_carries live (by decide) (.inr rfl) .timer _).trans (setExitMark_carries _)).trans
    (testLowerEntry_carries _)

theorem reclose_carries {s : State} (live : s.seq.state.isSome = true) : CarriesUp s (reclose s) :=
  ((moveAndRelease_carries live (by decide) (.inl rfl) .demand _).trans (setExitMark_carries _)).trans
    (testLowerEntry_carries _)

/-! ### Leaving OPEN (R66, R72) -/

theorem leaveOpen_frame (x : SeqState) (c : SeqCause) (l : LampCmd) (s : State) :
    (leaveOpen x c l s).seq.state = some x ∧ (leaveOpen x c l s).lamps.startUp = s.lamps.startUp := by
  rw [leaveOpen_seq, leaveOpen_lamps, LampDriver.command_startUp]
  exact ⟨rfl, rfl⟩

/-- To AMBER: the barriers stay up (R66). -/
theorem leaveOpen_amber_carries {s : State} (road : s.seq.state = some .roadOpen) (c : SeqCause) :
    CarriesUp s (leaveOpen .amber c .amber s) := by
  have frame := leaveOpen_only .amber c .amber s
  obtain ⟨state, startUp⟩ := leaveOpen_frame .amber c .amber s
  have barriers := frame.barriers_eq (by decide)
  exact
    { part := frame.part_eq (by decide)
      live := by rw [state, road]; rfl
      startUp := by rw [startUp]
      outputs := fun outputs b => by rw [barriers]; exact outputs b
      reds := fun _ => by
        unfold RedsLaw
        rw [leaveOpen_lamps, state]
        exact ⟨fun runs => absurd runs Bool.false_ne_true, fun out => absurd rfl out.2⟩
      sections := fun i => by rw [frame.sections_eq (by decide)]; exact ⟨rfl, id⟩
      faults := by rw [frame.faults_eq (by decide)]; exact .refl _
      up := fun held _ b configured => by
        rw [barriers] at configured ⊢
        exact held (.inl road) b configured }

/-- To RED_WAIT, as a barrier's fault is reported (R72). -/
theorem leaveOpen_red_carries {s : State} (road : s.seq.state = some .roadOpen) (c : SeqCause) :
    CarriesUp s (leaveOpen .redWait c .redStart s) := by
  have frame := leaveOpen_only .redWait c .redStart s
  obtain ⟨state, startUp⟩ := leaveOpen_frame .redWait c .redStart s
  refine .of_red frame (by decide) (live_of_state road) state (by decide) (by rw [leaveOpen_lamps]; rfl) (by rw [startUp])
    (fun outputs b => ?_) (by rw [frame.faults_eq (by decide)]; exact .refl _)
  rw [frame.barriers_eq (by decide)]
  exact outputs b

theorem takeDemand_carries (s : State) : CarriesUp s (takeDemand s) := by
  unfold takeDemand
  split
  · next road => exact .when fun _ => leaveOpen_amber_carries road _
  · next raising => exact .when fun _ => reclose_carries (live_of_state raising)
  · exact testClosed_carries s
  · exact .refl s

theorem barrierChanged_carries (s : State) : CarriesUp s (barrierChanged s) := by
  unfold barrierChanged
  split
  · exact testLowerEntry_carries s
  · exact testLowerExit_carries s
  · exact testClosed_carries s
  · exact testRaising_carries s
  · exact .refl s

theorem lineSettle_carries (s : State) : CarriesUp s (lineSettle s) := .of_only (lineSettle_only s) (by decide)

theorem react_carries (s : State) : CarriesUp s (react s) := (takeDemand_carries s).trans (lineSettle_carries _)

/-! ### A barrier's entry into FAULT (R72, R114) -/

theorem barrierFaultReport_carries (s : State) : CarriesUp s (barrierFaultReport s) := by
  unfold barrierFaultReport
  split
  · next road => exact leaveOpen_red_carries road _
  · next amber => exact move_carries (live_of_state amber) (by decide) (.inl rfl) _
  · exact .refl s

/-- After the report the road is neither OPEN nor AMBER (R72). -/
theorem barrierFaultReport_shut (s : State) :
    (barrierFaultReport s).seq.state =
      if s.seq.state = some .roadOpen ∨ s.seq.state = some .amber then some .redWait else s.seq.state := by
  unfold barrierFaultReport
  split
  · next road => rw [road, if_pos (.inl rfl), leaveOpen_seq]
  · next amber => rw [amber, if_pos (.inr rfl), (lampCommand_only _ _).state_eq (by decide), seqMove_seq]
  · next road amber => rw [if_neg (not_or.2 ⟨road, amber⟩)]

end Sys2Proof.Machine
end

section
/-! PROOFS. What the blocks' own operations carry over of the laws of the reds and of the open road: barriers, sections, trains,
points, lamps, line (R65, R66, R104). -/

namespace Sys2Proof.Machine

/-! ### A barrier's entry into FAULT (R72, R114) -/

/-- The barrier in FAULT, its faults raised and counted, before the Sequencer takes the report (R114). -/
def barrierFallen (b : Fin 4) (detail : Nat) (s : State) : State :=
  emit [.count cntBarrierFaults]
    (endThenRaise (if s.barriers[b].disturbed then some .barrierDisturbed else none) .barrierFail b.val detail
      (s.setBarrier b fun x => x.toFault s.now detail))

/-- The Sequencer takes the report of a barrier's fault, in OPEN before or after the demand (R72). -/
def takeFaultReport (s : State) : State :=
  if s.seq.state = some .roadOpen then barrierFaultReport (if s.order then takeDemand s.tookFree else s.tookFree)
  else barrierFaultReport s

theorem barrierFault_eq (b : Fin 4) (detail : Nat) (s : State) :
    barrierFault b detail s = barrierChanged (takeDemand (takeFaultReport (barrierFallen b detail s))) := rfl

theorem takeFaultReport_state (s : State) :
    (takeFaultReport s).seq.state =
      if s.seq.state = some .roadOpen ∨ s.seq.state = some .amber then some .redWait else s.seq.state := by
  unfold takeFaultReport
  split
  · next road =>
    have taken : ∀ first : Bool, (if first then takeDemand s.tookFree else s.tookFree).seq.state = some .roadOpen ∨
        (if first then takeDemand s.tookFree else s.tookFree).seq.state = some .amber := fun first => by
      cases first with
      | false => exact .inl road
      | true =>
        have openTook : s.tookFree.seq.state = some .roadOpen := road
        cases demand : s.tookFree.demand with
        | false => exact .inl ((congrArg (fun t => t.seq.state) (takeDemand_undemanded (.inl openTook) demand)).trans road)
        | true => exact .inr (congrArg Sequencer.state (takeDemand_toAmber openTook demand).1)
    rw [barrierFaultReport_shut, if_pos (taken _), if_pos (.inl road)]
  · exact barrierFaultReport_shut s

theorem takeFaultReport_carries (s : State) : CarriesUp s (takeFaultReport s) := by
  have took : CarriesUp s s.tookFree := .of_only (tookFree_only s) (by decide)
  exact .ite ((took.trans (.ite (takeDemand_carries _) (.refl _))).trans (barrierFaultReport_carries _))
    (barrierFaultReport_carries s)

theorem barrierFallen_state (b : Fin 4) (detail : Nat) (s : State) :
    (barrierFallen b detail s).seq.state = s.seq.state :=
  ((emit_only _ _).state_eq (by decide)).trans ((endThenRaise_only _ _ _ _ _).state_eq (by decide))

theorem endThenRaise_carries (e : Option FaultKind) (k : FaultKind) (o d : Nat) (s : State) :
    CarriesUp s (endThenRaise e k o d s) :=
  .of_faults (endThenRaise_only e k o d s) (by decide) (endThenRaise_follows e k o d s)

/-- A barrier that falls carries over everything but the law of the barriers of an open road. -/
theorem barrierFallen_carries (b : Fin 4) (detail : Nat) (s : State) : Carries s (barrierFallen b detail s) := by
  have fallen : Carries s (s.setBarrier b fun x => x.toFault s.now detail) :=
    { part := rfl, live := rfl, startUp := rfl, reds := id, sections := fun _ => ⟨rfl, id⟩, faults := .refl _
      outputs := fun outputs a => by
        rw [setBarrier_getElem]
        split
        · exact Barrier.toFault_match _ _ _
        · exact outputs a }
  exact (fallen.trans (endThenRaise_carries _ _ _ _ _).toCarries).trans (emit_carries _ _).toCarries

/-- The report closes the road, so that no law of an open road is asked of it (R72). -/
theorem barrierFault_carries (b : Fin 4) (detail : Nat) (s : State) : CarriesUp s (barrierFault b detail s) := by
  have reported : CarriesUp s (takeFaultReport (barrierFallen b detail s)) :=
    ⟨(barrierFallen_carries b detail s).trans (takeFaultReport_carries _).toCarries, fun _ road => by
      rw [takeFaultReport_state] at road
      split at road
      · exact absurd road (by decide)
      · next shut => exact absurd road shut⟩
  rw [barrierFault_eq]
  exact (reported.trans (takeDemand_carries _)).trans (barrierChanged_carries _)

/-! ### Barriers judged (R105 to R116) -/

theorem keepBarrier_carries {b : Fin 4} {x : Barrier} {s : State} (h : s.barriers[b].Carried x) :
    CarriesUp s (keepBarrier b x s) := by
  have set : CarriesUp s (s.setBarrier b fun _ => x) := setBarrier_carries h
  have ended : ∀ c : Bool, CarriesUp s
      (if c then endCondition .barrierDisturbed b.val (s.setBarrier b fun _ => x) else s.setBarrier b fun _ => x) :=
    fun c => .ite (set.trans (endCondition_carries _ _ _)) set
  exact .ite (ended _) ((ended _).trans (barrierChanged_carries _))

theorem judgeBarrier_carries (b : Fin 4) (s : State) : CarriesUp s (judgeBarrier b s) := by
  unfold judgeBarrier
  split
  · next x judged => exact keepBarrier_carries (Barrier.judge_carried judged)
  · exact barrierFault_carries b _ s

theorem takeLimit_carries (b : Fin 4) (s : State) : CarriesUp s (takeLimit b s) := by
  unfold takeLimit
  split
  · exact barrierFault_carries b _ s
  · exact judgeBarrier_carries b s

theorem acceptContacts_carries (b : Fin 4) (up down : Bool) (s : State) : CarriesUp s (acceptContacts b up down s) := by
  have accepted : CarriesUp s (s.setBarrier b fun x => { x with up := x.up.accept up, down := x.down.accept down }) :=
    setBarrier_carries (Barrier.carried_of_eq rfl rfl rfl rfl)
  exact accepted.trans (judgeBarrier_carries b _)

theorem settleBarrier_carries {b : Fin 4} {s : State} (fault : s.barriers[b].state = some .fault) :
    CarriesUp s (settleBarrier b s) := by
  have down : CarriesUp s (s.setBarrier b fun x => { x.enter .down with settled := none }) :=
    setBarrier_carries ⟨rfl, fun held => absurd (fault.symm.trans held) (by decide), fun _ => ⟨rfl, rfl⟩⟩
  exact (down.trans (endCondition_carries _ _ _)).trans (barrierChanged_carries _)

theorem lostDown_carries (b : Fin 4) (s : State) :
    CarriesUp s (raise .barrierDisturbed b.val 0 (s.setBarrier b fun x => { x with disturbed := true })) := by
  have marked : CarriesUp s (s.setBarrier b fun x => { x with disturbed := true }) :=
    setBarrier_carries (Barrier.carried_of_eq rfl rfl rfl rfl)
  exact marked.trans (raise_carries _ _ _ _)

/-! ### Sections (R22 to R33) -/

/-- An effect that leaves a live section live (R25 to R27, R32, R33). -/
def SectEffect.Lives (s : State) (e : SectEffect) : Prop :=
  s.sections[e.index].state.isSome = true → e.change.new.state.isSome = true

theorem Sect.enter_lives {c : Sect} (h : c.state.isSome = true) : c.enter.new.state.isSome = true := by
  unfold Sect.enter
  split
  · rfl
  · next occupied =>
    split
    · rfl
    · exact h
  · rfl
  · exact h
  · exact h

theorem Sect.leave_lives {c : Sect} (h : c.state.isSome = true) : c.leave.new.state.isSome = true := by
  unfold Sect.leave
  split
  · split
    · rfl
    · exact h
  · rfl
  · rfl
  · exact h
  · exact h

theorem Sect.skewed_lives {c : Sect} (h : c.state.isSome = true) : c.skewed.new.state.isSome = true := by
  unfold Sect.skewed
  split
  · exact h
  · rfl
  · exact h

/-- After an event a section stands, or is one that the event gives it. -/
theorem setEffects_getElem_or (es : List SectEffect) (s : State) (i : Fin 10) :
    (setEffects es s).sections[i] = s.sections[i] ∨ ∃ e ∈ es, e.index = i ∧ (setEffects es s).sections[i] = e.change.new := by
  unfold setEffects
  induction es generalizing s with
  | nil => exact .inl rfl
  | cons e es ih =>
    rcases ih (s.setSect e.index fun _ => e.change.new) with stands | ⟨e', mem, at_, new⟩
    · rw [setSect_getElem] at stands
      split at stands
      · next here => exact .inr ⟨e, List.mem_cons_self, here, stands⟩
      · exact .inl stands
    · exact .inr ⟨e', List.mem_cons_of_mem _ mem, at_, new⟩

theorem foldRaised_carries (es : List SectEffect) (s : State) : CarriesUp s (es.foldl (fun s e => e.raised s) s) :=
  .foldl (fun s e => by
    unfold SectEffect.raised
    split
    · exact .refl s
    · split
      · exact .refl s
      · exact raise_carries _ _ _ s) es s

theorem applyEffects_carries {es : List SectEffect} {s : State} (keep : ∀ e ∈ es, e.Keeps s) (lives : ∀ e ∈ es, e.Lives s)
    (p : Option (Fin 12)) : CarriesUp s (applyEffects es p s) := by
  have frame : Only [.sections] s (setEffects es s) := setEffects_only es s keep
  have set : CarriesUp s (setEffects es s) := by
    refine .of_parts (frame.part_eq (by decide)) (frame.state_eq (by decide)) (by rw [frame.lamps_eq (by decide)])
      (by rw [frame.lamps_eq (by decide)]) (fun b => by rw [frame.barriers_eq (by decide)]; exact .refl _) (fun i => ?_)
      (by rw [frame.faults_eq (by decide)]; exact .refl _)
    rcases setEffects_getElem_or es s i with stands | ⟨e, mem, rfl, new⟩
    · rw [stands]; exact ⟨rfl, id⟩
    · rw [new]; exact ⟨congrArg Prod.fst (keep e mem), lives e mem⟩
  exact (set.trans (emit_carries _ _)).trans (foldRaised_carries es _)

theorem axleEffects_live (s : State) (p : Fin 12) (d : Dir) : ∀ e ∈ s.axleEffects p d, e.Lives s := by
  intro e he
  simp only [State.axleEffects, List.mem_append, Option.mem_toList, Option.map_eq_some_iff] at he
  rcases he with ⟨i, -, rfl⟩ | ⟨i, -, rfl⟩
  · exact Sect.leave_lives
  · exact Sect.enter_lives

theorem skewEffects_live (s : State) (p : Fin 12) : ∀ e ∈ s.skewEffects p, e.Lives s := by
  intro e he
  simp only [State.skewEffects, List.mem_append, Option.mem_toList, Option.map_eq_some_iff] at he
  rcases he with ⟨i, -, rfl⟩ | ⟨i, -, rfl⟩
  · exact Sect.skewed_lives
  · exact Sect.skewed_lives

theorem endRecords_carries (l : List (Fin 10)) (s : State) : CarriesUp s (endRecords l s) :=
  .of_only (endRecords_only l s) (by decide)

theorem carryOutRestore_carries (i : Fin 10) (m : RestoreMode) (s : State) : CarriesUp s (carryOutRestore i m s) := by
  have applied : CarriesUp s (applyEffects [⟨i, s.sections[i], s.sections[i].restored m⟩] none s) :=
    applyEffects_carries (by simpa [SectEffect.Keeps] using Sect.restored_settings _ m)
      (by cases m <;> simp [SectEffect.Lives, Sect.restored, Sect.become]) none
  have ended := applied.trans (endCondition_carries .sectionDisturbed i.val _)
  unfold carryOutRestore
  cases m with
  | direct => exact ended.trans (endRecords_carries _ _)
  | sweep =>
    exact ((ended.trans (.of_only (sweepCommits_only i _) (by decide))).trans (takeDemand_carries _)).trans
      (endRecords_carries _ _)

theorem restore_carries (n m : Nat) (s : State) : CarriesUp s (restore n m s).2 := by
  unfold restore
  split
  · split
    · split
      · exact carryOutRestore_carries _ _ s
      · exact .refl s
    · exact .refl s
  · exact .refl s

/-! ### Trains (R43 to R58) -/

theorem commitRecord_carries (k : Fin 4) (c : CommitCause) (t : Time) (short : Bool) (s : State) :
    CarriesUp s (commitRecord k c t short s) := .of_only (commitRecord_only k c t short s) (by decide)

theorem speedChecks_carries (k : Fin 4) (p : Fin 12) (n : Option Nat) (s : State) : CarriesUp s (speedChecks k p n s) := by
  unfold speedChecks
  split
  · exact emit_carries _ s
  · split
    · exact .refl s
    · exact .when fun _ => (emit_carries _ s).trans (raise_carries _ _ _ _)

theorem commitTest_carries (k : Fin 4) (t : Nat) (s : State) : CarriesUp s (commitTest k t s) := by
  have commits := commitRecord_carries k .prediction s.now
  unfold commitTest
  split
  · exact .refl s
  · refine .ite (.refl s) (.when fun _ => .ite ?_ (commits false s))
    exact ((commits true s).trans (emit_carries _ _)).trans (raise_carries _ _ _ _)

theorem predict_carries (k : Fin 4) (p : Fin 12) (n : Option Nat) (s : State) : CarriesUp s (predict k p n s) := by
  have set : ∀ t r, CarriesUp t (t.setRecord k r) := fun t r => .of_only (setRecord_only t k r) (by decide)
  unfold predict
  split
  · exact .refl s
  · exact (((speedChecks_carries k p n s).trans (set _ _)).trans (emit_carries _ _)).trans (commitTest_carries k _ _)

theorem lateClosureTest_carries (k : Fin 4) (s : State) : CarriesUp s (lateClosureTest k s) :=
  .ite (.refl s) ((emit_carries _ s).trans (raise_carries _ _ _ _))

theorem arrival_carries (k : Fin 4) (p : Fin 12) (s : State) : CarriesUp s (arrival k p s) := by
  have arrived : CarriesUp s (arriveRecord k p s) := .of_only (arriveRecord_only k p s) (by decide)
  have took : ∀ t : State, CarriesUp t t.tookFree := fun t => .of_only (tookFree_only t) (by decide)
  exact arrived.trans (.ite ((took _).trans (CarriesUp.trans (.ite (takeDemand_carries _) (.refl _))
    (lateClosureTest_carries k _))) (lateClosureTest_carries k _))

theorem takeAxle_carries (p : Fin 12) (d : Dir) (n : Option Nat) (s : State) : CarriesUp s (takeAxle p d n s) := by
  have created : ∀ k, CarriesUp s (createRecord k p s) := fun k => .of_only (createRecord_only k p s) (by decide)
  unfold takeAxle
  split
  · exact .refl s
  · dsimp only
    split
    · split
      · exact (created _).trans (arrival_carries _ p _)
      · split
        · exact arrival_carries _ p s
        · exact .of_only (islandEntry_only _ s) (by decide)
    · refine .when fun _ => ?_
      split
      · exact ((created _).trans (predict_carries _ p n _)).trans (.of_only (testPrepared_only _ _) (by decide))
      · exact .when fun _ => predict_carries _ p n s

/-! ### Points (R4 to R15) -/

theorem axleEvent_carries (p : Fin 12) (d : Dir) (n : Option Nat) (s : State) : CarriesUp s (axleEvent p d n s) := by
  have counted := emit_carries [.count (cntAxles p)] s
  have applied := applyEffects_carries (axleEffects_keep (emit [.count (cntAxles p)] s) p d) (axleEffects_live _ p d) (some p)
  exact ((counted.trans applied).trans (takeAxle_carries p d n _)).trans (endRecords_carries _ _)

theorem skewEvent_carries (p : Fin 12) (s : State) : CarriesUp s (skewEvent p s) := by
  have counted := emit_carries [.count cntSequenceErrors] s
  have applied := applyEffects_carries (skewEffects_keep (emit [.count cntSequenceErrors] s) p) (skewEffects_live _ p) (some p)
  exact (counted.trans applied).trans (endRecords_carries _ _)

theorem pointEvent_carries (p : Fin 12) (e : Option PointEvent) (s : State) : CarriesUp s (pointEvent p e s) := by
  unfold pointEvent
  split
  · exact .refl s
  · exact axleEvent_carries p _ _ s
  · exact skewEvent_carries p s

/-- A change of one point alone. -/
theorem setPoint_carries (s : State) (p : Fin 12) (f : Point → Point) : CarriesUp s (s.setPoint p f) :=
  .of_parts rfl rfl rfl rfl (fun _ => .refl _) (fun _ => ⟨rfl, id⟩) (.refl _)

theorem pointTick_carries (p : Fin 12) (a b expiring : Bool) (s : State) : CarriesUp s (pointTick p a b expiring s) := by
  have told : ∀ (y : Point) (raises : Bool) (d : Nat) (e : Option PointEvent), CarriesUp s
      (pointEvent p e (if raises then raise .headFault p.val d (s.setPoint p fun _ => y) else s.setPoint p fun _ => y)) :=
    fun y raises d e => CarriesUp.trans (.ite ((setPoint_carries s p _).trans (raise_carries _ _ _ _))
      (setPoint_carries s p _)) (pointEvent_carries p e _)
  exact told _ _ _ _

theorem headTick_carries (p : Fin 12) (a b : Window) (s : State) : CarriesUp s (headTick p a b s) :=
  (setPoint_carries s p _).trans (pointTick_carries p _ _ _ _)

theorem endQuiet_carries (p : Fin 12) (s : State) : CarriesUp s (endQuiet p s) :=
  (setPoint_carries s p _).trans (endCondition_carries _ _ _)

/-! ### Lamps (R89 to R99) -/

/-- A change of one lamp alone. -/
theorem setLamp_carries (s : State) (c : Fin 10) (f : Lamp → Lamp) : CarriesUp s (s.setLamp c f) :=
  .of_parts rfl rfl rfl rfl (fun _ => .refl _) (fun _ => ⟨rfl, id⟩) (.refl _)

theorem onChange_carries (was is : Bool) (k : FaultKind) (o d : Nat) (s : State) : CarriesUp s (onChange was is k o d s) :=
  .ite (raise_carries k o d s) (.when fun _ => endCondition_carries k o s)

theorem litSample_carries (c : Fin 10) (mA : Nat) (s : State) : CarriesUp s (litSample c mA s) := by
  have counted : ∀ (good : Bool) (t : State), CarriesUp t (if good then t else emit [.count cntLampProofFails] t) :=
    fun _ t => .ite (.refl t) (emit_carries _ t)
  have failed : ∀ (f : Lamp → Lamp) (good was is : Bool) (d : Nat), CarriesUp s (onChange was is .lampFail c.val d
      (if good then s.setLamp c f else emit [.count cntLampProofFails] (s.setLamp c f))) :=
    fun f _ _ _ _ => ((setLamp_carries s c f).trans (counted _ _)).trans (onChange_carries _ _ _ _ _ _)
  unfold litSample
  exact .ite (failed _ _ _ _ _) (((failed _ _ _ _ _).trans (onChange_carries _ _ _ _ _ _)).trans
    (onChange_carries _ _ _ _ _ _))

theorem darkSampleTaken_carries (c : Fin 10) (mA : Nat) (s : State) : CarriesUp s (darkSampleTaken c mA s) :=
  (setLamp_carries s c _).trans (onChange_carries _ _ _ _ _ _)

/-- The generator and the start-up flash stand over a lamp test. -/
theorem testFrom_flash (n : Nat) (t : LampTest) (s : State) :
    (testFrom n t s).lamps.gen = s.lamps.gen ∧ (testFrom n t s).lamps.startUp = s.lamps.startUp := by
  have noticed := queueNotice_only (testNotice 0 t) (s.setLamps fun d => { d with test := none })
  unfold testFrom
  split
  · unfold endTest
    rw [noticed.lamps_eq (by decide)]
    exact ⟨rfl, rfl⟩
  · exact ⟨rfl, rfl⟩

theorem testFrom_carries (n : Nat) (t : LampTest) (s : State) : CarriesUp s (testFrom n t s) :=
  .of_lamps (testFrom_only n t s) (by decide) (by rw [(testFrom_flash n t s).1]) (by rw [(testFrom_flash n t s).2])

theorem lampTestRequest_carries (s : State) : CarriesUp s (lampTestRequest s).2 := by
  unfold lampTestRequest
  split
  · exact .refl s
  · split
    · exact testFrom_carries _ _ s
    · exact .refl s

/-! ### The hold set (R78, R79) -/

theorem setHold_carries (signaller on : Bool) (s : State) : CarriesUp s (setHold signaller on s) := by
  have set : ∀ f : Sequencer → Sequencer, (f s.seq).state = s.seq.state → CarriesUp s (holdChanged (s.setSeq f)) :=
    fun f same => ((setSeq_carries same).trans (emit_carries _ _)).trans (takeDemand_carries _)
  unfold setHold
  exact .ite (.ite (.refl s) (set _ rfl)) (.ite (.refl s) (set _ rfl))

theorem hold_carries (signaller : Bool) (v : Nat) (s : State) : CarriesUp s (hold signaller v s).2 := by
  unfold hold
  split
  · exact setHold_carries _ _ s
  · exact setHold_carries _ _ s
  · exact .refl s

/-! ### The signaller line (R143 to R163) -/

theorem acknowledge_carries (req : Requester) (t : AckTarget) (s : State) : CarriesUp s (acknowledge req t s).2 :=
  .of_faults (acknowledge_only req t s) (by decide) (acknowledge_follows req t s)

theorem release_carries (s : State) : CarriesUp s (release s).2 :=
  .of_faults (release_only s) (by decide) (release_follows s)

theorem sigExecute_carries (kind : Byte) (payload : List Byte) (s : State) : CarriesUp s (sigExecute kind payload s).2 := by
  have stays := CarriesUp.refl s
  unfold sigExecute
  split
  · split; exacts [.of_only (statusDue_only s) (by decide), stays]
  · split
    · split; exacts [acknowledge_carries _ _ s, stays]
    · split
      · split; exacts [restore_carries _ _ s, stays]
      · split
        · split; exacts [hold_carries _ _ s, stays]
        · split
          · split; exacts [release_carries s, stays]
          · exact stays

theorem takeCommand_carries (src : BitVec 6) (kind : Byte) (addr : Addressing) (payload : List Byte) (s : State) :
    CarriesUp s (takeCommand src kind addr payload s) := by
  have logged := fun r t => CarriesUp.of_only (sigLog_only src kind addr r payload t) (by decide)
  unfold takeCommand
  split
  · have done := (sigExecute_carries kind payload s).trans (logged (some (sigExecute kind payload s).1) _)
    dsimp only
    split
    · exact done.trans (.of_only (fillConfirm_only _ _ _) (by decide))
    · exact done
  · exact logged _ s

theorem giveUp_alike (rx : RxState) (hb : List Bool) (q : Nat) (s : State) : s.faults.Alike (giveUp rx hb q s).faults :=
  notSent_alike _

theorem abandon_alike (s : State) : s.faults.Alike (abandon s).faults := by
  unfold abandon
  split
  · exact .refl _
  · split
    · exact giveUp_alike _ _ _ s
    · exact .refl _

theorem linkEdges_alike (old new : LinkState) (s : State) : s.faults.Alike (linkEdges old new s).faults := by
  have gone : s.faults.Alike (if old = .active then linkGone (abandon s) else s).faults := by
    split
    · exact (abandon_alike s).trans (linkGone_alike _)
    · exact .refl _
  have up : ∀ t : State, t.faults.Alike (if new = .active then linkUp t else t).faults := fun t => by
    split
    · exact linkUp_alike t
    · exact .refl _
  exact gone.trans (up _)

theorem linkGo_alike (new : LinkState) (cause : LinkCause) (s : State) : s.faults.Alike (linkGo new cause s).faults := by
  have told := (emit_only [.log .link 0 (linkData (some s.line.link) new cause), .notice ⟨.link, [byte new.code]⟩]
    (s.setLine fun l => { l.waitsToBase with link := new, wait := none })).faults_eq (by decide)
  have edges := linkEdges_alike s.line.link new (emit [.log .link 0 (linkData (some s.line.link) new cause),
    .notice ⟨.link, [byte new.code]⟩] (s.setLine fun l => { l.waitsToBase with link := new, wait := none }))
  rw [told] at edges
  exact edges

theorem linkGo_carries (new : LinkState) (cause : LinkCause) (s : State) : CarriesUp s (linkGo new cause s) :=
  .of_faults (linkGo_only new cause s) (by decide) (linkGo_alike new cause s).follows

/-- A change of the Line Controller alone. -/
theorem setLine_carries (s : State) (f : LineController → LineController) : CarriesUp s (s.setLine f) :=
  .of_parts rfl rfl rfl rfl (fun _ => .refl _) (fun _ => ⟨rfl, id⟩) (.refl _)

theorem takeBeacon_carries (s : State) : CarriesUp s (takeBeacon s) := by
  unfold takeBeacon
  split
  · exact (linkGo_carries _ _ s).trans (setLine_carries _ _)
  · exact ((linkGo_carries _ _ s).trans (setLine_carries _ _)).trans (endCondition_carries _ _ _)
  · exact .ite (setLine_carries s _) ((linkGo_carries _ _ s).trans (setLine_carries _ _))
  · exact setLine_carries s _

theorem loseLink_carries (s : State) : CarriesUp s (loseLink s) := (linkGo_carries _ _ s).trans (raise_carries _ _ _ _)

theorem addressedFrame_carries (h : LineHead) (kind : Byte) (addr : Addressing) (payload : List Byte) (s : State) :
    CarriesUp s (addressedFrame h kind addr payload s) := by
  have counted := emit_carries [.count cntLineGood] s
  exact .ite (counted.trans (.when fun _ => takeBeacon_carries _)) (counted.trans (.when fun _ => takeCommand_carries _ _ _ _ _))

theorem completeFrame_carries (h : LineHead) (kind : Byte) (payload : List Byte) (s : State) :
    CarriesUp s (completeFrame h kind payload s) := by
  have lowered := setLine_carries s LineController.waitsToBase
  unfold completeFrame
  refine .ite (.refl s) ?_
  dsimp only
  split
  · exact lowered
  · exact lowered.trans (addressedFrame_carries _ _ _ _ _)

theorem takeLine_carries (rx : RxState) (asm : List Byte) (s : State) : CarriesUp s (takeLine rx asm s) := setLine_carries s _

theorem badFrame_carries (rx : RxState) (q : Nat) (s : State) : CarriesUp s (badFrame rx q s) :=
  .of_only (badFrame_only rx q s) (by decide)

theorem takeChar_carries (s : State) (c : Byte) : CarriesUp s (takeChar s c) := by
  unfold takeChar
  split
  · dsimp only
    split
    · exact takeLine_carries _ _ s
    · exact (takeLine_carries _ _ s).trans (badFrame_carries _ _ _)
    · exact (takeLine_carries _ _ s).trans (badFrame_carries _ _ _)
    · exact ((takeLine_carries _ _ s).trans (completeFrame_carries _ _ _ _)).trans (react_carries _)
  · exact .when fun _ => setLine_carries s _

theorem takeChars_carries (cs : List Byte) (s : State) : CarriesUp s (takeChars cs s) := .foldl takeChar_carries cs s

theorem framingError_carries (s : State) : CarriesUp s (framingError s) :=
  .ite ((takeLine_carries _ _ s).trans (badFrame_carries _ _ _)) (.when fun _ => setLine_carries s _)

theorem gapAbort_carries (s : State) : CarriesUp s (gapAbort s) := .of_only (gapAbort_only s) (by decide)

/-! ### The part's own frame (R152 to R156) -/

theorem frameSent_alike (s : State) : s.faults.Alike (frameSent s).faults := by
  unfold frameSent
  split
  · exact .refl _
  · next f _ =>
    have counted := (emit_only [.count cntLineSent] s).faults_eq (by decide)
    have marked := writeMarks_alike f (emit [.count cntLineSent] s)
    rw [counted] at marked
    dsimp only
    rw [(lineSettle_only _).faults_eq (by decide)]
    exact marked

theorem settled_giveUp_alike (rx : RxState) (hb : List Bool) (q : Nat) {s t : State} (same : t.faults = s.faults) :
    s.faults.Alike (lineSettle (giveUp rx hb q t)).faults := by
  rw [(lineSettle_only _).faults_eq (by decide), ← same]
  exact giveUp_alike rx hb q t

theorem loseArbitration_alike (s : State) : s.faults.Alike (loseArbitration s).faults := by
  unfold loseArbitration
  split
  · exact .refl _
  · have counted := (emit_only [.count cntArbLost] (s.setLine LineController.sampledNow)).faults_eq (by decide)
    dsimp only
    split
    · exact settled_giveUp_alike _ _ _ (((emit_only _ _).faults_eq (by decide)).trans counted)
    · exact settled_giveUp_alike _ _ _ counted

theorem collide_alike (s : State) : s.faults.Alike (collide s).faults := by
  unfold collide
  split
  · exact .refl _
  · exact settled_giveUp_alike _ _ _ ((emit_only _ _).faults_eq (by decide))

theorem startBit_alike (c : LineClass) (s : State) : s.faults.Alike (startBit c s).faults := by
  unfold startBit
  split
  · rw [(lineSettle_only _).faults_eq (by decide)]
    exact .refl _
  · next k _ =>
    exact freeze_alike k (s.setLine fun l => { l with inFlight := some { l.frame c k with begun := true } })

theorem lineTick_alike (rate : Nat) (s : State) : s.faults.Alike (lineTick rate s).faults := by
  unfold lineTick
  dsimp only
  split
  · split
    · exact startBit_alike _ (s.setLine fun l => l.tick rate)
    · exact .refl _
  · exact .refl _

end Sys2Proof.Machine
end

section
/-! PROOFS. The Sequencer that has taken the demand leaves OPEN and RAISING to the demand's absence (R66, R73, R77). -/

namespace Sys2Proof.Machine

/-! ### The end of a condition leaves the latch (R127, R130) -/

/-- A change of the Fault Manager that leaves the latch. -/
def FaultManager.SameLatch (f : FaultManager) (x : FaultStep) : Prop := x.1.latch = f.latch

theorem FaultManager.endAt_sameLatch (f : FaultManager) (now : Time) (i : Fin 32) : f.SameLatch (f.endAt now i) := by
  unfold FaultManager.endAt
  split
  · rfl
  · split
    · unfold FaultManager.restate
      split <;> rfl
    · unfold FaultManager.remove
      split <;> rfl
    · rfl

theorem FaultManager.testTableFull_sameLatch (f : FaultManager) (now : Time) : f.SameLatch (f.testTableFull now) := by
  unfold FaultManager.testTableFull
  split
  · exact f.endAt_sameLatch now 31
  · rfl

theorem FaultManager.ended_sameLatch (f : FaultManager) (now : Time) (k : FaultKind) (o : Nat) :
    f.SameLatch (f.ended now k o) := by
  unfold FaultManager.ended
  split
  · rfl
  · split
    · rfl
    · exact (FaultManager.testTableFull_sameLatch _ now).trans (f.endAt_sameLatch now _)

theorem endCondition_latch (k : FaultKind) (o : Nat) (s : State) : (endCondition k o s).faults.latch = s.faults.latch := by
  unfold endCondition
  rw [deriveMode_faults, applyFault_faults]
  exact s.faults.ended_sameLatch s.now k o

theorem raiseBarrier_latch (b : Fin 4) (s : State) : (raiseBarrier b s).faults.latch = s.faults.latch := by
  have ended : ∀ c : Bool,
      (if c then endCondition .barrierDisturbed b.val (s.setBarrier b fun x => x.raised s.now)
        else s.setBarrier b fun x => x.raised s.now).faults.latch = s.faults.latch := fun c => by
    split
    · exact endCondition_latch _ _ _
    · rfl
  exact ended _

theorem toBarriers_latch {f : Fin 4 → State → State} (h : ∀ b s, (f b s).faults.latch = s.faults.latch)
    (p : Barrier → Bool) (s : State) : (toBarriers p f s).faults.latch = s.faults.latch := by
  have fold : ∀ (l : List (Fin 4)) (t : State),
      (l.foldl (fun t b => if t.barriers[b].configured && p t.barriers[b] then f b t else t) t).faults.latch =
        t.faults.latch := by
    intro l
    induction l with
    | nil => exact fun t => rfl
    | cons b l ih =>
      intro t
      refine (ih _).trans ?_
      dsimp only
      split
      · exact h b t
      · rfl
  exact fold allBarriers s

theorem enterRaising_latch (s : State) : (enterRaising s).faults.latch = s.faults.latch := by
  have moved : Only ([.seq, .lamps] ++ recordBlocks) s (lampCommand .redContinue (seqMove .raising .guardPassed s)) :=
    (seqMove_only _ _ s).seq (lampCommand_only _ _) (by decide) (by decide)
  have raised := (toBarriers_latch raiseBarrier_latch (fun _ => true)
    (lampCommand .redContinue (seqMove .raising .guardPassed s))).trans
      (congrArg FaultManager.latch (moved.faults_eq (by decide)))
  unfold enterRaising testRaising
  dsimp only
  split
  · rw [enterOpen_eq]
    have opened := congrArg FaultManager.latch ((openedRoad_only (toBarriers (fun _ => true) raiseBarrier
      (lampCommand .redContinue (seqMove .raising .guardPassed s)))).faults_eq (by decide))
    split
    · exact (endCondition_latch _ _ _).trans (opened.trans raised)
    · exact opened.trans raised
  · exact raised

/-! ### The demand after it is taken (R64, R66, R73, R77) -/

theorem demand_of_line {s : State} (l : LineController) : { s with line := l }.demand = s.demand := rfl

/-- The mode is FAILED exactly while the latch is set (R131). -/
theorem FaultManager.Derives.failed_iff {f : FaultManager} (h : f.Derives) : f.mode = some .failed ↔ f.latch = true := by
  rw [show f.mode = some f.derived from h]
  unfold FaultManager.derived
  cases f.latch
  · cases f.anyActive .minor <;> simp
  · simp

/-- The demand rises only with a slot, a section, the hold set or the mode (R64). -/
theorem demand_of_parts {s t : State} (slots : t.slots = s.slots) (sections : t.sections = s.sections)
    (holds : t.seq.holdSignaller = s.seq.holdSignaller ∧ t.seq.holdLocal = s.seq.holdLocal)
    (mode : t.faults.mode = some .failed ↔ s.faults.mode = some .failed) : t.demand = s.demand := by
  have same : (t.faults.mode == some .failed) = (s.faults.mode == some .failed) := by
    rw [Bool.eq_iff_iff, beq_iff_eq, beq_iff_eq]
    exact mode
  unfold State.demand
  rw [slots, sections, holds.1, holds.2, same]

theorem enterRaising_demand {s : State} (derives : s.faults.Derives)
    (down : ∀ b : Fin 4, s.barriers[b].configured = true → s.barriers[b].state = some .down)
    (live : s.seq.state.isSome = true) : (enterRaising s).demand = s.demand := by
  have frame := enterRaising_only s
  have holds : (enterRaising s).seq.holdSignaller = s.seq.holdSignaller ∧
      (enterRaising s).seq.holdLocal = s.seq.holdLocal := frame .holds (by decide)
  refine demand_of_parts (enterRaising_effect down).1 (frame.sections_eq (by decide)) holds ?_
  rw [((enterRaising_carries live).faults.derives derives).failed_iff, derives.failed_iff, enterRaising_latch]

/-- In every other state the demand changes nothing (R71). -/
theorem takeDemand_elsewhere {s : State} (notOpen : s.seq.state ≠ some .roadOpen) (notRaising : s.seq.state ≠ some .raising)
    (notClosed : s.seq.state ≠ some .closed) : takeDemand s = s := by
  unfold takeDemand
  split
  · contradiction
  · contradiction
  · contradiction
  · rfl

/-- The road is OPEN or about to be. -/
def State.Opens (s : State) : Prop := s.seq.state = some .roadOpen ∨ s.seq.state = some .raising

theorem not_opens_of_state {s : State} {x : SeqState} (h : s.seq.state = some x) (shut : x ≠ .roadOpen ∧ x ≠ .raising) :
    ¬s.Opens := by
  unfold State.Opens
  rw [h, Option.some.injEq, Option.some.injEq]
  exact not_or.2 shut

/-- Once the demand is taken, the road is OPEN or RAISING only without it (R66, R73, R77). -/
theorem takeDemand_settles {s : State} (derives : s.faults.Derives) (opens : (takeDemand s).Opens) :
    (takeDemand s).demand = false := by
  have shut : ∀ x, (takeDemand s).seq.state = some x → x ≠ .roadOpen ∧ x ≠ .raising → (takeDemand s).demand = false :=
    fun _ state other => absurd opens (not_opens_of_state state other)
  by_cases opened : s.seq.state = some .roadOpen
  · cases demand : s.demand with
    | false => rwa [takeDemand_undemanded (.inl opened) demand]
    | true => exact shut _ (congrArg Sequencer.state (takeDemand_toAmber opened demand).1) (by decide)
  by_cases raising : s.seq.state = some .raising
  · cases demand : s.demand with
    | false => rwa [takeDemand_undemanded (.inr raising) demand]
    | true =>
      obtain ⟨closing, -⟩ := takeDemand_recloses raising demand
      rcases closing with state | state | state <;> exact shut _ state (by decide)
  by_cases closed : s.seq.state = some .closed
  · have tested := takeDemand_closed closed
    unfold testClosed at tested
    split at tested
    · next test =>
      obtain ⟨-, absent, down⟩ := test
      split at tested
      · exact shut _ (by rw [tested, (guardCommit_only _ s).state_eq (by decide), closed]) (by decide)
      · rw [tested, enterRaising_demand derives ((barriersAll_down_iff s).1 down) (live_of_state closed)]
        exact absent
    · exact shut _ (by rw [tested, closed]) (by decide)
  · rw [takeDemand_elsewhere opened raising closed] at opens
    exact (opens.elim opened raising).elim

end Sys2Proof.Machine
end

section
/-! PROOFS. The rules of the reds and of the open road (R65, R66): what keeps them, and the starts and configuration requests
among it. -/

namespace Sys2Proof.Machine

/-! ### The rules, and what keeps them -/

/-- The rules of the reds (R65, R104). -/
structure RedsRules (s : State) : Prop where
  outputs : BarrierOutputs s
  flash : RedsFlash s
  up : BarriersUpWhenOpen s

/-- The rules of the open road, with those it rests on (R22, R66, R84, R131). -/
structure RoadRules (s : State) : Prop where
  sequencer : SequencerInRun s
  mode : ModeDerived s
  sections : SectionsLive s
  road : RoadOpenOnlyUndemanded s

/-- A command, or a part of one after which the demand has been taken, keeps the rules. -/
structure KeepsRules (s t : State) : Prop where
  reds : RedsRules s → RedsRules t
  road : RoadRules s → RoadRules t

theorem KeepsRules.refl (s : State) : KeepsRules s s := ⟨id, id⟩

theorem KeepsRules.trans {s t u : State} (h : KeepsRules s t) (h' : KeepsRules t u) : KeepsRules s u :=
  ⟨h'.reds ∘ h.reds, h'.road ∘ h.road⟩

theorem KeepsRules.ite {s t u : State} {c : Prop} [Decidable c] (ht : c → KeepsRules s t) (hu : ¬c → KeepsRules s u) :
    KeepsRules s (if c then t else u) := by
  split
  · next holds => exact ht holds
  · next fails => exact hu fails

/-- A command that takes effect only when it is due. -/
theorem KeepsRules.due {s t : State} {c : Prop} [Decidable c] (h : c → KeepsRules s t) : KeepsRules s (if c then t else s) :=
  .ite h fun _ => .refl s

theorem KeepsRules.foldl {α : Type} {f : State → α → State} (hf : ∀ s a, KeepsRules s (f s a)) (l : List α) (s : State) :
    KeepsRules s (l.foldl f s) := by
  induction l generalizing s with
  | nil => exact .refl s
  | cons a l ih => exact (hf s a).trans (ih (f s a))

/-! ### Within RUN -/

/-- What is carried over keeps the rules of the reds, in CONFIG as in RUN. -/
theorem CarriesUp.redsRules {s t : State} (h : CarriesUp s t) (rules : RedsRules s) : RedsRules t where
  outputs := h.outputs rules.outputs
  flash := by
    obtain ⟨config, run⟩ := rules.flash
    exact ⟨fun part => by rw [h.startUp]; exact config (h.part.symm.trans part),
      fun part => h.reds (run (h.part.symm.trans part))⟩
  up part := h.up (rules.up (h.part.symm.trans part))

/-- What is carried over in RUN keeps the rules of the road, given the demand's. -/
theorem CarriesUp.roadRules {s t : State} (h : CarriesUp s t) (run : s.part = .run) (rules : RoadRules s)
    (undemanded : t.Opens → t.demand = false) : RoadRules t where
  sequencer := by
    unfold SequencerInRun
    rw [h.live, h.part]
    exact rules.sequencer
  mode := by
    obtain ⟨derives, latched, -⟩ := rules.mode
    exact ⟨fun _ => h.faults.derives (derives run), h.faults.latched latched,
      fun config => absurd ((h.part.trans run).symm.trans config) (by decide)⟩
  sections _ i used := (h.sections i).2 (rules.sections run i (by rwa [← (h.sections i).1]))
  road _ := undemanded

theorem RoadRules.derives {s : State} (rules : RoadRules s) (run : s.part = .run) : s.faults.Derives := rules.mode.1 run

/-- In RUN, what is carried over keeps the rules once the demand is taken again (R64). -/
theorem KeepsRules.reacted {s u : State} (run : s.part = .run) (h : CarriesUp s u) : KeepsRules s (react u) := by
  have whole := h.trans (react_carries u)
  refine ⟨whole.redsRules, fun rules => whole.roadRules run rules fun opens => ?_⟩
  have settled := lineSettle_only (takeDemand u)
  have demand : (react u).demand = (takeDemand u).demand :=
    demand_congr (settled.slots_eq (by decide)) (settled.sections_eq (by decide))
      (congrArg Sequencer.holdSignaller (settled.seq_eq (by decide) (by decide)))
      (congrArg Sequencer.holdLocal (settled.seq_eq (by decide) (by decide))) (settled.faults_eq (by decide))
  rw [demand]
  refine takeDemand_settles (h.faults.derives (rules.derives run)) ?_
  unfold State.Opens
  rwa [← settled.state_eq (by decide)]

/-! ### What leaves the Sequencer and the demand -/

/-- An operation that leaves what the demand and the open road are made of (R64, R66). -/
structure Stands (s t : State) : Prop extends CarriesUp s t where
  state : t.seq.state = s.seq.state
  demand : t.demand = s.demand
  mode : t.faults.mode = s.faults.mode
  latch : t.faults.latch = s.faults.latch

theorem Stands.keeps {s t : State} (h : Stands s t) : KeepsRules s t where
  reds := h.toCarriesUp.redsRules
  road rules := by
    have undemanded : t.part = .run → t.Opens → t.demand = false := fun run opens => by
      rw [h.demand]
      refine rules.road (h.part.symm.trans run) ?_
      unfold State.Opens at opens
      rwa [h.state] at opens
    cases part : s.part with
    | run => exact h.toCarriesUp.roadRules part rules (undemanded (h.part.trans part))
    | config =>
      have config := h.part.trans part
      have outside : t.part ≠ .run := by rw [config]; decide
      refine ⟨?_, ⟨fun run => absurd run outside, h.faults.latched rules.mode.2.1, fun _ => ?_⟩,
        fun run => absurd run outside, fun run => absurd run outside⟩
      · unfold SequencerInRun
        rw [h.live, h.part]
        exact rules.sequencer
      · rw [h.mode, h.latch]
        exact rules.mode.2.2 part

/-- The blocks that hold what the rules read. -/
def ruleBlocks : List Block := [.part, .seq, .holds, .lamps, .barriers, .sections, .slots, .faults]

section
variable {bs : List Block} {s t : State} (h : Only bs s t)
include h

/-- Of the blocks that the rules read only the Fault Manager changes, in what neither latch nor mode reads. -/
theorem KeepsRules.of_alike (off : ∀ b ∈ [Block.part, .seq, .holds, .lamps, .barriers, .sections, .slots], b ∉ bs)
    (alike : s.faults.Alike t.faults) : KeepsRules s t := by
  have seq := h.seq_eq (off _ (by decide)) (off _ (by decide))
  refine Stands.keeps ⟨.of_faults h (fun b hb => off b (by revert b; decide)) alike.follows, by rw [seq], ?_, alike.mode,
    alike.latch⟩
  exact demand_of_parts (h.slots_eq (off _ (by decide))) (h.sections_eq (off _ (by decide))) (by rw [seq]; exact ⟨rfl, rfl⟩)
    (by rw [alike.mode])

theorem KeepsRules.of_only (off : ∀ b ∈ ruleBlocks, b ∉ bs) : KeepsRules s t :=
  .of_alike h (fun b hb => off b (by revert b; decide)) (by rw [h.faults_eq (off _ (by decide))]; exact .refl _)

/-- Only the lamps change, the generator and the start-up flash in their times. -/
theorem KeepsRules.of_lamps (off : ∀ b ∈ [Block.part, .seq, .holds, .barriers, .sections, .slots, .faults], b ∉ bs)
    (gen : t.lamps.gen.isSome = s.lamps.gen.isSome) (startUp : t.lamps.startUp.isSome = s.lamps.startUp.isSome) :
    KeepsRules s t := by
  have seq := h.seq_eq (off _ (by decide)) (off _ (by decide))
  have faults := h.faults_eq (off _ (by decide))
  refine Stands.keeps ⟨.of_lamps h (fun b hb => off b (by revert b; decide)) gen startUp, by rw [seq], ?_, by rw [faults],
    by rw [faults]⟩
  exact demand_congr (h.slots_eq (off _ (by decide))) (h.sections_eq (off _ (by decide))) (by rw [seq]) (by rw [seq]) faults

end

/-- The marks and times of the Sequencer are read by no rule. -/
theorem setSeq_rules {s : State} {f : Sequencer → Sequencer} (state : (f s.seq).state = s.seq.state)
    (signaller : (f s.seq).holdSignaller = s.seq.holdSignaller) (local_ : (f s.seq).holdLocal = s.seq.holdLocal) :
    KeepsRules s (s.setSeq f) :=
  Stands.keeps ⟨setSeq_carries state, state, demand_congr rfl rfl signaller local_ rfl, rfl, rfl⟩

/-- A change of a record that leaves its commit leaves the demand (R64). -/
theorem setSlot_rules {s : State} {k : Fin 4} {f : Slot → Slot} (h : ∀ x, (f x).demands = x.demands) :
    KeepsRules s (s.setSlot k f) := by
  have demands : ∀ j : Fin 4, (s.setSlot k f).slots[j].demands = s.slots[j].demands := fun j => by
    rw [show (s.setSlot k f).slots[j] = _ from upd_getFin _ _ _ _]
    split
    · exact h _
    · rfl
  have demand : (s.setSlot k f).demand = s.demand := by
    unfold State.demand
    simp only [demands]
    rfl
  exact Stands.keeps ⟨.of_parts rfl rfl rfl rfl (fun _ => .refl _) (fun _ => ⟨rfl, id⟩) (.refl _), rfl, demand, rfl, rfl⟩

theorem setHost_rules (s : State) (f : HostPort → HostPort) : KeepsRules s (s.setHost f) :=
  .of_only (setHost_only s f) (by decide)

theorem emit_rules (os : List Output) (s : State) : KeepsRules s (emit os s) := .of_only (emit_only os s) (by decide)

/-- In CONFIG the Sequencer has no state, and takes no demand (R84). -/
theorem react_rules (s : State) : KeepsRules s (react s) := by
  cases part : s.part with
  | run => exact .reacted part (.refl s)
  | config =>
    refine ⟨(react_carries s).redsRules, fun rules => ?_⟩
    have none_ : s.seq.state = none := by
      cases state : s.seq.state with
      | none => rfl
      | some x => exact absurd (part.symm.trans (rules.sequencer.1 (by rw [state]; rfl))) (by decide)
    have idle : react s = s := by
      unfold react
      rw [takeDemand_closing (.inl none_)]
      exact if_neg (by rw [part]; decide)
    rwa [idle]

/-! ### Configuration (R1, R20, R40 to R42, R63, R87, R88, R103, R142, R176) -/

/-- A change in CONFIG that leaves the Sequencer's state, the Fault Manager, the start-up flash and every barrier's
outputs. -/
structure ConfigStands (s t : State) : Prop where
  part : t.part = s.part
  state : t.seq.state = s.seq.state
  faults : t.faults = s.faults
  startUp : t.lamps.startUp = s.lamps.startUp
  outputs : ∀ b : Fin 4, s.barriers[b].OutputsMatch → t.barriers[b].OutputsMatch

theorem ConfigStands.keeps {s t : State} (config : s.part = .config) (h : ConfigStands s t) : KeepsRules s t := by
  have outside : t.part ≠ .run := by rw [h.part, config]; decide
  refine ⟨fun rules => ⟨fun b => h.outputs b (rules.outputs b), ⟨fun _ => ?_, fun run => absurd run outside⟩,
    fun run => absurd run outside⟩, fun rules => ⟨?_, ⟨fun run => absurd run outside, ?_, fun _ => ?_⟩,
    fun run => absurd run outside, fun run => absurd run outside⟩⟩
  · rw [h.startUp]
    exact rules.flash.1 config
  · unfold SequencerInRun
    rw [h.state, h.part]
    exact rules.sequencer
  · rw [h.faults]
    exact rules.mode.2.1
  · rw [h.faults]
    exact rules.mode.2.2 config

/-- A request that sets what is none of this. -/
theorem ConfigStands.of_rfl {s t : State} (part : t.part = s.part) (state : t.seq.state = s.seq.state)
    (faults : t.faults = s.faults) (startUp : t.lamps.startUp = s.lamps.startUp) (barriers : t.barriers = s.barriers) :
    ConfigStands s t := ⟨part, state, faults, startUp, fun b => by rw [barriers]; exact id⟩

theorem setPointConfig_stands {payload : List Byte} {s t : State} (h : setPointConfig payload s = some t) :
    ConfigStands s t := by
  unfold setPointConfig at h
  dsimp only at h
  repeat' split at h
  all_goals cases h
  exact .of_rfl rfl rfl rfl rfl rfl

theorem setSectionConfig_stands {payload : List Byte} {s t : State} (h : setSectionConfig payload s = some t) :
    ConfigStands s t := by
  unfold setSectionConfig at h
  repeat' split at h
  all_goals cases h
  exact .of_rfl rfl rfl rfl rfl rfl

theorem setTrackConfig_stands {payload : List Byte} {s t : State} (h : setTrackConfig payload s = some t) :
    ConfigStands s t := by
  unfold setTrackConfig at h
  dsimp only at h
  repeat' split at h
  all_goals cases h
  exact .of_rfl rfl rfl rfl rfl rfl

theorem setTimingConfig_stands {payload : List Byte} {s t : State} (h : setTimingConfig payload s = some t) :
    ConfigStands s t := by
  unfold setTimingConfig at h
  dsimp only at h
  repeat' split at h
  all_goals cases h
  exact .of_rfl rfl rfl rfl rfl rfl

theorem setFlashConfig_stands {payload : List Byte} {s t : State} (h : setFlashConfig payload s = some t) :
    ConfigStands s t := by
  unfold setFlashConfig at h
  dsimp only at h
  repeat' split at h
  all_goals cases h
  exact .of_rfl rfl rfl rfl rfl rfl

theorem setLampConfig_stands {payload : List Byte} {s t : State} (h : setLampConfig payload s = some t) :
    ConfigStands s t := by
  unfold setLampConfig at h
  dsimp only at h
  repeat' split at h
  all_goals cases h
  exact .of_rfl rfl rfl rfl rfl rfl

theorem setLinkConfig_stands {payload : List Byte} {s t : State} (h : setLinkConfig payload s = some t) :
    ConfigStands s t := by
  unfold setLinkConfig at h
  dsimp only at h
  repeat' split at h
  all_goals cases h
  exact .of_rfl rfl rfl rfl rfl rfl

theorem setMemoryConfig_stands {payload : List Byte} {s t : State} (h : setMemoryConfig payload s = some t) :
    ConfigStands s t := by
  unfold setMemoryConfig at h
  repeat' split at h
  all_goals cases h
  exact .of_rfl rfl rfl rfl rfl rfl

theorem setBarrierConfig_stands {payload : List Byte} {s t : State} (h : setBarrierConfig payload s = some t) :
    ConfigStands s t := by
  unfold setBarrierConfig at h
  repeat' split at h
  all_goals cases h
  refine ⟨rfl, rfl, rfl, rfl, fun b outputs => ?_⟩
  rw [setBarrier_getElem]
  split
  · exact outputs
  · exact outputs

/-- A configuration request in CONFIG (R195). -/
theorem configured_rules {s : State} (config : s.part = .config) {new : Option State}
    (h : ∀ t, new = some t → ConfigStands s t) : KeepsRules s (configured new s).state := by
  cases new with
  | none => exact .refl s
  | some t => exact (h t rfl).keeps config

/-! ### Resets and the start of service (R203 to R205) -/

/-- After a cold reset the part is in CONFIG with the start-up flash (R204). -/
theorem coldStart_rules (s : State) : RedsRules (coldStart s) ∧ RoadRules (coldStart s) := by
  have config : (coldStart s).part = .config := rfl
  have outside : (coldStart s).part ≠ .run := by rw [config]; decide
  have empty : (coldStart s).faults.anyActive .severe = false := by
    simp [FaultManager.anyActive, coldStart, State.reset, FaultManager.cold, FaultSlot.empty]
  refine ⟨⟨fun b => ?_, ⟨fun _ => rfl, fun run => absurd run outside⟩, fun run => absurd run outside⟩,
    ⟨⟨fun live => absurd live Bool.false_ne_true, fun run => absurd run outside⟩,
      ⟨fun run => absurd run outside, fun active => absurd (empty.symm.trans active) (by decide), fun _ => ⟨rfl, rfl⟩⟩,
      fun run => absurd run outside, fun run => absurd run outside⟩⟩
  simp [coldStart, State.reset, Barrier.cold, Barrier.OutputsMatch]

section
variable (old : Option LinkState) (s : State)

theorem serviceFromLine_closed : (serviceFromLine old s).seq.state = some .closed := by
  have rest : (serviceFromLine old s).seq = (startSequencer (startLamps (startFaults (startLine old s)))).seq :=
    (serviceFromPoints_only (startSequencer (startLamps (startFaults (startLine old s))))).seq_eq (by decide) (by decide)
  rw [rest, startSequencer_seq]

theorem serviceFromLine_gen : (serviceFromLine old s).lamps.gen.isSome = true := by
  have rest : (serviceFromLine old s).lamps = (startLamps (startFaults (startLine old s))).lamps :=
    (serviceFromSequencer_only (startLamps (startFaults (startLine old s)))).lamps_eq (by decide)
  rw [rest, (startLamps_lamps _).2]
  rfl

/-- The state as the sections' start finds it. -/
def startedThroughSlots : State := startSlots (startPoints (startSequencer (startLamps (startFaults (startLine old s)))))

theorem startedThroughSlots_only :
    Only ([.link, .line, .faults, .lamps, .seq, .holds, .points, .slots] ++ recordBlocks) s (startedThroughSlots old s) := by
  have line := (startLine_only old s).seq (startFaults_only _) (cs := [.link, .line, .faults] ++ recordBlocks) (by decide)
    (by decide)
  have sequencer := (startLamps_only (startFaults (startLine old s))).seq (startSequencer_only _)
    (cs := [.lamps, .seq, .holds] ++ recordBlocks) (by decide) (by decide)
  have slots := (startPoints_only (startSequencer (startLamps (startFaults (startLine old s))))).seq (startSlots_only _)
    (cs := [.points, .slots]) (by decide) (by decide)
  exact (line.mono (by decide)).trans ((sequencer.mono (by decide)).trans (slots.mono (by decide)))

theorem serviceFromLine_sections (i : Fin 10) (used : (serviceFromLine old s).sections[i].track.isSome = true) :
    (serviceFromLine old s).sections[i].state.isSome = true := by
  have rest : (serviceFromLine old s).sections = (startSections (startedThroughSlots old s)).sections :=
    (serviceFromBarriers_only (startSections (startedThroughSlots old s))).sections_eq (by decide)
  rw [rest, startSections_sections] at used ⊢
  split
  · rfl
  · next out =>
    rw [if_neg out] at used
    exact absurd used out

/-- The barriers' outputs after the start, told of a name for its state, so that no use of the lemma evaluates the start. -/
theorem serviceFromLine_outputs (outputs : BarrierOutputs s) {t : State} (started : serviceFromLine old s = t) :
    BarrierOutputs t := by
  have before := (startedThroughSlots_only old s).seq (startSections_only _)
    (cs := [.link, .line, .lamps, .seq, .holds, .points, .slots, .sections] ++ faultBlocks) (by decide) (by decide)
  have rest : (serviceFromLine old s).barriers = (barriersSet (startSections (startedThroughSlots old s))).barriers :=
    ((serviceFromSupply_only (startBarriers (startSections (startedThroughSlots old s)))).barriers_eq (by decide)).trans
      ((startBarriers_faults_only _).barriers_eq (by decide))
  intro b
  rw [← started, rest, barriersSet, Fin.getElem_fin, remake_getElem]
  split
  · exact Barrier.started_match _ _ _ _
  · rw [before.barriers_eq (by decide)]
    exact outputs b

end

theorem startHost_outputs {s : State} (outputs : BarrierOutputs s) : BarrierOutputs (startReports (startHost s)) := by
  have stands : (startReports (startHost s)).barriers = s.barriers := rfl
  unfold BarrierOutputs
  rw [stands]
  exact outputs

section
variable (old : Option LinkState) {s : State} (run : s.part = .run)
include run

theorem startService_part : (startService old s).part = .run := by
  rw [startService_eq]
  exact ((serviceFromLine_only old _).part_eq (by decide)).trans run

/-- After the start of service the road is CLOSED with the reds flashing, the barriers by their contacts (R85, R102, R118). -/
theorem startService_reds (outputs : BarrierOutputs s) : RedsRules (startService old s) := by
  have part := startService_part old run
  rw [startService_eq] at part ⊢
  have closed := serviceFromLine_closed old (startReports (startHost s))
  have gen := serviceFromLine_gen old (startReports (startHost s))
  generalize started : serviceFromLine old (startReports (startHost s)) = t at *
  have matches_ := serviceFromLine_outputs old _ (startHost_outputs outputs) started
  refine ⟨matches_, ⟨fun config => absurd (part.symm.trans config) (by decide), fun _ => ⟨fun _ => ?_, fun _ => gen⟩⟩,
    fun _ road => ?_⟩
  · rw [closed]
    decide
  · rw [closed] at road
    exact absurd road (by decide)

/-- After it the mode is FAILED and the sections are live (R36, R139). -/
theorem startService_road : RoadRules (startService old s) := by
  have part := startService_part old run
  rw [startService_eq] at part ⊢
  have closed := serviceFromLine_closed old (startReports (startHost s))
  have sections := serviceFromLine_sections old (startReports (startHost s))
  obtain ⟨latch, failed⟩ : FailedLatched (serviceFromLine old (startReports (startHost s))).faults :=
    serviceFromFaults_failed (startLine old _)
  generalize serviceFromLine old (startReports (startHost s)) = t at *
  refine ⟨⟨fun _ => part, fun _ => live_of_state closed⟩,
    ⟨fun _ => ?_, fun _ => latch, fun config => absurd (part.symm.trans config) (by decide)⟩, fun _ => sections,
    fun _ opens => absurd opens (not_opens_of_state closed (by decide))⟩
  unfold FaultManager.derived
  rw [failed, latch, if_pos rfl]

theorem startService_rules : KeepsRules s (startService old s) :=
  ⟨fun rules => startService_reds old run rules.outputs, fun _ => startService_road old run⟩

end

theorem commitStart_rules (s : State) : KeepsRules s (commitStart s) :=
  ⟨fun rules => startService_reds none (s := commitBase s) rfl rules.outputs,
    fun _ => startService_road none (s := commitBase s) rfl⟩

end Sys2Proof.Machine
end

section
/-! PROOFS. Every command, and every step, keeps the rules of the reds and of the open road (R65, R66). -/

namespace Sys2Proof.Machine

/-! ### Host requests (R195 to R205) -/

/-- A change of what no rule reads. -/
theorem KeepsRules.of_eq {s t : State} (part : t.part = s.part) (seq : t.seq = s.seq) (lamps : t.lamps = s.lamps)
    (barriers : t.barriers = s.barriers) (sections : t.sections = s.sections) (slots : t.slots = s.slots)
    (faults : t.faults = s.faults) : KeepsRules s t :=
  Stands.keeps ⟨.of_parts part (by rw [seq]) (by rw [lamps]) (by rw [lamps]) (fun b => by rw [barriers]; exact .refl _)
    (fun i => by rw [sections]; exact ⟨rfl, id⟩) (by rw [faults]; exact .refl _), by rw [seq],
    demand_congr slots sections (by rw [seq]) (by rw [seq]) faults, by rw [faults], by rw [faults]⟩

theorem setMemory_rules (s : State) (f : RecordMemory → RecordMemory) : KeepsRules s (s.setMemory f) :=
  .of_eq rfl rfl rfl rfl rfl rfl rfl

theorem coldStart_keeps (s t : State) : KeepsRules s (coldStart t) :=
  ⟨fun _ => (coldStart_rules t).1, fun _ => (coldStart_rules t).2⟩

theorem warmStart_rules {s : State} (run : s.part = .run) : KeepsRules s (warmStart s) := by
  have tested : ∀ t : State, KeepsRules t (levelTest t) := fun t =>
    .due fun _ => (setMemory_rules t _).trans (.of_only (queueNotice_only _ _) (by decide))
  exact ((setMemory_rules s _).trans (startService_rules _ (s := s.setMemory _) run)).trans (tested _)

theorem hostLog_rules (q : Request) (r : Result) (items : List Byte) (s : State) : KeepsRules s (hostLog q r items s) :=
  emit_rules _ s

/-- A run-time action: its effect, then the demand, then its record (R198). -/
theorem acted_rules {q : Request} {items : List Byte} {x : Result × State} {s : State} (run : s.part = .run)
    (h : CarriesUp s x.2) : KeepsRules s (acted q items x).state := by
  rw [acted_state]
  exact (KeepsRules.reacted run h).trans (hostLog_rules _ _ _ _)

theorem restartRequest_rules (mode : Nat) (s : State) : KeepsRules s (restartRequest mode s).state := by
  unfold restartRequest
  split
  · exact coldStart_keeps s s
  · split
    · exact (hostLog_rules .restart .ok [byte 1] s).trans (setHost_rules _ fun h => { h with warmPending := true })
    · exact .refl s
  · rw [answer_state]
    exact hostLog_rules .restart .outOfRange [byte mode] s

theorem commitRequest_rules (s : State) : KeepsRules s (commitRequest s).state := by
  unfold commitRequest
  split
  · exact .refl s
  · rw [answer_state]
    exact commitStart_rules s

theorem clearCounters_rules (first count : Nat) (s : State) : KeepsRules s (clearCounters first count s) := by
  unfold clearCounters
  exact .of_eq rfl rfl rfl rfl rfl rfl rfl

theorem readCountersRequest_rules (first count clear : Nat) (s : State) :
    KeepsRules s (readCountersRequest first count clear s).state := by
  unfold readCountersRequest
  split
  · rw [answer_state]
    exact .due fun _ => clearCounters_rules first count s
  · exact .refl s

theorem readLogRequest_rules (n : Nat) (s : State) : KeepsRules s (readLogRequest n s).state := by
  unfold readLogRequest
  split
  · rw [answer_state]
    exact setMemory_rules s _
  · exact .refl s

theorem readPassageRequest_rules (n : Nat) (s : State) : KeepsRules s (readPassageRequest n s).state := by
  unfold readPassageRequest
  split
  · rw [answer_state]
    exact setMemory_rules s _
  · exact .refl s

theorem hostRestoreRequest_carries (n m : Nat) (s : State) : CarriesUp s (hostRestoreRequest n m s).2 := by
  unfold hostRestoreRequest
  split
  · exact .refl s
  · exact restore_carries n m s

theorem whileLinkDown_carries {f : State → Result × State} {s : State} (h : CarriesUp s (f s).2) :
    CarriesUp s (whileLinkDown f s).2 := by
  unfold whileLinkDown
  split
  · exact .refl s
  · exact h

theorem ackTaken_carries (payload : List Byte) (s : State) : CarriesUp s (ackTaken payload s) :=
  .ite (.refl s) (.of_parts rfl rfl rfl rfl (fun _ => .refl _) (fun _ => ⟨rfl, id⟩) (.refl _))

/-- A request is served in the part that allows it: configuration in CONFIG, run-time actions in RUN (R195). -/
theorem serve_rules {q : Request} (payload : List Byte) {s : State} (allowed : q.allowedIn s.part = true) :
    KeepsRules s (serve q payload s).state := by
  have config : ∀ {p : Part}, (p == .config) = true → p = .config := fun h => by simpa using h
  have run : ∀ {p : Part}, (p == .run) = true → p = .run := fun h => by simpa using h
  cases q with
  | identify | readTime | readState | readSections | readRecords => exact .refl s
  | configPoint => exact configured_rules (config allowed) fun _ => setPointConfig_stands
  | configSection => exact configured_rules (config allowed) fun _ => setSectionConfig_stands
  | configTrack => exact configured_rules (config allowed) fun _ => setTrackConfig_stands
  | configTiming => exact configured_rules (config allowed) fun _ => setTimingConfig_stands
  | configFlash => exact configured_rules (config allowed) fun _ => setFlashConfig_stands
  | configLamp => exact configured_rules (config allowed) fun _ => setLampConfig_stands
  | configBarrier => exact configured_rules (config allowed) fun _ => setBarrierConfig_stands
  | configLink => exact configured_rules (config allowed) fun _ => setLinkConfig_stands
  | configMemory => exact configured_rules (config allowed) fun _ => setMemoryConfig_stands
  | commit => exact commitRequest_rules s
  | restart => exact restartRequest_rules _ s
  | readFaults =>
    rw [serve, readFaultsRequest_state]
    exact .refl s
  | readCounters => exact readCountersRequest_rules _ _ _ s
  | readLog => exact readLogRequest_rules _ s
  | readPassage => exact readPassageRequest_rules _ s
  | localHold => exact acted_rules (run allowed) (hold_carries _ _ s)
  | lampTest => exact acted_rules (run allowed) (lampTestRequest_carries s)
  | restore => exact acted_rules (run allowed) (hostRestoreRequest_carries _ _ s)
  | faultAck =>
    exact acted_rules (run allowed)
      ((ackTaken_carries payload s).trans (whileLinkDown_carries (acknowledge_carries _ _ _)))
  | release => exact acted_rules (run allowed) (whileLinkDown_carries (release_carries s))

theorem testRequest_rules (kind : Byte) (payload : List Byte) (s : State) :
    KeepsRules s (testRequest kind payload s).state := by
  unfold testRequest
  split
  · exact .refl s
  · split
    · exact .refl s
    · split
      · exact .refl s
      · next allowed => exact serve_rules payload (by simpa using allowed)

theorem placeReply_rules {x : Served} {s : State} (h : KeepsRules s x.state) (kind tag : Byte) :
    KeepsRules s (placeReply kind tag x) := by
  unfold placeReply
  split
  · exact h
  · exact h.trans (setHost_rules _ _)

theorem hostBad_rules (s : State) : KeepsRules s (hostBad s) := emit_rules _ s

theorem takeRequest_rules (kind tag : Byte) (payload : List Byte) (s : State) :
    KeepsRules s (takeRequest kind tag payload s) :=
  .ite (fun _ => .ite (fun _ => hostBad_rules s) fun _ => setHost_rules s _) fun _ =>
    .ite (fun _ => setHost_rules s _) fun _ => placeReply_rules (testRequest_rules kind payload s) kind tag

theorem takeFrame_rules (kind tag : Byte) (payload : List Byte) (s : State) : KeepsRules s (takeFrame kind tag payload s) :=
  .due fun _ => (setHost_rules s _).trans (takeRequest_rules _ _ _ _)

theorem receiveBytes_rules (bytes : List Byte) (s : State) : KeepsRules s (receiveBytes bytes s) := by
  have event : ∀ (t : State) (e : HostEvent), KeepsRules t (hostEvent t e) := fun t e => by
    cases e with
    | bad => exact hostBad_rules t
    | frame kind tag payload => exact takeRequest_rules kind tag payload t
  unfold receiveBytes
  exact (KeepsRules.foldl event _ s).trans (setHost_rules _ _)

theorem dropAssembly_rules (s : State) : KeepsRules s (dropAssembly s) :=
  .ite (fun _ => .refl s) fun _ => (setHost_rules s _).trans (hostBad_rules _)

theorem startTx_rules (s : State) : KeepsRules s (startTx s) := by
  have sends := fun f kind tag p w => (setHost_rules s f).trans (setHost_rules (s.setHost f)
    fun h => { h with tx := some ⟨hostFrame kind tag p, w, 0⟩ })
  unfold startTx
  split
  · exact sends _ _ _ _ _
  · split
    · exact sends _ _ _ _ _
    · split
      · exact (sends _ _ _ _ _).trans (.due fun _ => setHost_rules _ _)
      · exact .refl s

theorem endTx_rules (s : State) : KeepsRules s (endTx s) := by
  unfold endTx
  split
  · exact .refl s
  · exact (setHost_rules s _).trans (.due fun warm => warmStart_rules warm.2)

/-! ### What is due in RUN alone -/

theorem run_of_and {s : State} {b : Bool} (h : (s.part == .run && b) = true) : s.part = .run := by
  rw [Bool.and_eq_true, beq_iff_eq] at h
  exact h.1

theorem left_of_and {a b : Bool} (h : (a && b) = true) : a = true := (Bool.and_eq_true_iff.1 h).1

theorem inSeq_run {s : State} {x : SeqState} (h : s.inSeq x = true) : s.part = .run := run_of_and h

theorem inSeq_live {s : State} {x : SeqState} (h : s.inSeq x = true) : s.seq.state.isSome = true := by
  rw [State.inSeq, Bool.and_eq_true, beq_iff_eq, beq_iff_eq] at h
  exact live_of_state h.2

theorem closing_run {s : State} (h : s.closing = true) : s.part = .run := run_of_and (left_of_and h)

theorem lampDue_run {s : State} {c : Fin 10} (h : s.litProofDue c = true ∨ s.darkSampleDue c = true) : s.part = .run := by
  rcases h with h | h
  · exact run_of_and (left_of_and (left_of_and h))
  · exact run_of_and (left_of_and (left_of_and (left_of_and h)))

theorem limitDue_run {s : State} {b : Fin 4} (h : (s.limitDue b).isSome = true) : s.part = .run := by
  unfold State.limitDue at h
  split at h
  · next run => exact run
  · exact absurd h (by decide)

theorem receives_run {s : State} (h : s.canReceive = true ∨ s.skips = true) : s.part = .run := by
  rcases h with h | h
  · exact run_of_and (left_of_and h)
  · exact run_of_and (left_of_and h)

theorem right_of_and {a b : Bool} (h : (a && b) = true) : b = true := (Bool.and_eq_true_iff.1 h).2

theorem settledDue_fault {b : Barrier} {now : Time} (h : b.settledDue now = true) : b.state = some .fault := by
  simp only [Barrier.settledDue, Bool.and_eq_true, beq_iff_eq] at h
  exact h.1

theorem Sect.isIsland_of {c : Sect} (used : c.track.isSome = true) (island : c.role = .island) : c.isIsland = true := by
  simp [Sect.isIsland, Sect.inUse, used, island]

/-- A live island that is not "not clear" is CLEAR or PREPARED (R35). -/
theorem Sect.clear_of_island {c : Sect} (live : c.state.isSome = true) (clear : c.notClear = false) :
    c.state = some .clear ∨ c.state = some .prepared := by
  unfold Sect.notClear at clear
  cases state : c.state with
  | none => rw [state] at live; exact absurd live (by decide)
  | some x =>
    rw [state] at clear
    cases x with
    | clear => exact .inl rfl
    | prepared => exact .inr rfl
    | occupied | disturbed => exact absurd clear (by decide)

/-- Without the demand every island is clear, no record is committed, the hold set is empty and the mode not FAILED (R64). -/
theorem undemanded_parts {s : State} (live : ∀ i : Fin 10, s.sections[i].track.isSome = true → s.sections[i].state.isSome = true)
    (absent : s.demand = false) :
    (∀ i : Fin 10, s.sections[i].track.isSome = true → s.sections[i].role = .island →
      s.sections[i].state = some .clear ∨ s.sections[i].state = some .prepared) ∧
    (∀ (k : Fin 4) (r : TrainRecord), s.slots[k].record = some r → r.committed = false) ∧
    s.seq.holdSignaller = false ∧ s.seq.holdLocal = false ∧ s.faults.mode ≠ some .failed := by
  simp only [State.demand, Bool.or_eq_false_iff, List.any_eq_false, beq_eq_false_iff_ne, Bool.and_eq_true, not_and,
    Bool.not_eq_true] at absent
  obtain ⟨⟨⟨⟨slots, sections⟩, signaller⟩, localHold⟩, mode⟩ := absent
  refine ⟨fun i used island => ?_, fun k r holds => ?_, signaller, localHold, mode⟩
  · exact Sect.clear_of_island (live i used) (sections i (mem_allSections i) (Sect.isIsland_of used island))
  · have idle := slots k (mem_allSlots k)
    unfold Slot.demands at idle
    rwa [holds] at idle

/-! ### The signaller line -/

theorem receiveFrame_rules (h : LineHead) (kind : Byte) (payload : List Byte) (s : State) :
    KeepsRules s (receiveFrame h kind payload s) := by
  refine .ite (fun _ => .refl s) fun _ => .ite (fun idle => ?_) fun _ => .due fun receives => ?_
  · have run := receives_run (.inl (left_of_and idle))
    exact .reacted run ((takeLine_carries _ _ s).trans (completeFrame_carries _ _ _ _))
  · have run := receives_run (by simpa using receives)
    exact .reacted run (takeChars_carries _ s)

/-- In CONFIG no character is received (R141). -/
theorem deaf_of_config {s : State} (config : s.part = .config) : s.canReceive = false ∧ s.skips = false := by
  have notRun : ¬s.part = .run := by rw [config]; decide
  exact ⟨Bool.eq_false_iff.2 fun h => notRun (receives_run (.inl h)), Bool.eq_false_iff.2 fun h => notRun (receives_run (.inr h))⟩

theorem takeChars_config {s : State} (config : s.part = .config) (cs : List Byte) : takeChars cs s = s := by
  obtain ⟨deaf, noSkip⟩ := deaf_of_config config
  have one : ∀ c, takeChar s c = s := fun c => by
    unfold takeChar
    simp only [deaf, noSkip, Bool.false_eq_true, if_false]
  unfold takeChars
  induction cs with
  | nil => rfl
  | cons c cs ih => rw [List.foldl_cons, one c, ih]

theorem lineFrameBad_rules (cs : List Byte) (framing : Bool) (s : State) :
    KeepsRules s (react (if framing then framingError (takeChars cs s) else takeChars cs s)) := by
  have heard := takeChars_carries cs s
  cases part : s.part with
  | run => exact .reacted part (.ite (heard.trans (framingError_carries _)) heard)
  | config =>
    obtain ⟨deaf, noSkip⟩ := deaf_of_config part
    have same : framingError s = s := by
      unfold framingError
      simp only [deaf, noSkip, Bool.false_eq_true, if_false]
    rw [takeChars_config part, same, ite_self]
    exact react_rules s

theorem lineGapAbort_rules (cs : List Byte) (s : State) : KeepsRules s (react (gapAbort (takeChars cs s))) := by
  cases part : s.part with
  | run => exact .reacted part ((takeChars_carries cs s).trans (gapAbort_carries _))
  | config =>
    obtain ⟨deaf, -⟩ := deaf_of_config part
    have same : gapAbort s = s := by
      unfold gapAbort
      simp only [deaf, Bool.false_and, Bool.false_eq_true, if_false]
    rw [takeChars_config part, same]
    exact react_rules s

theorem setLine_rules (s : State) (f : LineController → LineController) : KeepsRules s (s.setLine f) :=
  .of_eq rfl rfl rfl rfl rfl rfl rfl

theorem lineSettle_rules (s : State) : KeepsRules s (lineSettle s) := .of_only (lineSettle_only s) (by decide)

/-- A mark beside a fault record (R166, R167). -/
theorem setFaultSlot_rules (s : State) (i : Fin 32) {g : FaultSlot → FaultSlot} (h : ∀ x, (g x).record = x.record) :
    KeepsRules s (s.setFaults fun f => { f with table := upd f.table i g }) :=
  .of_alike (setFaults_only s _) (by decide) (s.faults.upd_alike i h)

/-! ### Inputs -/

theorem setPins_rules (s : State) (f : Pins → Pins) : KeepsRules s (s.setPins f) := .of_only (setPins_only s f) (by decide)

theorem setSupply_carries (s : State) (f : Supply → Supply) : CarriesUp s (s.setSupply f) :=
  .of_only (setSupply_only s f) (by decide)

theorem acceptSupply_carries (input : SupplyInput) (ok : Bool) (s : State) : CarriesUp s (acceptSupply input ok s) := by
  have accepts : ∀ f, CarriesUp s
      (if (s.supply.filter input).accepted = ok then s.setSupply f
        else if ok then endCondition (supplyFault input) 0 (s.setSupply f)
        else raise (supplyFault input) 0 0 (s.setSupply f)) := fun f =>
    have set := setSupply_carries s f
    .ite set (.ite (set.trans (endCondition_carries _ _ _)) (set.trans (raise_carries _ _ _ _)))
  exact accepts _

theorem nextFlashPart_rules (s : State) : KeepsRules s (nextFlashPart s) := by
  refine .of_lamps (nextFlashPart_only s) (by decide) ?_ ?_
  all_goals
    unfold nextFlashPart
    split
    · rfl
    · next runs => simp [LampDriver.enterPart, LampDriver.forEnabled, runs]

theorem nextStartUpHalf_rules (s : State) : KeepsRules s (nextStartUpHalf s) := by
  refine .of_lamps (nextStartUpHalf_only s) (by decide) ?_ ?_
  all_goals
    unfold nextStartUpHalf
    split
    · rfl
    · next flashes => simp [LampDriver.startUpHalf, flashes]

theorem testSample_rules (mA : Nat) (s : State) : KeepsRules s (testSample mA s) := by
  refine .of_lamps (testSample_only mA s) (by decide) ?_ ?_
  all_goals
    unfold testSample
    split <;> rfl

theorem testChannelEnd_rules (s : State) : KeepsRules s (testChannelEnd s) := by
  refine .of_lamps (testChannelEnd_only s) (by decide) ?_ ?_
  all_goals
    unfold testChannelEnd
    split
    · rfl
  · rw [(testFrom_flash _ _ _).1]; rfl
  · rw [(testFrom_flash _ _ _).2]; rfl

/-! ### Every command -/

theorem KeepsRules.of_next {s t u : State} {o : Out} (h : o = .next t) (next : o = .next u) (k : KeepsRules s u) :
    KeepsRules s t := by
  cases next.symm.trans h
  exact k

/-- An operation that is due in RUN, with the demand taken after it. -/
theorem KeepsRules.due_reacted {s u : State} {c : Prop} [Decidable c] (run : c → s.part = .run)
    (h : c → CarriesUp s u) : KeepsRules s (if c then react u else s) := .due fun due => .reacted (run due) (h due)

/-- The same of a command that sets an input first. -/
theorem KeepsRules.input_reacted {s u : State} {f : Pins → Pins} {c : Prop} [Decidable c]
    (run : c → (s.setPins f).part = .run) (h : CarriesUp (s.setPins f) u) :
    KeepsRules s (if c then react u else s.setPins f) := (setPins_rules s f).trans (.due_reacted run fun _ => h)

theorem exec_rules (c : Instr) {s t : State} (h : exec c s = .next t) : KeepsRules s t := by
  cases c with
  | coldReset l r => exact .of_next h rfl (coldStart_keeps s _)
  | hostReady r => exact .of_next h rfl (setPins_rules s _)
  | hostFrameDiscarded bytes e =>
    have received := receiveBytes_rules bytes s
    exact .of_next h rfl (.ite (fun _ => received.trans (dropAssembly_rules _)) fun _ => received)
  | hostGap bytes => exact .of_next h rfl ((receiveBytes_rules bytes s).trans (dropAssembly_rules _))
  | hostOverrun kind tag payload => exact .of_next h rfl (.due fun _ => takeFrame_rules kind tag payload s)
  | hostUnknownKind kind tag payload => exact .of_next h rfl (takeFrame_rules kind tag payload s)
  | identify tag payload | readTime tag payload | configPoint tag payload | configSection tag payload
  | configTrack tag payload | configTiming tag payload | configFlash tag payload | configLamp tag payload
  | configBarrier tag payload | configLink tag payload | configMemory tag payload | commit tag payload
  | restartCold tag payload | restartWarm tag payload | readState tag payload | readSections tag payload
  | readRecords tag payload | readFaults tag payload | readCounters tag payload | readLog tag payload
  | readPassage tag payload | localHold tag payload | lampTest tag payload | hostRestore tag payload
  | faultAck tag payload | hostRelease tag payload => exact .of_next h rfl (takeFrame_rules _ tag payload s)
  | hostTxStart => exact .of_next h rfl (.due fun _ => startTx_rules s)
  | hostTxDone => exact .of_next h rfl (.due fun _ => endTx_rules s)
  | headChange p a b => exact .of_next h rfl (.input_reacted sampled_run (headTick_carries p a b _))
  | stuckTimeout p => exact .of_next h rfl (.due_reacted stuckDue_run fun _ => pointTick_carries p _ _ _ s)
  | quietPeriodEnd p =>
    exact .of_next h rfl (.due_reacted (fun due => run_of_and (left_of_and due)) fun _ => endQuiet_carries p s)
  | quietMark p => exact .of_next h rfl (.due fun _ => .of_eq rfl rfl rfl rfl rfl rfl rfl)
  | startTimerExpiry k => exact .of_next h rfl (.due_reacted run_of_and fun _ => commitRecord_carries k _ _ _ s)
  | longWarningMark k =>
    exact .of_next h rfl (.due fun _ => setSlot_rules fun x => by cases holds : x.record <;> simp [Slot.demands, holds])
  | openMark => exact .of_next h rfl (.due fun _ => setSeq_rules rfl rfl rfl)
  | tAmberExpiry =>
    exact .of_next h rfl (.due_reacted (fun due => inSeq_run (left_of_and due)) fun due =>
      move_carries (inSeq_live (left_of_and due)) (by decide) (.inl rfl) .timer)
  | tPrelowerExpiry =>
    exact .of_next h rfl (.due_reacted (fun due => inSeq_run (left_of_and due)) fun due =>
      enterLowerEntry_carries (inSeq_live (left_of_and due)))
  | exitDelayMark =>
    exact .of_next h rfl (.due_reacted (fun due => inSeq_run (left_of_and (left_of_and due))) fun _ =>
      testLowerEntry_carries s)
  | longClosureTimer =>
    exact .of_next h rfl (.due_reacted (fun due => closing_run (left_of_and (left_of_and due))) fun _ =>
      CarriesUp.trans (setSeq_carries rfl) (raise_carries _ _ _ _))
  | longBinMark => exact .of_next h rfl (.due fun _ => setSeq_rules rfl rfl rfl)
  | flashPartEnd => exact .of_next h rfl (.due fun _ => nextFlashPart_rules s)
  | litProof c mA =>
    exact .of_next h rfl (.input_reacted (fun due => lampDue_run (.inl due)) (litSample_carries c _ _))
  | darkSample c mA =>
    exact .of_next h rfl (.input_reacted (fun due => lampDue_run (.inr due)) (darkSampleTaken_carries c _ _))
  | startUpFlashHalf => exact .of_next h rfl (.due fun _ => nextStartUpHalf_rules s)
  | lampTestSample mA => exact .of_next h rfl (.due fun _ => testSample_rules _ s)
  | lampTestChannelEnd => exact .of_next h rfl (.due fun _ => testChannelEnd_rules s)
  | barrierContactChange b up down =>
    exact .of_next h rfl (.input_reacted run_of_and (acceptContacts_carries b up down _))
  | barrierLimit b => exact .of_next h rfl (.due_reacted limitDue_run fun _ => takeLimit_carries b s)
  | barrierDropped b => exact .of_next h rfl (.due_reacted run_of_and fun _ => barrierFault_carries b _ s)
  | barrierSettled b =>
    exact .of_next h rfl (.due_reacted run_of_and fun due => settleBarrier_carries (settledDue_fault (right_of_and due)))
  | barrierLostDown b => exact .of_next h rfl (.due_reacted run_of_and fun _ => lostDown_carries b s)
  | supplyInputChange input ok => exact .of_next h rfl (.input_reacted id (acceptSupply_carries input ok _))
  | beacon hd payload | poll hd payload | sigAck hd payload | sigRestore hd payload | sigHold hd payload
  | sigRelease hd payload => exact .of_next h rfl (receiveFrame_rules hd _ payload s)
  | sigCmdUnknownKind hd kind payload | sigCmdRefusedSource hd kind payload | foreignFrame hd kind payload
  | ownAddressFrame hd kind payload | addressedFrameLinkNotActive hd kind payload =>
    exact .of_next h rfl (receiveFrame_rules hd kind payload s)
  | beaconTimeout => exact .of_next h rfl (.due_reacted (fun due => run_of_and (left_of_and due)) fun _ => loseLink_carries s)
  | lineFrameBad chars e => exact .of_next h rfl (lineFrameBad_rules chars e s)
  | lineGapAbort chars => exact .of_next h rfl (lineGapAbort_rules chars s)
  | skipEnd =>
    exact .of_next h rfl (.due fun _ => KeepsRules.trans (setLine_rules s _) (lineSettle_rules _))
  | accessWaitQuiet => exact .of_next h rfl (.due fun _ => .of_only (startFrame_only s) (by decide))
  | lineFrameSent => exact .of_next h rfl (.due fun _ => .of_alike (frameSent_only s) (by decide) (frameSent_alike s))
  | arbitrationLost =>
    exact .of_next h rfl (.due fun _ => .of_alike (loseArbitration_only s) (by decide) (loseArbitration_alike s))
  | collision => exact .of_next h rfl (.due fun _ => .of_alike (collide_only s) (by decide) (collide_alike s))
  | healthTimerExpiry =>
    exact .of_next h rfl (.due fun _ => KeepsRules.trans (.of_only (setReports_only s _) (by decide)) (lineSettle_rules _))
  | repeatInterval i =>
    exact .of_next h rfl (.due fun _ => KeepsRules.trans
      (setFaultSlot_rules s i (g := fun x => { x with forced := true }) fun _ => rfl) (lineSettle_rules _))
  | agedMark i =>
    exact .of_next h rfl (.due fun _ => setFaultSlot_rules s i fun _ => rfl)

/-! ### The passage of time, and the statements -/

theorem tickSamples_carries (s : State) : CarriesUp s (tickSamples s) := by
  refine .of_barriers (tickSamples_only s) (by decide) fun b => ?_
  rw [tickSamples_barriers]
  split
  · exact Barrier.carried_of_eq rfl rfl rfl rfl
  · exact .refl _

theorem tick_rules (s : State) : KeepsRules s (tick s) := by
  have clock : KeepsRules s (tickBase s) := .of_only (tickBase_only s) (by decide)
  cases part : s.part with
  | config =>
    rw [tick_of_config part]
    exact clock
  | run =>
    rw [tick_of_run part]
    have frame := tickSamples_only (tickBase s)
    have seq := frame.seq_eq (by decide) (by decide)
    have faults := frame.faults_eq (by decide)
    have samples : Stands (tickBase s) (tickSamples (tickBase s)) :=
      ⟨tickSamples_carries _, by rw [seq], demand_congr (frame.slots_eq (by decide)) (frame.sections_eq (by decide))
        (by rw [seq]) (by rw [seq]) faults, by rw [faults], by rw [faults]⟩
    exact (clock.trans samples.keeps).trans (.of_alike (lineTick_only _ _) (by decide) (lineTick_alike _ _))

theorem step_rules {s t : State} (h : step s = .next t) : KeepsRules s t := by
  unfold step at h
  split at h
  · next c rest _ =>
    have queue : KeepsRules s { s with pending := rest } := .of_eq rfl rfl rfl rfl rfl rfl rfl
    exact queue.trans (exec_rules c h)
  · unfold idleStep at h
    split at h
    · exact .of_next h rfl (tick_rules s)
    · exact exec_rules _ h
    · exact KeepsRules.trans (.of_only (tookFree_only s) (by decide)) (exec_rules _ h)

/-- A barrier with its HOLD released or its RAISE motor driven is not HELD_UP (R104). -/
theorem Barrier.not_heldUp_of_outputs {b : Barrier} (h : b.OutputsMatch) (moves : b.holdOut = false ∨ b.raiseOut = true) :
    b.state ≠ some .heldUp := fun held => by
  unfold Barrier.OutputsMatch at h
  rw [held] at h
  obtain ⟨holds, idle⟩ := h
  rcases moves with released | driven
  · exact absurd (holds.symm.trans released) (by decide)
  · exact absurd (idle.symm.trans driven) (by decide)

/-- Settles O53: every step keeps the three rules, and a barrier that moves is not HELD_UP, so that the road is neither OPEN nor
AMBER. -/
theorem redsFlashWhileBarriersMove : Obligations.RedsFlashWhileBarriersMove := by
  unfold Obligations.RedsFlashWhileBarriersMove
  refine ⟨fun s t ⟨outputs, flash, up⟩ h => ?_, fun s ⟨outputs, flash, up⟩ b moves => ⟨flash.1, fun run configured => ?_⟩⟩
  · obtain ⟨outputs, flash, up⟩ := (step_rules h).reds ⟨outputs, flash, up⟩
    exact ⟨outputs, flash, up⟩
  · have notUp := Barrier.not_heldUp_of_outputs (outputs b) moves
    exact (flash.2 run).2 ⟨fun road => notUp (up run (.inl road) b configured), fun amber => notUp (up run (.inr amber) b configured)⟩

/-- Settles O58: every step keeps the four rules, for whatever moves a part of the demand has the Sequencer take it. -/
theorem roadIsOpenOnlyWithoutDemand : Obligations.RoadIsOpenOnlyWithoutDemand := by
  unfold Obligations.RoadIsOpenOnlyWithoutDemand
  refine ⟨fun s t ⟨sequencer, mode, sections, road⟩ h => ?_, fun s live undemanded run road => ?_⟩
  · obtain ⟨sequencer, mode, sections, road⟩ := (step_rules h).road ⟨sequencer, mode, sections, road⟩
    exact ⟨sequencer, mode, sections, road⟩
  · exact undemanded_parts (live run) (undemanded run (.inl road))

end Sys2Proof.Machine
end

section
/-! PROOFS. Barrier faults (R72, R107, R108, R110, R112 to R114): a barrier in FAULT stands, and its entry is counted once, while
the Sequencer takes the report. -/

namespace Sys2Proof.Machine

/-! ### A barrier in FAULT stands over the Sequencer's transitions (R106, R109, R114) -/

/-- No barrier leaves FAULT, and no entry into FAULT is counted. -/
structure FaultStands (s t : State) : Prop where
  count : CountKept 19 s t
  stands : ∀ b : Fin 4, s.barriers[b].state = some .fault → t.barriers[b] = s.barriers[b]

theorem FaultStands.refl (s : State) : FaultStands s s := ⟨.refl _ s, fun _ _ => rfl⟩

theorem FaultStands.trans {s t u : State} (h : FaultStands s t) (h' : FaultStands t u) : FaultStands s u where
  count := h.count.trans h'.count
  stands b fault := by
    have same := h.stands b fault
    exact (h'.stands b (by rw [same]; exact fault)).trans same

theorem FaultStands.ite {s t u : State} {c : Prop} [Decidable c] (ht : FaultStands s t) (hu : FaultStands s u) :
    FaultStands s (if c then t else u) := by
  split
  · exact ht
  · exact hu

theorem FaultStands.of_barriers {s t : State} (count : CountKept 19 s t) (barriers : t.barriers = s.barriers) :
    FaultStands s t := ⟨count, fun _ _ => by rw [barriers]⟩

theorem FaultStands.of_only {bs : List Block} {s t : State} (h : Only bs s t) (barriers : .barriers ∉ bs)
    (counters : .counters ∉ bs) : FaultStands s t := .of_barriers (.of_only h counters) (h.barriers_eq barriers)

/-- A change of one barrier that a barrier in FAULT ignores. -/
theorem setBarrier_faultStands {s : State} {b : Fin 4} {f : Barrier → Barrier}
    (h : ∀ x : Barrier, x.state = some .fault → f x = x) : FaultStands s (s.setBarrier b f) := by
  refine ⟨.refl _ s, fun a fault => ?_⟩
  rw [setBarrier_getElem]
  split
  · exact h _ fault
  · rfl

theorem releaseBarrier_faultStands (b : Fin 4) (s : State) : FaultStands s (releaseBarrier b s) :=
  setBarrier_faultStands fun x fault => by
    unfold Barrier.released
    rw [fault]

theorem endCondition_faultStands (k : FaultKind) (o : Nat) (s : State) : FaultStands s (endCondition k o s) :=
  .of_barriers (.of_eq (endCondition_counters k o s)) ((endCondition_only k o s).barriers_eq (by decide))

theorem raiseBarrier_faultStands (b : Fin 4) (s : State) : FaultStands s (raiseBarrier b s) := by
  have raised : FaultStands s (s.setBarrier b fun x => x.raised s.now) := setBarrier_faultStands fun x fault => by
    unfold Barrier.raised
    rw [fault]
  have ended : ∀ c : Bool, FaultStands s
      (if c then endCondition .barrierDisturbed b.val (s.setBarrier b fun x => x.raised s.now)
        else s.setBarrier b fun x => x.raised s.now) :=
    fun c => .ite (raised.trans (endCondition_faultStands _ _ _)) raised
  exact ended _

theorem toBarriers_faultStands {f : Fin 4 → State → State} (h : ∀ b s, FaultStands s (f b s)) (p : Barrier → Bool)
    (s : State) : FaultStands s (toBarriers p f s) := by
  have fold : ∀ (l : List (Fin 4)) (t : State), FaultStands t
      (l.foldl (fun t b => if t.barriers[b].configured && p t.barriers[b] then f b t else t) t) := by
    intro l
    induction l with
    | nil => exact .refl
    | cons b l ih => exact fun t => FaultStands.trans (.ite (h b t) (.refl t)) (ih _)
  exact fold allBarriers s

section
variable (s : State)

/-- A move of the Sequencer with its lamp command. -/
theorem moveAndLamp_faultStands (x : SeqState) (c : SeqCause) (l : LampCmd) :
    FaultStands s (lampCommand l (seqMove x c s)) :=
  .of_barriers ((seqMove_kept x c s).trans (lampCommand_kept l _))
    (((lampCommand_only l _).barriers_eq (by decide)).trans ((seqMove_only x c s).barriers_eq (by decide)))

theorem moveAndRelease_faultStands (x : SeqState) (c : SeqCause) (l : LampCmd) (p : Barrier → Bool) :
    FaultStands s (toBarriers p releaseBarrier (lampCommand l (seqMove x c s))) :=
  (moveAndLamp_faultStands s x c l).trans (toBarriers_faultStands releaseBarrier_faultStands p _)

theorem openedRoad_faultStands : FaultStands s (openedRoad s) := by
  refine .of_barriers ?_ ((openedRoad_only s).barriers_eq (by decide))
  have moved : ∀ len, CountKept 19 s (lampCommand .dark (seqGo .roadOpen .barriers false len
      (s.setSeq fun q => { q with counted := false, longFlag := false, openMark := decide (q.tMinOpen = 0) }))) := fun len =>
    CountKept.trans (.of_eq (seqGo_counters _ _ _ _ (s.setSeq _))) (lampCommand_kept .dark _)
  have bin : ∀ ms, cntClosureBin ms ≠ 19 := fun ms => by
    unfold cntClosureBin
    repeat' split
    all_goals decide
  unfold openedRoad
  cases s.seq.counted
  · exact moved none
  · exact (moved _).trans (emit_count_kept (bin _) _)

theorem enterOpen_faultStands : FaultStands s (enterOpen s) := by
  rw [enterOpen_eq]
  exact .ite ((openedRoad_faultStands s).trans (endCondition_faultStands _ _ _)) (openedRoad_faultStands s)

theorem testRaising_faultStands : FaultStands s (testRaising s) := .ite (enterOpen_faultStands s) (.refl s)

theorem enterRaising_faultStands : FaultStands s (enterRaising s) :=
  ((moveAndLamp_faultStands s _ _ _).trans (toBarriers_faultStands raiseBarrier_faultStands _ _)).trans
    (testRaising_faultStands _)

theorem testClosed_faultStands : FaultStands s (testClosed s) :=
  .ite (.ite (.of_only (guardCommit_blocks _ s) (by decide) (by decide)) (enterRaising_faultStands s)) (.refl s)

theorem enterClosed_faultStands : FaultStands s (enterClosed s) :=
  (moveAndRelease_faultStands s _ _ _ _).trans (testClosed_faultStands _)

theorem testLowerExit_faultStands : FaultStands s (testLowerExit s) := .ite (enterClosed_faultStands s) (.refl s)

theorem enterLowerExit_faultStands : FaultStands s (enterLowerExit s) :=
  (moveAndRelease_faultStands s _ _ _ _).trans (testLowerExit_faultStands _)

theorem setSeq_faultStands (f : Sequencer → Sequencer) : FaultStands s (s.setSeq f) := .of_barriers (.refl _ s) rfl

theorem testLowerEntry_faultStands : FaultStands s (testLowerEntry s) :=
  .ite ((setSeq_faultStands s _).trans (.ite (enterLowerExit_faultStands _) (enterClosed_faultStands _))) (.refl s)

theorem reclose_faultStands : FaultStands s (reclose s) :=
  ((moveAndRelease_faultStands s _ _ _ _).trans (setSeq_faultStands _ _)).trans (testLowerEntry_faultStands _)

theorem leaveOpen_faultStands (x : SeqState) (c : SeqCause) (l : LampCmd) : FaultStands s (leaveOpen x c l s) := by
  refine .of_barriers ?_ ((leaveOpen_only x c l s).barriers_eq (by decide))
  have counted : CountKept 19 s (emit [.count cntClosures]
      (s.setSeq fun q => { q with closureStart := s.now, counted := true, longBin := false, longFlag := false })) :=
    emit_count_kept (by decide) (s.setSeq _)
  have moved := counted.trans (.of_eq (seqGo_counters x c (!s.seq.openMark) none _))
  exact (moved.trans (.of_only (abortTest_only _) (by decide))).trans (lampCommand_kept l _)

theorem takeDemand_faultStands : FaultStands s (takeDemand s) := by
  unfold takeDemand
  split
  · exact .ite (leaveOpen_faultStands s _ _ _) (.refl s)
  · exact .ite (reclose_faultStands s) (.refl s)
  · exact testClosed_faultStands s
  · exact .refl s

theorem barrierChanged_faultStands : FaultStands s (barrierChanged s) := by
  unfold barrierChanged
  split
  · exact testLowerEntry_faultStands s
  · exact testLowerExit_faultStands s
  · exact testClosed_faultStands s
  · exact testRaising_faultStands s
  · exact .refl s

theorem lineSettle_faultStands : FaultStands s (lineSettle s) := .of_only (lineSettle_only s) (by decide) (by decide)

theorem barrierFaultReport_faultStands : FaultStands s (barrierFaultReport s) := by
  unfold barrierFaultReport
  split
  · exact leaveOpen_faultStands s _ _ _
  · exact moveAndLamp_faultStands s _ _ _
  · exact .refl s

theorem takeFaultReport_faultStands : FaultStands s (takeFaultReport s) :=
  .ite (FaultStands.trans (.of_only (tookFree_only s) (by decide) (by decide))
    (FaultStands.trans (.ite (takeDemand_faultStands _) (.refl _)) (barrierFaultReport_faultStands _)))
    (barrierFaultReport_faultStands s)

end

/-! ### The report, and what it leaves (R72) -/

theorem takeFaultReport_only (s : State) : Only ([.seq, .lamps, .free] ++ recordBlocks) s (takeFaultReport s) := by
  have reports := fun t => (barrierFaultReport_only t).mono (bs := [.seq, .lamps, .free] ++ recordBlocks) (by decide)
  unfold takeFaultReport
  split
  · next road =>
    have took := (tookFree_only s).mono (bs := [.seq, .lamps, .free] ++ recordBlocks) (by decide)
    have openTook : s.tookFree.seq.state = some .roadOpen := road
    have demanded : Only ([.seq, .lamps, .free] ++ recordBlocks) s.tookFree (takeDemand s.tookFree) := by
      cases demand : s.tookFree.demand with
      | false => rw [takeDemand_undemanded (.inl openTook) demand]; exact .refl _ _
      | true =>
        obtain ⟨-, -, -, -, -, frame⟩ := takeDemand_toAmber openTook demand
        exact frame.mono (by decide)
    exact (took.trans (Only.ite demanded (Only.refl _ _))).trans (reports _)
  · exact reports s

/-- In RED_WAIT neither the demand nor a barrier's change moves the Sequencer (R68, R71). -/
theorem redWait_stays {s : State} (h : s.seq.state = some .redWait) :
    (react (barrierChanged (takeDemand s))).seq.state = some .redWait := by
  have idle : takeDemand s = s := takeDemand_closing (.inr (.inr (.inl h)))
  have unmoved : barrierChanged s = s := by
    unfold barrierChanged
    rw [h]
  unfold react
  rw [idle, unmoved, idle, (lineSettle_only s).state_eq (by decide), h]

/-! ### A raise after an end reads the Fault Manager, the clock and the free value alone (R126) -/

theorem AlikeToRaise.applied {s t : State} (h : AlikeToRaise s t) (c : ModeCause) (g : FaultManager → FaultStep) :
    AlikeToRaise (deriveMode c (applyFault g s)) (deriveMode c (applyFault g t)) := by
  have frame := fun u : State => (applyFault_only g u).trans ((deriveMode_only c (applyFault g u)).mono (by decide))
  have free : ∀ u : State, (deriveMode c (applyFault g u)).free = u.free := fun u => frame u .free (by decide)
  refine ⟨?_, ?_, ?_⟩
  · rw [deriveMode_faults, deriveMode_faults, applyFault_faults, applyFault_faults, h.faults]
  · rw [((frame t).clock_eq (by decide)).1, ((frame s).clock_eq (by decide)).1, h.now]
  · rw [free t, free s, h.free]

theorem AlikeToRaise.endThenRaise {s t : State} (h : AlikeToRaise s t) (e : Option FaultKind) (k : FaultKind) (o d : Nat) :
    AlikeToRaise (endThenRaise e k o d s) (endThenRaise e k o d t) := by
  cases e with
  | none => exact h.raise k o d
  | some e =>
    unfold Machine.endThenRaise
    rw [h.now]
    exact ((h.applied .ended _).raise k o d).applied .ended _

/-! ### The entry into FAULT (R114) -/

/-- The raise and the ends of a fault count nothing. -/
theorem endThenRaise_counters (e : Option FaultKind) (k : FaultKind) (o d : Nat) (s : State) :
    (endThenRaise e k o d s).counters = s.counters := by
  have ended : ∀ f : FaultManager, ∀ e : FaultKind, (f.endOf s.now e o).Countless := fun f e => by
    unfold FaultManager.endOf
    split
    · exact fun _ => List.not_mem_nil
    · split
      · exact fun _ => List.not_mem_nil
      · exact endAt_countless _ _ _
  cases e with
  | none => exact raise_counters k o d s
  | some e =>
    unfold endThenRaise
    rw [deriveMode_counters, applyFault_counters fun f => testTableFull_countless f s.now, raise_counters,
      deriveMode_counters, applyFault_counters fun f => ended f e]

section
variable (b : Fin 4) (d : Nat) (s : State)

theorem barrierFallen_only : Only (.barriers :: faultBlocks) s (barrierFallen b d s) :=
  (setBarrier_only' s b (fun x => x.toFault s.now d) (Barrier.toFault_settings _ _ _)).seq
    ((endThenRaise_only _ _ _ _ _).seq (emit_only _ _) (cs := faultBlocks) (by decide) (by decide)) (by decide) (by decide)

theorem barrierFallen_barriers (a : Fin 4) :
    (barrierFallen b d s).barriers[a] = if b = a then s.barriers[a].toFault s.now d else s.barriers[a] := by
  have rest := (endThenRaise_only (if s.barriers[b].disturbed then some .barrierDisturbed else none) .barrierFail b.val d
    (s.setBarrier b fun x => x.toFault s.now d)).seq (emit_only [.count cntBarrierFaults] _) (cs := faultBlocks) (by decide)
    (by decide)
  unfold barrierFallen
  rw [rest.barriers_eq (by decide), setBarrier_getElem]

theorem barrierFallen_faults :
    (barrierFallen b d s).faults =
      (endThenRaise (if s.barriers[b].disturbed then some .barrierDisturbed else none) .barrierFail b.val d s).faults := by
  have alike : AlikeToRaise s (s.setBarrier b fun x => x.toFault s.now d) := ⟨rfl, rfl, rfl⟩
  unfold barrierFallen
  rw [(emit_only _ _).faults_eq (by decide), (alike.endThenRaise _ _ _ _).faults]

theorem barrierFallen_count :
    (barrierFallen b d s).counters[(19 : Fin 32)] = s.counters[(19 : Fin 32)].bumped := by
  unfold barrierFallen
  rw [show cntBarrierFaults = 19 from rfl, emit_count_self, endThenRaise_counters]
  rfl

/-- A barrier in FAULT: outputs off, no motion and no mark, the settled mark by the contacts (R114, R115). -/
theorem Barrier.toFault_eq (x : Barrier) (now : Time) :
    x.toFault now d = { x with
      state := some .fault, holdOut := false, raiseOut := false, detail := d, phase := none, motionStart := none
      phaseStart := none, dropped := none, lostDown := none, disturbed := false
      settled := if x.down.accepted ∧ x.up.accepted = false then some now else none } := by
  unfold Barrier.toFault Barrier.settle
  by_cases down : x.down.accepted = true ∧ x.up.accepted = false
  · simp [Barrier.enter, Barrier.still, down, BarrierState.hold, BarrierState.drive]
  · have up : ¬(x.down.accepted && !x.up.accepted) = true := by simpa using down
    simp [Barrier.enter, Barrier.still, down, BarrierState.hold, BarrierState.drive]

/-- A barrier's entry into FAULT, as the Sequencer takes it. -/
theorem barrierFails : BarrierFails b d s (react (barrierFault b d s)) := by
  have reported := takeFaultReport_only (barrierFallen b d s)
  refine ⟨takeFaultReport (barrierFallen b d s), rfl, ?_, fun a other => ?_, ?_, ?_, ?_⟩
  · rw [reported.barriers_eq (by decide), barrierFallen_barriers, if_pos rfl, Barrier.toFault_eq]
  · rw [reported.barriers_eq (by decide), barrierFallen_barriers, if_neg other.symm]
  · rw [reported.faults_eq (by decide), barrierFallen_faults]
  · rw [takeFaultReport_state, barrierFallen_state]
  · exact (barrierFallen_only b d s).seq reported (by decide) (by decide)

/-- A barrier that has entered FAULT stands there as the step ends, counted once. -/
theorem react_barrierFault_stands :
    (react (barrierFault b d s)).barriers[b] = s.barriers[b].toFault s.now d ∧
      (react (barrierFault b d s)).counters[(19 : Fin 32)] = s.counters[(19 : Fin 32)].bumped := by
  have counted := barrierFallen_count b d s
  have fallen : (barrierFallen b d s).barriers[b] = s.barriers[b].toFault s.now d := by
    rw [barrierFallen_barriers, if_pos rfl]
  have taken := (((((takeFaultReport_faultStands (barrierFallen b d s)).trans (takeDemand_faultStands _)).trans
    (barrierChanged_faultStands _)).trans (takeDemand_faultStands _)).trans (lineSettle_faultStands _))
  rw [barrierFault_eq]
  refine ⟨(taken.stands b ?_).trans fallen, Eq.trans taken.count counted⟩
  rw [fallen]
  exact Barrier.toFault_state _ _ _

/-- A fault while the road is OPEN or AMBER takes it to RED_WAIT at once (R72). -/
theorem react_barrierFault_redWait (road : s.seq.state = some .roadOpen ∨ s.seq.state = some .amber) :
    (react (barrierFault b d s)).seq.state = some .redWait := by
  rw [barrierFault_eq]
  refine redWait_stays ?_
  rw [takeFaultReport_state, barrierFallen_state, if_pos road]

end

end Sys2Proof.Machine
end

section
/-! PROOFS. The limits of a barrier's motion and the dropped barrier (R107, R108, R110, R113). -/

namespace Sys2Proof.Machine

/-! ### A motion and its limits (R107, R108, R110) -/

/-- A barrier in a motion: its limits, the code before its fault details, whether the contact it leaves is made, and whether
the one it goes to is. -/
abbrev Barrier.InMotion (x : Barrier) (m : MotionLimits) (base : Nat) (left reached : Bool) : Prop :=
  (x.state = some .lowering ∧ m = x.lower ∧ base = 0 ∧ left = x.up.accepted ∧ reached = x.down.accepted) ∨
    (x.state = some .raising ∧ m = x.raise ∧ base = 3 ∧ left = x.down.accepted ∧ reached = x.up.accepted)

section
variable {x : Barrier} {m : MotionLimits} {base : Nat} {left reached : Bool} (moving : x.InMotion m base left reached)
  (now : Time)
include moving

theorem Barrier.limitPassed_of_motion : x.limitPassed now = passedLimit now x m (base + 1) (base + 2) (base + 3) := by
  unfold Barrier.limitPassed
  rcases moving with ⟨state, rfl, rfl, -, -⟩ | ⟨state, rfl, rfl, -, -⟩ <;> rw [state] <;> rfl

/-- The motion goes on in TRAVEL. -/
theorem Barrier.InMotion.toTravel : (x.toTravel now).InMotion m base left reached := by
  unfold Barrier.toTravel
  split
  · exact moving
  · exact moving

/-- A pair that has not reached the motion's end is kept, in TRAVEL once the contact left is open (R107, R110). -/
theorem Barrier.judge_of_motion (short : reached = false) :
    x.judge now = .keep (if left then x else x.toTravel now) := by
  unfold Barrier.judge
  rcases moving with ⟨state, -, -, up, down⟩ | ⟨state, -, -, down, up⟩
  · rw [state, ← up, ← down, short]
    cases left <;> rfl
  · rw [state, ← up, ← down, short]
    cases left <;> rfl

/-- Both contacts made is the CONTACTS fault (R112). -/
theorem Barrier.judge_of_both (leaves : left = true) (reaches : reached = true) : x.judge now = .contactsFault := by
  unfold Barrier.judge
  rcases moving with ⟨state, -, -, up, down⟩ | ⟨state, -, -, down, up⟩ <;>
    rw [state, ← up, ← down, leaves, reaches] <;> rfl

end

section
variable (now : Time) (x : Barrier) (m : MotionLimits) (leave travel total : Nat)

theorem passedLimit_leave (phase : x.phase = some .leave) :
    passedLimit now x m leave travel total =
      if agedPast now x.motionStart m.leave then some leave
      else if agedPast now x.motionStart m.total then some total else none := by
  unfold passedLimit
  rw [phase]

theorem passedLimit_travel (phase : x.phase = some .travel) :
    passedLimit now x m leave travel total =
      if agedPast now x.phaseStart m.travel then some travel
      else if agedPast now x.motionStart m.total then some total else none := by
  unfold passedLimit
  rw [phase]

/-- A motion that comes off its contact at this moment is bound by the total alone (R108). -/
theorem passedLimit_toTravel (phase : x.phase = some .leave) :
    passedLimit now (x.toTravel now) m leave travel total =
      if agedPast now x.motionStart m.total then some total else none := by
  have off : x.toTravel now = { x with phase := some .travel, phaseStart := some now } := if_pos phase
  have fresh : agedPast now (some now) m.travel = false := by simp [agedPast, elapsed]
  rw [off, passedLimit_travel now _ m leave travel total rfl, fresh]
  rfl

theorem Barrier.toTravel_of_travel (phase : x.phase = some .travel) : x.toTravel now = x :=
  if_neg (by rw [phase]; decide)

end

/-- A passed limit of the motion's phase, or of the motion (R108, R110). -/
abbrev Barrier.Passes (x : Barrier) (m : MotionLimits) (now : Time) : Prop :=
  (x.phase = some .leave ∧ (agedPast now x.motionStart m.leave = true ∨ agedPast now x.motionStart m.total = true)) ∨
    (x.phase = some .travel ∧ (agedPast now x.phaseStart m.travel = true ∨ agedPast now x.motionStart m.total = true))

theorem passedLimit_isSome {x : Barrier} {m : MotionLimits} {now : Time} (passes : x.Passes m now)
    (leave travel total : Nat) : (passedLimit now x m leave travel total).isSome = true := by
  rcases passes with ⟨phase, aged⟩ | ⟨phase, aged⟩
  · rw [passedLimit_leave now x m leave travel total phase]
    rcases aged with aged | aged
    · rw [if_pos aged]; rfl
    · rw [if_pos aged]; split <;> rfl
  · rw [passedLimit_travel now x m leave travel total phase]
    rcases aged with aged | aged
    · rw [if_pos aged]; rfl
    · rw [if_pos aged]; split <;> rfl

/-- The limit that binds a motion still, by what the pair shows (R108, R110). -/
abbrev Barrier.Binds (x : Barrier) (m : MotionLimits) (now : Time) (base : Nat) (left : Bool) (detail : Nat) : Prop :=
  (x.phase = some .leave ∧ left = true ∧ agedPast now x.motionStart m.leave = true ∧ detail = base + 1) ∨
    (x.phase = some .leave ∧ (left = true → agedPast now x.motionStart m.leave = false) ∧
      agedPast now x.motionStart m.total = true ∧ detail = base + 3) ∨
    (x.phase = some .travel ∧ agedPast now x.phaseStart m.travel = true ∧ detail = base + 2) ∨
    (x.phase = some .travel ∧ agedPast now x.phaseStart m.travel = false ∧
      agedPast now x.motionStart m.total = true ∧ detail = base + 3)

section
variable {x : Barrier} {m : MotionLimits} {now : Time} {base detail : Nat} {left : Bool}

theorem Barrier.Binds.passes (h : x.Binds m now base left detail) : x.Passes m now := by
  rcases h with ⟨phase, -, aged, -⟩ | ⟨phase, -, aged, -⟩ | ⟨phase, aged, -⟩ | ⟨phase, -, aged, -⟩
  · exact .inl ⟨phase, .inl aged⟩
  · exact .inl ⟨phase, .inr aged⟩
  · exact .inr ⟨phase, .inl aged⟩
  · exact .inr ⟨phase, .inr aged⟩

/-- A barrier that moves is in one of the two motions; with its contacts alike, both or neither of them are made. -/
theorem Barrier.inMotion_of (motion : (x.state = some .lowering ∧ m = x.lower) ∨ (x.state = some .raising ∧ m = x.raise)) :
    ∃ base left reached, x.InMotion m base left reached ∧
      ∀ made, x.up.accepted = made → x.down.accepted = made → left = made ∧ reached = made := by
  rcases motion with ⟨state, limits⟩ | ⟨state, limits⟩
  · exact ⟨0, _, _, .inl ⟨state, limits, rfl, rfl, rfl⟩, fun _ up down => ⟨up, down⟩⟩
  · exact ⟨3, _, _, .inr ⟨state, limits, rfl, rfl, rfl⟩, fun _ up down => ⟨down, up⟩⟩

/-- A lowering barrier with DOWN alone made is DOWN (R107). -/
theorem Barrier.judge_lowered (state : x.state = some .lowering) (now : Time) (up : x.up.accepted = false)
    (down : x.down.accepted = true) : x.judge now = .keep (x.enter .down).still := by
  unfold Barrier.judge
  rw [state, up, down]
  rfl

/-- A raising barrier with UP alone made is HELD_UP (R110). -/
theorem Barrier.judge_raised (state : x.state = some .raising) (now : Time) (up : x.up.accepted = true)
    (down : x.down.accepted = false) : x.judge now = .keep (x.enter .heldUp).still := by
  unfold Barrier.judge
  rw [state, up, down]
  rfl

/-- A limit that binds still stands after the pair is judged. -/
theorem Barrier.limitStands_of_binds (moving : x.InMotion m base left false) (h : x.Binds m now base left detail) :
    x.limitStands now = some detail := by
  have stands : x.limitStands now =
      passedLimit now (if left then x else x.toTravel now) m (base + 1) (base + 2) (base + 3) := by
    unfold Barrier.limitStands
    rw [Barrier.judge_of_motion moving now rfl]
    cases left
    · exact Barrier.limitPassed_of_motion (moving.toTravel now) now
    · exact Barrier.limitPassed_of_motion moving now
  rw [stands]
  rcases h with ⟨phase, rfl, aged, rfl⟩ | ⟨phase, fresh, aged, rfl⟩ | ⟨phase, aged, rfl⟩ | ⟨phase, fresh, aged, rfl⟩
  · rw [if_pos rfl, passedLimit_leave _ _ _ _ _ _ phase, if_pos aged]
  · cases left with
    | false => rw [if_neg Bool.false_ne_true, passedLimit_toTravel _ _ _ _ _ _ phase, if_pos aged]
    | true => rw [if_pos rfl, passedLimit_leave _ _ _ _ _ _ phase, fresh rfl, if_neg Bool.false_ne_true, if_pos aged]
  · rw [Barrier.toTravel_of_travel _ _ phase, ite_self, passedLimit_travel _ _ _ _ _ _ phase, if_pos aged]
  · rw [Barrier.toTravel_of_travel _ _ phase, ite_self, passedLimit_travel _ _ _ _ _ _ phase, fresh,
      if_neg Bool.false_ne_true, if_pos aged]

end

theorem Barrier.droppedDue_of {x : Barrier} {now : Time} (held : x.state = some .heldUp) (up : x.up.accepted = false)
    (aged : agedBy now x.dropped 2000 = true) : x.droppedDue now = true := by
  simp [Barrier.droppedDue, held, up, aged, Config.settleMs]

/-! ### A limit passes (R107, R108, R110) -/

section
variable {b : Fin 4} {s : State}

theorem exec_barrierLimit (run : s.part = .run) {m : MotionLimits} {base : Nat} {left reached : Bool}
    (moving : s.barriers[b].InMotion m base left reached) (passes : s.barriers[b].Passes m s.now) :
    exec (.barrierLimit b) s = .next (react (takeLimit b s)) := by
  have due : (s.limitDue b).isSome = true := by
    unfold State.limitDue
    rw [if_pos run, Barrier.limitPassed_of_motion moving]
    exact passedLimit_isSome passes _ _ _
  exact congrArg Host.Outcome.next (if_pos due)

/-- A pair that is kept with no limit left to bind it. -/
theorem takeLimit_keep {x : Barrier} (judged : s.barriers[b].judge s.now = .keep x) (free : x.limitPassed s.now = none) :
    takeLimit b s = keepBarrier b x s := by
  have stands : s.barriers[b].limitStands s.now = none := by
    unfold Barrier.limitStands
    rw [judged]
    exact free
  unfold takeLimit judgeBarrier
  rw [stands, judged]

theorem takeLimit_both (judged : s.barriers[b].judge s.now = .contactsFault) : takeLimit b s = barrierFault b 7 s := by
  have stands : s.barriers[b].limitStands s.now = none := by
    unfold Barrier.limitStands
    rw [judged]
  unfold takeLimit judgeBarrier
  rw [stands, judged]
  rfl

theorem takeLimit_stands {d : Nat} (stands : s.barriers[b].limitStands s.now = some d) :
    takeLimit b s = barrierFault b d s := by
  unfold takeLimit
  rw [stands]

/-- A kept barrier whose disturbed flag stands: the Sequencer takes its change of state (R116). -/
theorem keepBarrier_of_disturbed {x : Barrier} (flag : x.disturbed = s.barriers[b].disturbed) :
    keepBarrier b x s =
      if s.barriers[b].state = x.state then { s with barriers := s.barriers.set b x }
      else barrierChanged { s with barriers := s.barriers.set b x } := by
  have calm : (s.barriers[b].disturbed && !x.disturbed) = false := by rw [flag, Bool.and_not_self]
  unfold keepBarrier
  dsimp only
  rw [calm]
  rfl

theorem keepBarrier_moved {x : Barrier} (flag : x.disturbed = s.barriers[b].disturbed)
    (moved : s.barriers[b].state ≠ x.state) : keepBarrier b x s = barrierChanged { s with barriers := s.barriers.set b x } :=
  (keepBarrier_of_disturbed flag).trans (if_neg moved)

end

/-- What a fault of a barrier comes to by the end of the step (R72, R114). -/
theorem barrierFault_taken (b : Fin 4) (d : Nat) (s : State) :
    ∃ t, t = react (barrierFault b d s) ∧ t.barriers[b].state = some .fault ∧ t.barriers[b].holdOut = false ∧
      t.barriers[b].raiseOut = false ∧ t.barriers[b].detail = d ∧ t.barriers[b].phase = none ∧
      t.barriers[b].motionStart = none ∧ t.barriers[b].dropped = none ∧ t.barriers[b].lostDown = none ∧
      t.counters[(19 : Fin 32)].value = s.counters[(19 : Fin 32)].bumped.value ∧
      (s.seq.state = some .roadOpen ∨ s.seq.state = some .amber → t.seq.state = some .redWait) ∧
      BarrierFails b d s t ∧ Only (.free :: reactBlocks) s t := by
  obtain ⟨stands, counted⟩ := react_barrierFault_stands b d s
  refine ⟨_, rfl, ?_⟩
  rw [stands, Barrier.toFault_eq, counted]
  exact ⟨rfl, rfl, rfl, rfl, rfl, rfl, rfl, rfl, rfl, react_barrierFault_redWait b d s, barrierFails b d s,
    (barrierFault_only b d s).seq (react_only _) (by decide) (by decide)⟩

/-- Settles O40: the pair is judged as a limit passes; what it leaves bound, and a dropped barrier, enter FAULT. -/
theorem barrierFaultsAreTaken : Obligations.BarrierFaultsAreTaken := by
  unfold Obligations.BarrierFaultsAreTaken
  refine ⟨fun b m s run motion passes => ?_, fun c b detail s run cause => ?_⟩
  · obtain ⟨base, left, reached, moving, bounds⟩ := Barrier.inMotion_of motion
    rw [exec_barrierLimit run moving passes]
    refine ⟨fun up down => ?_, fun state up down => ?_, fun state up down => ?_, fun phase up down fresh => ?_⟩
    · obtain ⟨leaves, reaches⟩ := bounds true up down
      rw [takeLimit_both (Barrier.judge_of_both moving _ leaves reaches)]
      exact ⟨_, rfl, barrierFails b 7 s⟩
    · rw [takeLimit_keep (Barrier.judge_lowered state _ up down) rfl,
        keepBarrier_moved (x := (s.barriers[b].enter .down).still) rfl fun same => nomatch state.symm.trans same]
      rfl
    · rw [takeLimit_keep (Barrier.judge_raised state _ up down) rfl,
        keepBarrier_moved (x := (s.barriers[b].enter .heldUp).still) rfl fun same => nomatch state.symm.trans same]
      rfl
    · obtain ⟨leaves, short⟩ := bounds false up down
      have judged := Barrier.judge_of_motion moving s.now short
      have off : s.barriers[b].toTravel s.now = { s.barriers[b] with phase := some .travel, phaseStart := some s.now } :=
        if_pos phase
      rw [leaves, if_neg Bool.false_ne_true] at judged
      have free : (s.barriers[b].toTravel s.now).limitPassed s.now = none := by
        rw [Barrier.limitPassed_of_motion (moving.toTravel s.now), passedLimit_toTravel _ _ _ _ _ _ phase, fresh]
        rfl
      rw [takeLimit_keep judged free, off, keepBarrier_of_disturbed (x := { s.barriers[b] with
        phase := some .travel, phaseStart := some s.now }) rfl, if_pos rfl]
  · obtain ⟨t, rfl, taken⟩ := barrierFault_taken b detail s
    refine ⟨_, ?_, taken⟩
    rcases cause with ⟨rfl, m, base, left, reached, moving, rfl, binds⟩ | ⟨rfl, held, up, aged, rfl⟩
    · rw [exec_barrierLimit run moving (Barrier.Binds.passes binds),
        takeLimit_stands (Barrier.limitStands_of_binds moving binds)]
    · have dropped := Barrier.droppedDue_of held up aged
      have due : (s.part == .run && s.barriers[b].droppedDue s.now) = true := by rw [run, dropped]; rfl
      exact congrArg Host.Outcome.next (if_pos due)

end Sys2Proof.Machine
end

section
/-! PROOFS. The Sequencer from AMBER to CLOSED and from RAISING to OPEN, told in the blocks that change and the record that is
written (R66 to R70, R76, R81, R82). -/

namespace Sys2Proof.Machine

/-! ### One record, and what leaves it the newest -/

/-- A frame that names no part of the Record Memory leaves the whole of it. -/
theorem Only.memory_eq {bs : List Block} {s t : State} (h : Only bs s t)
    (off : ∀ b ∈ [Block.log, .passages, .layout, .counts], b ∉ bs) : t.memory = s.memory := by
  obtain ⟨log, nextSeq, armed⟩ : t.memory.log = s.memory.log ∧ t.memory.nextSeq = s.memory.nextSeq ∧
    t.memory.armed = s.memory.armed := h .log (off _ (by decide))
  obtain ⟨passages, nextPassage⟩ : t.memory.passages = s.memory.passages ∧ t.memory.nextPassage = s.memory.nextPassage :=
    h .passages (off _ (by decide))
  have layout : t.memory.layout = s.memory.layout := h .layout (off _ (by decide))
  have configured : t.memory.configured = s.memory.configured := h .counts (off _ (by decide))
  generalize t.memory = x at *
  generalize s.memory = y at *
  cases x; cases y
  simp_all

theorem Wrote.of_only {k : LogKind} {o : Nat} {d : List Byte} {bs : List Block} {s t u : State} (h : Wrote k o d s t)
    (rest : Only bs t u) (off : ∀ b ∈ [Block.log, .passages, .layout, .counts], b ∉ bs) : Wrote k o d s u :=
  (rest.memory_eq off).trans h

/-! ### A change of the Sequencer's state (R82) -/

/-- A SEQ_STATE record with what goes with it: a STATE notice and a STATUS due (R79, R82). -/
def seqReport (d : List Byte) (s : State) : State := emit [.log .seqState 0 d, .stateNotice, .statusDue] s

section
variable (d : List Byte) (s : State)

theorem told_only : Only [.notices, .reports] s (emit [.stateNotice, .statusDue] s) :=
  (queueNotice_only s.stateNotice s).seq (statusDue_only _) (by decide) (by decide)

theorem seqReport_only : Only [.log, .notices, .reports] s (seqReport d s) :=
  (writeLog_only .seqState 0 d s).seq (told_only _) (by decide) (by decide)

theorem seqReport_stateMark : (seqReport d s).reports.stateMark = true := rfl

theorem seqReport_wrote (run : s.part = .run) : Wrote .seqState 0 d s (seqReport d s) := by
  have written : Wrote .seqState 0 d s (writeLog .seqState 0 d s) := writeLog_memory run _ _ _
  exact written.of_only (told_only _) (by decide)

end

section
variable (x : SeqState) (c : SeqCause) (short : Bool) (len : Option Nat) (s : State)

theorem seqGo_blocks : Only [.seq, .log, .notices, .reports] s (seqGo x c short len s) :=
  (setSeq_only s (fun q => { q with state := some x, entry := s.now }) rfl rfl rfl).seq (seqReport_only _ _) (by decide)
    (by decide)

theorem seqGo_seq : (seqGo x c short len s).seq = { s.seq with state := some x, entry := s.now } :=
  (emit_only _ _).seq_eq (by decide) (by decide)

theorem seqGo_stateMark : (seqGo x c short len s).reports.stateMark = true := rfl

theorem seqGo_wrote (run : s.part = .run) :
    Wrote .seqState 0 (seqData s.seq.state (some x) c s.seq.holdBits short len) s (seqGo x c short len s) :=
  seqReport_wrote (seqData s.seq.state (some x) c s.seq.holdBits short len)
    (s.setSeq fun q => { q with state := some x, entry := s.now }) run

end

/-- The data of a change of state without the short-open mark (log entry 25). -/
theorem seqData_unmarked (old new : SeqState) (c : SeqCause) (h : Nat) (len : Option Nat) :
    seqData (some old) (some new) c h false len =
      [byte old.code, byte new.code, byte c.code, byte h] ++ be32 (len.getD 4294967295) := rfl

section
variable (x : SeqState) (c : SeqCause) (l : LampCmd) (p : Barrier → Bool) (s : State)

theorem moveAndLamp_blocks : Only [.seq, .lamps, .log, .notices, .reports] s (lampCommand l (seqMove x c s)) :=
  (seqGo_blocks x c false none s).seq (lampCommand_only l _) (by decide) (by decide)

theorem moveAndLamp_lamps : (lampCommand l (seqMove x c s)).lamps = s.lamps.command l s.now := by
  have moved := seqGo_blocks x c false none s
  change (seqMove x c s).lamps.command l (seqMove x c s).now = _
  rw [show (seqMove x c s).lamps = s.lamps from moved.lamps_eq (by decide),
    show (seqMove x c s).now = s.now from (moved.clock_eq (by decide)).1]

theorem moveAndRelease_blocks :
    Only [.seq, .lamps, .barriers, .log, .notices, .reports] s
      (toBarriers p releaseBarrier (lampCommand l (seqMove x c s))) :=
  (moveAndLamp_blocks x c l s).seq (toBarriers_only p _ releaseBarrier_only _) (by decide) (by decide)

theorem moveAndRelease_wrote (run : s.part = .run) :
    Wrote .seqState 0 (seqData s.seq.state (some x) c s.seq.holdBits false none) s
      (toBarriers p releaseBarrier (lampCommand l (seqMove x c s))) :=
  (seqGo_wrote x c false none s run).of_only
    ((lampCommand_only l _).seq (toBarriers_only p _ releaseBarrier_only _) (cs := [.lamps, .barriers]) (by decide)
      (by decide)) (by decide)

end

/-! ### Lamp commands (R90) -/

theorem Lamp.darken_enabled (l : Lamp) (now : Time) (settle : Nat) : (l.darken now settle).enabled = l.enabled := by
  unfold Lamp.darken
  split <;> rfl

theorem LampDriver.forEnabled_disabled (d : LampDriver) (f : Fin 10 → Lamp → Lamp) {c : Fin 10}
    (disabled : d.lamps[c].enabled = false) : (d.forEnabled f).lamps[c] = d.lamps[c] := by
  unfold LampDriver.forEnabled
  dsimp only
  rw [Fin.getElem_fin, remake_getElem]
  exact if_neg (fun on => absurd (disabled.symm.trans on) (by decide))

theorem LampDriver.dark_lit (d : LampDriver) (now : Time) {c : Fin 10} (enabled : d.lamps[c].enabled = true) :
    (d.command .dark now).lamps[c].lit = false := by
  have driven := d.forEnabled_getElem (fun _ l => l.darken now d.flash.settle) enabled
  exact (congrArg Lamp.lit driven).trans (Lamp.darken_lit _ _ _)

theorem lOn_lights (c : Fin 10) : FlashPart.lOn.lights c = decide (c = 1 ∨ c = 3 ∨ c = 6 ∨ c = 8) := by revert c; decide

theorem leftGroup_of_amber {c : Fin 10} : isAmber c = true → decide (c = 1 ∨ c = 3 ∨ c = 6 ∨ c = 8) = false := by
  revert c; decide

/-- Red start lights the L group, and leaves every other enabled channel dark (R89, R90). -/
theorem LampDriver.redStart_lit (d : LampDriver) (now : Time) {c : Fin 10} (enabled : d.lamps[c].enabled = true) :
    (d.command .redStart now).lamps[c].lit = decide (c = 1 ∨ c = 3 ∨ c = 6 ∨ c = 8) := by
  have dark := d.forEnabled_getElem (fun c l => if isAmber c then l.darken now d.flash.settle else l) enabled
  have stays : (d.ambersDark now).lamps[c].enabled = true := by
    refine (congrArg Lamp.enabled dark).trans ?_
    split
    · rw [Lamp.darken_enabled, enabled]
    · exact enabled
  have entered := (d.ambersDark now).forEnabled_getElem (fun c l =>
    if isAmber c then l
    else if FlashPart.lOn.lights c then l.light (some (later now d.flash.settle)) else l.darken now d.flash.settle) stays
  refine (congrArg Lamp.lit entered).trans ?_
  by_cases amber : isAmber c = true
  · rw [if_pos amber, leftGroup_of_amber amber]
    refine (congrArg Lamp.lit dark).trans ?_
    rw [if_pos amber, Lamp.darken_lit]
  · rw [if_neg amber, ← lOn_lights]
    split
    · next on => rw [on]; rfl
    · next off => rw [Bool.eq_false_iff.2 off, Lamp.darken_lit]

theorem LampDriver.redStart_disabled (d : LampDriver) (now : Time) {c : Fin 10} (disabled : d.lamps[c].enabled = false) :
    (d.command .redStart now).lamps[c] = d.lamps[c] := by
  have dark := d.forEnabled_disabled (fun c l => if isAmber c then l.darken now d.flash.settle else l) disabled
  have off : (d.ambersDark now).lamps[c].enabled = false := (congrArg Lamp.enabled dark).trans disabled
  have entered := (d.ambersDark now).forEnabled_disabled (fun c l =>
    if isAmber c then l
    else if FlashPart.lOn.lights c then l.light (some (later now d.flash.settle)) else l.darken now d.flash.settle) off
  exact entered.trans dark

/-! ### Past LOWER_ENTRY the exit-delay mark stays absent (R69) -/

/-- The Sequencer has left LOWER_ENTRY with its mark made absent. -/
def PastEntry (s : State) : Prop := s.seq.exitMark = none ∧ s.seq.state ≠ some .lowerEntry

theorem enterOpen_seq (s : State) : (enterOpen s).seq = (openedRoad s).seq := by
  rw [enterOpen_eq]
  split
  · exact (endCondition_only _ _ _).seq_eq (by decide) (by decide)
  · rfl

theorem testRaising_past {s : State} (h : PastEntry s) : PastEntry (testRaising s) := by
  unfold testRaising PastEntry
  split
  · rw [enterOpen_seq, openedRoad_seq]
    exact ⟨h.1, nofun⟩
  · exact h

theorem enterRaising_past {s : State} (mark : s.seq.exitMark = none) : PastEntry (enterRaising s) := by
  refine testRaising_past ?_
  unfold PastEntry
  rw [(toBarriers_only _ _ raiseBarrier_only _).seq_eq (by decide) (by decide),
    (lampCommand_only _ _).seq_eq (by decide) (by decide), seqMove_seq]
  exact ⟨mark, nofun⟩

theorem testClosed_past {s : State} (h : PastEntry s) : PastEntry (testClosed s) := by
  unfold testClosed
  split
  · split
    · unfold PastEntry
      rw [(guardCommit_blocks _ s).seq_eq (by decide) (by decide)]
      exact h
    · exact enterRaising_past h.1
  · exact h

theorem enterClosed_past {s : State} (mark : s.seq.exitMark = none) : PastEntry (enterClosed s) := by
  refine testClosed_past ?_
  unfold PastEntry
  rw [moveAndRelease_seq]
  exact ⟨mark, nofun⟩

theorem testLowerExit_past {s : State} (h : PastEntry s) : PastEntry (testLowerExit s) := by
  unfold testLowerExit
  split
  · exact enterClosed_past h.1
  · exact h

theorem enterLowerExit_past {s : State} (mark : s.seq.exitMark = none) : PastEntry (enterLowerExit s) := by
  refine testLowerExit_past ?_
  unfold PastEntry
  rw [moveAndRelease_seq]
  exact ⟨mark, nofun⟩

/-! ### The tests of the closing states (R69, R70, R73, R76) -/

theorem Barrier.isEntry_iff (x : Barrier) : x.isEntry = true ↔ x.role = .entry := by
  unfold Barrier.isEntry
  rw [beq_iff_eq]

theorem Barrier.isExit_iff (x : Barrier) : x.isExit = true ↔ x.role = .exit := by
  unfold Barrier.isExit
  rw [beq_iff_eq]

theorem Barrier.finished_iff (x : Barrier) : x.finished = true ↔ x.state = some .down ∨ x.state = some .fault := by
  unfold Barrier.finished
  rw [Bool.or_eq_true, beq_iff_eq, beq_iff_eq]

/-- Every configured barrier of a role is finished. -/
theorem allFinished_iff (s : State) {p : Barrier → Bool} {r : BarrierRole} (role : ∀ x, p x = true ↔ x.role = r) :
    (s.barriersAll fun x => !p x || x.finished) = true ↔
      ∀ b : Fin 4, s.barriers[b].configured = true → s.barriers[b].role = r →
        s.barriers[b].state = some .down ∨ s.barriers[b].state = some .fault := by
  rw [barriersAll_iff]
  refine forall_congr' fun b => forall_congr' fun _ => ?_
  rw [Bool.or_eq_true, Bool.not_eq_true', ← Bool.not_eq_true, role, Barrier.finished_iff]
  exact imp_iff_not_or.symm

theorem hasExit_iff (s : State) :
    s.hasExit = true ↔ ∃ b : Fin 4, s.barriers[b].configured = true ∧ s.barriers[b].role = .exit := by
  unfold State.hasExit
  rw [List.any_eq_true]
  simp only [Bool.and_eq_true, beq_iff_eq]
  exact ⟨fun ⟨b, _, h⟩ => ⟨b, h⟩, fun ⟨b, h⟩ => ⟨b, mem_allBarriers b, h⟩⟩

section
variable {s : State}

theorem testLowerEntry_waits
    (h : reached s.now s.seq.exitMark = false ∨ ∃ b : Fin 4, s.barriers[b].configured = true ∧ s.barriers[b].role = .entry ∧
      s.barriers[b].state ≠ some .down ∧ s.barriers[b].state ≠ some .fault) : testLowerEntry s = s := by
  refine if_neg fun ⟨_, finished, mark⟩ => ?_
  rcases h with early | ⟨b, configured, entry, notDown, notFault⟩
  · exact absurd (early.symm.trans mark) (by decide)
  · exact ((allFinished_iff s Barrier.isEntry_iff).1 finished b configured entry).elim notDown notFault

theorem testLowerEntry_passes (state : s.seq.state = some .lowerEntry) (mark : reached s.now s.seq.exitMark = true)
    (finished : ∀ b : Fin 4, s.barriers[b].configured = true → s.barriers[b].role = .entry →
      s.barriers[b].state = some .down ∨ s.barriers[b].state = some .fault) :
    testLowerEntry s =
      if s.hasExit then enterLowerExit (s.setSeq fun q => { q with exitMark := none })
      else enterClosed (s.setSeq fun q => { q with exitMark := none }) :=
  if_pos ⟨state, (allFinished_iff s Barrier.isEntry_iff).2 finished, mark⟩

theorem testLowerExit_waits
    (h : ∃ b : Fin 4, s.barriers[b].configured = true ∧ s.barriers[b].role = .exit ∧
      s.barriers[b].state ≠ some .down ∧ s.barriers[b].state ≠ some .fault) : testLowerExit s = s := by
  obtain ⟨b, configured, exit, notDown, notFault⟩ := h
  exact if_neg fun ⟨_, finished⟩ =>
    ((allFinished_iff s Barrier.isExit_iff).1 finished b configured exit).elim notDown notFault

theorem testLowerExit_passes (state : s.seq.state = some .lowerExit)
    (finished : ∀ b : Fin 4, s.barriers[b].configured = true → s.barriers[b].role = .exit →
      s.barriers[b].state = some .down ∨ s.barriers[b].state = some .fault) : testLowerExit s = enterClosed s :=
  if_pos ⟨state, (allFinished_iff s Barrier.isExit_iff).2 finished⟩

theorem testRaising_waits (h : ∃ b : Fin 4, s.barriers[b].configured = true ∧ s.barriers[b].state ≠ some .heldUp) :
    testRaising s = s := by
  obtain ⟨b, configured, notUp⟩ := h
  exact if_neg fun ⟨_, up⟩ => notUp ((barriersAll_heldUp_iff s).1 up b configured)

/-- With the demand the Sequencer comes to rest in CLOSED (R73). -/
theorem enterClosed_of_demand (demand : s.demand = true) :
    enterClosed s = toBarriers Barrier.notReleased releaseBarrier (lampCommand .redContinue (seqMove .closed .barriers s)) := by
  have closes := closesOn_moveAndRelease .closed .barriers .redContinue Barrier.notReleased s (LampDriver.redContinue_gen _ _)
  exact testClosed_of_demand (closes.demand.trans demand)

/-- A change of a barrier is tested in the Sequencer's present state (R69, R70, R73, R76). -/
theorem barrierChanged_lowerEntry (state : s.seq.state = some .lowerEntry) : barrierChanged s = testLowerEntry s := by
  unfold barrierChanged
  rw [state]

theorem barrierChanged_lowerExit (state : s.seq.state = some .lowerExit) : barrierChanged s = testLowerExit s := by
  unfold barrierChanged
  rw [state]

theorem barrierChanged_closed (state : s.seq.state = some .closed) : barrierChanged s = testClosed s := by
  unfold barrierChanged
  rw [state]

theorem barrierChanged_raising (state : s.seq.state = some .raising) : barrierChanged s = testRaising s := by
  unfold barrierChanged
  rw [state]

theorem barrierChanged_elsewhere
    (state : s.seq.state = none ∨ s.seq.state = some .roadOpen ∨ s.seq.state = some .amber ∨
      s.seq.state = some .redWait) : barrierChanged s = s := by
  unfold barrierChanged
  rcases state with state | state | state | state <;> rw [state]

end

/-- A barrier held up and released is LOWERING from now, its outputs off (R106). -/
theorem Barrier.released_heldUp {x : Barrier} (held : x.state = some .heldUp) (now : Time) :
    (x.released now).state = some .lowering ∧ (x.released now).holdOut = false ∧ (x.released now).raiseOut = false ∧
      (x.released now).motionStart = some now := by
  unfold Barrier.released
  rw [held]
  unfold Barrier.lowerFrom
  dsimp only
  split <;> exact ⟨rfl, rfl, rfl, rfl⟩

end Sys2Proof.Machine
end

section
/-! PROOFS. The Sequencer's timers from AMBER to CLOSED, and what a change of a barrier makes of its state (R66 to R70, R73, R76,
R80, R81). -/

namespace Sys2Proof.Machine

/-! ### RED_WAIT and LOWER_ENTRY (R67, R68) -/

section
variable {s : State} (run : s.part = .run)
include run

theorem exec_tAmberExpiry (amber : s.seq.state = some .amber) (passed : s.seq.tAmber ≤ elapsed s.now s.seq.entry) :
    exec .tAmberExpiry s = .next (react (lampCommand .redStart (seqMove .redWait .timer s))) := by
  have due : s.tAmberDue = true := by simp [State.tAmberDue, State.inSeq, run, amber, passed]
  exact congrArg Host.Outcome.next (if_pos due)

/-- The state as LOWER_ENTRY is entered, before R69 is tested. -/
def enteredLowerEntry (s : State) : State :=
  setExitMark (toBarriers Barrier.isEntry releaseBarrier (lampCommand .redContinue (seqMove .lowerEntry .timer s)))

theorem exec_tPrelowerExpiry (waits : s.seq.state = some .redWait) (passed : s.seq.tPrelower ≤ elapsed s.now s.seq.entry) :
    exec .tPrelowerExpiry s = .next (react (testLowerEntry (enteredLowerEntry s))) := by
  have due : s.tPrelowerDue = true := by simp [State.tPrelowerDue, State.inSeq, run, waits, passed]
  exact congrArg Host.Outcome.next (if_pos due)

theorem exec_exitDelayMark (entry : s.seq.state = some .lowerEntry) (mark : reached s.now s.seq.exitMark = true)
    (finished : ∀ b : Fin 4, s.barriers[b].configured = true → s.barriers[b].role = .entry →
      s.barriers[b].state = some .down ∨ s.barriers[b].state = some .fault) :
    exec .exitDelayMark s = .next (react (testLowerEntry s)) := by
  have all := (allFinished_iff s Barrier.isEntry_iff).2 finished
  have due : s.exitDelayDue = true := by
    unfold State.exitDelayDue State.inSeq
    rw [run, entry, mark, all]
    rfl
  exact congrArg Host.Outcome.next (if_pos due)

end

theorem enteredLowerEntry_seq (s : State) :
    (enteredLowerEntry s).seq = { s.seq with
      state := some .lowerEntry, entry := s.now, exitMark := some (later s.now s.seq.tExitDelay) } := by
  have seq := moveAndRelease_seq .lowerEntry .timer .redContinue Barrier.isEntry s
  have now := ((moveAndRelease_blocks .lowerEntry .timer .redContinue Barrier.isEntry s).clock_eq (by decide)).1
  unfold enteredLowerEntry setExitMark
  rw [State.setSeq_seq, now, seq]

theorem enteredLowerEntry_only (s : State) :
    Only [.seq, .lamps, .barriers, .log, .notices, .reports] s (enteredLowerEntry s) := by
  unfold enteredLowerEntry
  exact (moveAndRelease_blocks .lowerEntry .timer .redContinue Barrier.isEntry s).trans
    ((setExitMark_only _).mono (by decide))

theorem enteredLowerEntry_barriers (s : State) (b : Fin 4) :
    (enteredLowerEntry s).barriers[b] =
      if s.barriers[b].configured && s.barriers[b].isEntry then s.barriers[b].released s.now else s.barriers[b] := by
  unfold enteredLowerEntry
  rw [(setExitMark_only _).barriers_eq (by decide), moveAndRelease_barriers]

theorem enteredLowerEntry_lamps (s : State) : (enteredLowerEntry s).lamps = s.lamps.command .redContinue s.now := by
  unfold enteredLowerEntry
  rw [(setExitMark_only _).lamps_eq (by decide), moveAndRelease_lamps]

theorem enteredLowerEntry_wrote {s : State} (run : s.part = .run) :
    Wrote .seqState 0 (seqData s.seq.state (some .lowerEntry) .timer s.seq.holdBits false none) s (enteredLowerEntry s) := by
  unfold enteredLowerEntry
  exact (moveAndRelease_wrote .lowerEntry .timer .redContinue Barrier.isEntry s run).of_only (setExitMark_only _) (by decide)

/-- AMBER to RED_WAIT, t_amber after AMBER was entered (R67). -/
theorem amber_to_redWait {s : State} (run : s.part = .run) (amber : s.seq.state = some .amber)
    (passed : s.seq.tAmber ≤ elapsed s.now s.seq.entry) :
    ∃ u, exec .tAmberExpiry s = .next (react u) ∧
      u.seq = { s.seq with state := some .redWait, entry := s.now } ∧ u.lamps.gen = some ⟨.lOn, s.now⟩ ∧
      (∀ c : Fin 10, s.lamps.lamps[c].enabled = true →
        u.lamps.lamps[c].lit = decide (c = 1 ∨ c = 3 ∨ c = 6 ∨ c = 8)) ∧
      (∀ c : Fin 10, s.lamps.lamps[c].enabled = false → u.lamps.lamps[c] = s.lamps.lamps[c]) ∧
      u.reports.stateMark = true ∧ Wrote .seqState 0 ([1, 2, 1, byte s.seq.holdBits] ++ be32 4294967295) s u ∧
      Only [.seq, .lamps, .log, .notices, .reports] s u := by
  have lit := lampCommand_only .redStart (seqMove .redWait .timer s)
  have wrote := (seqGo_wrote .redWait .timer false none s run).of_only lit (by decide)
  have lamps := moveAndLamp_lamps .redWait .timer .redStart s
  rw [amber, seqData_unmarked] at wrote
  refine ⟨_, exec_tAmberExpiry run amber passed, ?_, ?_, fun c enabled => ?_, fun c disabled => ?_, rfl, wrote,
    moveAndLamp_blocks .redWait .timer .redStart s⟩
  · rw [lit.seq_eq (by decide) (by decide), seqMove_seq]
  · rw [lamps]; rfl
  · rw [lamps]; exact LampDriver.redStart_lit _ _ enabled
  · rw [lamps]; exact LampDriver.redStart_disabled _ _ disabled

/-- RED_WAIT to LOWER_ENTRY, t_prelower after RED_WAIT was entered (R68). -/
theorem redWait_to_lowerEntry {s : State} (run : s.part = .run) (waits : s.seq.state = some .redWait)
    (passed : s.seq.tPrelower ≤ elapsed s.now s.seq.entry) :
    ∃ v, exec .tPrelowerExpiry s = .next (react (testLowerEntry v)) ∧
      v.seq = { s.seq with
        state := some .lowerEntry, entry := s.now, exitMark := some (later s.now s.seq.tExitDelay) } ∧
      (∀ b : Fin 4, s.barriers[b].configured = true → s.barriers[b].role = .entry →
        s.barriers[b].state = some .heldUp →
        v.barriers[b].state = some .lowering ∧ v.barriers[b].holdOut = false ∧ v.barriers[b].raiseOut = false ∧
        v.barriers[b].motionStart = some s.now) ∧
      (∀ b : Fin 4, s.barriers[b].configured = false ∨ s.barriers[b].role = .exit →
        v.barriers[b] = s.barriers[b]) ∧
      v.lamps.gen.isSome = true ∧ Wrote .seqState 0 ([2, 3, 1, byte s.seq.holdBits] ++ be32 4294967295) s v ∧
      Only [.seq, .lamps, .barriers, .log, .notices, .reports] s v := by
  have wrote := enteredLowerEntry_wrote run
  rw [waits, seqData_unmarked] at wrote
  refine ⟨enteredLowerEntry s, exec_tPrelowerExpiry run waits passed, enteredLowerEntry_seq s, fun b configured entry held => ?_,
    fun b stays => ?_, ?_, wrote, enteredLowerEntry_only s⟩
  · rw [enteredLowerEntry_barriers, configured, (Barrier.isEntry_iff _).2 entry, if_pos (by decide)]
    exact Barrier.released_heldUp held s.now
  · rw [enteredLowerEntry_barriers]
    refine if_neg fun taken => ?_
    obtain ⟨configured, entry⟩ := Bool.and_eq_true_iff.1 taken
    rcases stays with off | exit
    · exact absurd (off.symm.trans configured) (by decide)
    · exact absurd (exit.symm.trans ((Barrier.isEntry_iff _).1 entry)) (by decide)
  · rw [enteredLowerEntry_lamps]
    exact LampDriver.redContinue_gen _ _

/-! ### LOWER_EXIT and CLOSED (R69, R70, R73) -/

theorem Barrier.of_settings {x y : Barrier} (h : x.settings = y.settings) : x.configured = y.configured ∧ x.role = y.role :=
  ⟨congrArg Prod.fst h, congrArg (fun p => p.2.1) h⟩

/-- Entry into LOWER_EXIT with an exit barrier held up: it is released, and R70 waits for it. -/
theorem enterLowerExit_waits {s : State} {b : Fin 4} (configured : s.barriers[b].configured = true)
    (exit : s.barriers[b].role = .exit) (held : s.barriers[b].state = some .heldUp) :
    (enterLowerExit s).seq.state = some .lowerExit ∧ (enterLowerExit s).seq.entry = s.now ∧
      (enterLowerExit s).barriers[b].state = some .lowering ∧ (enterLowerExit s).barriers[b].holdOut = false := by
  have seq := moveAndRelease_seq .lowerExit .barriers .redContinue Barrier.isExit s
  have released := moveAndRelease_barriers .lowerExit .barriers .redContinue Barrier.isExit s b
  obtain ⟨sameConfigured, sameRole⟩ := Barrier.of_settings (Barrier.released_settings s.barriers[b] s.now)
  rw [configured, (Barrier.isExit_iff _).2 exit, if_pos (by decide)] at released
  obtain ⟨lowering, holdOut, -, -⟩ := Barrier.released_heldUp held s.now
  unfold enterLowerExit
  dsimp only
  generalize toBarriers Barrier.isExit releaseBarrier (lampCommand .redContinue (seqMove .lowerExit .barriers s)) = u at *
  have stays : testLowerExit u = u := by
    refine testLowerExit_waits ⟨b, ?_, ?_, ?_, ?_⟩
    · rw [released, sameConfigured, configured]
    · rw [released, sameRole, exit]
    · rw [released, lowering]; decide
    · rw [released, lowering]; decide
  rw [stays, seq, released]
  exact ⟨rfl, rfl, lowering, holdOut⟩

theorem Barrier.notReleased_iff {x : Barrier} : x.notReleased = true ↔ x.Up := by
  unfold Barrier.notReleased
  rw [Bool.or_eq_true, beq_iff_eq, beq_iff_eq]

/-- LOWER_ENTRY is left at its mark with the entry barriers finished (R69). -/
theorem lowerEntry_left {s : State} (run : s.part = .run) (state : s.seq.state = some .lowerEntry)
    (mark : reached s.now s.seq.exitMark = true)
    (finished : ∀ b : Fin 4, s.barriers[b].configured = true → s.barriers[b].role = .entry →
      s.barriers[b].state = some .down ∨ s.barriers[b].state = some .fault) :
    ∃ u, exec .exitDelayMark s = .next (react u) ∧ u = barrierChanged s ∧ u.seq.exitMark = none ∧
      u.seq.state ≠ some .lowerEntry ∧
      (s.hasExit = false → s.demand = true → u.seq.state = some .closed ∧ u.seq.entry = s.now) ∧
      (∀ b : Fin 4, s.barriers[b].configured = true → s.barriers[b].role = .exit →
        s.barriers[b].state = some .heldUp →
        u.seq.state = some .lowerExit ∧ u.seq.entry = s.now ∧ u.barriers[b].state = some .lowering ∧
        u.barriers[b].holdOut = false) ∧
      Only reactBlocks s u := by
  have passes := testLowerEntry_passes state mark finished
  have past : PastEntry (testLowerEntry s) := by
    rw [passes]
    split
    · exact enterLowerExit_past rfl
    · exact enterClosed_past rfl
  refine ⟨testLowerEntry s, exec_exitDelayMark run state mark finished, (barrierChanged_lowerEntry state).symm, past.1, past.2,
    fun noExit demand => ?_, fun b configured exit held => ?_, (testLowerEntry_only s).mono (by decide)⟩
  · have demanded : (s.setSeq fun q => { q with exitMark := none }).demand = true :=
      (closesOn_exitMark s none).demand.trans demand
    rw [passes, noExit, if_neg Bool.false_ne_true, enterClosed_of_demand demanded, moveAndRelease_seq]
    exact ⟨rfl, rfl⟩
  · rw [passes, (hasExit_iff s).2 ⟨b, configured, exit⟩, if_pos rfl]
    exact enterLowerExit_waits (s := s.setSeq fun q => { q with exitMark := none }) configured exit held

/-- LOWER_EXIT to CLOSED with the exit barriers finished; with the demand the road stays there (R70, R73). -/
theorem lowerExit_closes {s : State} (run : s.part = .run) (state : s.seq.state = some .lowerExit) (demand : s.demand = true)
    (finished : ∀ b : Fin 4, s.barriers[b].configured = true → s.barriers[b].role = .exit →
      s.barriers[b].state = some .down ∨ s.barriers[b].state = some .fault) :
    (barrierChanged s).seq = { s.seq with state := some .closed, entry := s.now } ∧
    (∀ b : Fin 4, s.barriers[b].configured = true →
      (barrierChanged s).barriers[b].holdOut = false ∨ s.barriers[b].state ≠ some .heldUp ∧
        s.barriers[b].state ≠ some .raising ∧ (barrierChanged s).barriers[b] = s.barriers[b]) ∧
    (barrierChanged s).lamps.gen.isSome = true ∧
    Wrote .seqState 0 ([4, 5, 2, byte s.seq.holdBits] ++ be32 4294967295) s (barrierChanged s) ∧
    Only [.seq, .lamps, .barriers, .log, .notices, .reports] s (barrierChanged s) := by
  have wrote := moveAndRelease_wrote .closed .barriers .redContinue Barrier.notReleased s run
  rw [state, seqData_unmarked] at wrote
  rw [barrierChanged_lowerExit state, testLowerExit_passes state finished, enterClosed_of_demand demand]
  refine ⟨moveAndRelease_seq _ _ _ _ s, fun b configured => ?_, ?_, wrote, moveAndRelease_blocks _ _ _ _ s⟩
  · rw [moveAndRelease_barriers]
    by_cases up : s.barriers[b].Up
    · rw [configured, Barrier.notReleased_iff.2 up, if_pos (by decide)]
      exact .inl (Barrier.released_outputs up s.now).1
    · obtain ⟨notHeld, notRaising⟩ := not_or.1 up
      exact .inr ⟨notHeld, notRaising, if_neg fun taken => up (Barrier.notReleased_iff.1 (right_of_and taken))⟩
  · rw [moveAndRelease_lamps]
    exact LampDriver.redContinue_gen _ _

/-! ### RAISING to OPEN (R76, R80, R81) -/

/-- The Sequencer's move to OPEN with its lamp command, before the closure is counted (R76). -/
def darkRoad (s : State) : State :=
  lampCommand .dark (seqGo .roadOpen .barriers false
    (if s.seq.counted then some (s.seq.closureLength s.now) else none)
    (s.setSeq fun q => { q with counted := false, longFlag := false, openMark := decide (q.tMinOpen = 0) }))

/-- A counted closure is placed in its bin (R81). -/
theorem openedRoad_eq (s : State) :
    openedRoad s =
      if s.seq.counted then emit [.count (cntClosureBin (s.seq.closureLength s.now))] (darkRoad s) else darkRoad s := by
  unfold openedRoad darkRoad
  cases s.seq.counted <;> rfl

theorem darkRoad_only (s : State) : Only [.seq, .lamps, .log, .notices, .reports] s (darkRoad s) := by
  have marks := setSeq_only s (fun q =>
    { q with counted := false, longFlag := false, openMark := decide (q.tMinOpen = 0) }) rfl rfl rfl
  unfold darkRoad
  exact (marks.seq (seqGo_blocks _ _ _ _ _) (cs := [.seq, .log, .notices, .reports]) (by decide) (by decide)).seq
    (lampCommand_only .dark _) (by decide) (by decide)

theorem darkRoad_wrote {s : State} (run : s.part = .run) :
    Wrote .seqState 0 (seqData s.seq.state (some .roadOpen) .barriers s.seq.holdBits false
      (if s.seq.counted then some (s.seq.closureLength s.now) else none)) s (darkRoad s) := by
  have wrote := seqGo_wrote .roadOpen .barriers false (if s.seq.counted then some (s.seq.closureLength s.now) else none)
    (s.setSeq fun q => { q with counted := false, longFlag := false, openMark := decide (q.tMinOpen = 0) }) run
  unfold darkRoad
  exact Wrote.of_only wrote (lampCommand_only .dark _) (by decide)

theorem darkRoad_stateMark (s : State) : (darkRoad s).reports.stateMark = true := rfl

theorem openedRoad_counted (s : State) : Only [.counters, .notices] (darkRoad s) (openedRoad s) := by
  rw [openedRoad_eq]
  exact Only.ite (emit_count_only _ _) (Only.refl _ _)

theorem openedRoad_counters (s : State) (i : Fin 32) :
    (openedRoad s).counters[i] =
      if i = cntClosureBin (s.seq.closureLength s.now) ∧ s.seq.counted = true then s.counters[i].bumped
      else s.counters[i] := by
  have before := (darkRoad_only s).counters_eq (by decide)
  rw [openedRoad_eq]
  cases counted : s.seq.counted with
  | false => rw [if_neg Bool.false_ne_true, before, if_neg fun h => Bool.false_ne_true h.2]
  | true =>
    rw [if_pos rfl]
    by_cases here : i = cntClosureBin (s.seq.closureLength s.now)
    · rw [if_pos ⟨here, rfl⟩, here, emit_count_self, before]
    · rw [if_neg fun h => here h.1, ← before]
      exact emit_count_kept (Ne.symm here) (darkRoad s)

/-- RAISING with every barrier up is left for OPEN (R76). -/
theorem raising_opens {s : State} (run : s.part = .run) (state : s.seq.state = some .raising)
    (up : ∀ b : Fin 4, s.barriers[b].configured = true → s.barriers[b].state = some .heldUp) :
    let ms := if s.seq.longBin then 480000 else min 480000 (elapsed s.now s.seq.closureStart)
    let bin : Fin 32 := if ms < 30000 then 25 else if ms < 60000 then 26 else if ms < 120000 then 27
      else if ms < 240000 then 28 else if ms < 480000 then 29 else 30
    ∃ v, barrierChanged s = (if s.seq.longFlag then endCondition .longClosure 0 v else v) ∧
      v.seq = { s.seq with
        state := some .roadOpen, entry := s.now, counted := false, longFlag := false
        openMark := decide (s.seq.tMinOpen = 0) } ∧
      (∀ i : Fin 32, v.counters[i] =
        if i = bin ∧ s.seq.counted = true then s.counters[i].bumped else s.counters[i]) ∧
      v.lamps.gen = none ∧ (∀ c : Fin 10, s.lamps.lamps[c].enabled = true → v.lamps.lamps[c].lit = false) ∧
      Wrote .seqState 0
        ([6, 0, 2, byte s.seq.holdBits] ++ be32 (if s.seq.counted then ms else 4294967295)) s v ∧
      v.reports.stateMark = true ∧ Only [.seq, .lamps, .log, .notices, .reports, .counters] s v := by
  intro ms bin
  have opens : barrierChanged s = enterOpen s :=
    (barrierChanged_raising state).trans (if_pos ⟨state, (barriersAll_heldUp_iff s).2 up⟩)
  have counted := openedRoad_counted s
  have wrote := (darkRoad_wrote run).of_only counted (by decide)
  rw [state, seqData_unmarked] at wrote
  have length : (if s.seq.counted then some (s.seq.closureLength s.now) else none).getD 4294967295 =
      if s.seq.counted then ms else 4294967295 := by
    cases s.seq.counted <;> rfl
  rw [length] at wrote
  refine ⟨openedRoad s, opens.trans (enterOpen_eq s), openedRoad_seq s, openedRoad_counters s, ?_, fun c enabled => ?_, wrote,
    ?_, (darkRoad_only s).seq counted (by decide) (by decide)⟩
  · rw [openedRoad_lamps]; rfl
  · rw [openedRoad_lamps]; exact LampDriver.dark_lit _ _ enabled
  · rw [counted.reports_eq (by decide), darkRoad_stateMark]

/-- Settles O35, one lemma for each transition; a change that a state does not wait for changes nothing. -/
theorem closingRunsItsTimers : Obligations.ClosingRunsItsTimers := by
  unfold Obligations.ClosingRunsItsTimers
  refine ⟨fun s => amber_to_redWait, fun s => redWait_to_lowerEntry, fun s => lowerEntry_left,
    fun s => ⟨barrierChanged_elsewhere, fun closed => ?_, fun b configured waits => ?_, fun state early => ?_⟩,
    fun s => lowerExit_closes, fun s => raising_opens⟩
  · rw [barrierChanged_closed closed, takeDemand_closed closed]
  · rcases waits with ⟨state, entry, notDown, notFault⟩ | ⟨state, exit, notDown, notFault⟩ | ⟨state, notUp⟩
    · rw [barrierChanged_lowerEntry state, testLowerEntry_waits (.inr ⟨b, configured, entry, notDown, notFault⟩)]
    · rw [barrierChanged_lowerExit state, testLowerExit_waits ⟨b, configured, exit, notDown, notFault⟩]
    · rw [barrierChanged_raising state, testRaising_waits ⟨b, configured, notUp⟩]
  · rw [barrierChanged_lowerEntry state, testLowerEntry_waits (.inl early)]

end Sys2Proof.Machine
end

section
/-! PROOFS. The hold set, by the host and by the signaller (R66, R77 to R79, R162, R163). -/

namespace Sys2Proof.Machine

/-! ### With the demand the road is neither OPEN nor RAISING once it is taken (R66, R77) -/

theorem takeDemand_shuts {s : State} (demand : s.demand = true) : ¬(takeDemand s).Opens := by
  by_cases opened : s.seq.state = some .roadOpen
  · exact not_opens_of_state (congrArg Sequencer.state (takeDemand_toAmber opened demand).1) (by decide)
  by_cases raising : s.seq.state = some .raising
  · obtain ⟨closing, -⟩ := takeDemand_recloses raising demand
    rcases closing with state | state | state <;> exact not_opens_of_state state (by decide)
  by_cases closed : s.seq.state = some .closed
  · rw [takeDemand_closed closed, testClosed_of_demand demand]
    exact not_opens_of_state closed (by decide)
  · rw [takeDemand_elsewhere opened raising closed]
    exact not_or.2 ⟨opened, raising⟩

theorem react_shuts {s : State} (demand : s.demand = true) : ¬(react s).Opens := by
  have settled := (lineSettle_only (takeDemand s)).state_eq (by decide)
  have shut := takeDemand_shuts demand
  unfold State.Opens at *
  unfold react
  rwa [settled]

theorem demand_of_hold {s : State} (held : s.seq.holdSignaller = true ∨ s.seq.holdLocal = true) : s.demand = true := by
  unfold State.demand
  rcases held with held | held <;> simp [held]

/-! ### What a HOLD does (R78, R79) -/

/-- The two members of the hold set. -/
def Sequencer.members (q : Sequencer) : Bool × Bool := (q.holdSignaller, q.holdLocal)

theorem Only.members_eq {bs : List Block} {s t : State} (h : Only bs s t) (off : .holds ∉ bs) :
    t.seq.members = s.seq.members := by
  obtain ⟨signaller, localHold⟩ : t.seq.holdSignaller = s.seq.holdSignaller ∧ t.seq.holdLocal = s.seq.holdLocal := h .holds off
  unfold Sequencer.members
  rw [signaller, localHold]

theorem holdChanged_members (s : State) : (holdChanged s).seq.members = s.seq.members :=
  ((takeDemand_only _).members_eq (by decide)).trans ((emit_only _ s).members_eq (by decide))

/-- A member takes the value given, the other stands. -/
theorem setHold_members (signaller on : Bool) (s : State) :
    (setHold signaller on s).seq.members = if signaller then (on, s.seq.holdLocal) else (s.seq.holdSignaller, on) := by
  unfold setHold
  cases signaller with
  | true =>
    rw [if_pos rfl, if_pos rfl]
    split
    · next same => rw [← same]; rfl
    · rw [holdChanged_members]; rfl
  | false =>
    rw [if_neg Bool.false_ne_true, if_neg Bool.false_ne_true]
    split
    · next same => rw [← same]; rfl
    · rw [holdChanged_members]; rfl

/-- The member that a HOLD of a value leaves: 1 sets it, 0 clears it, any other value leaves it. -/
def heldBy (v : Byte) (was : Bool) : Bool := if v = 1 then true else if v = 0 then false else was

theorem hold_byte (signaller : Bool) (v : Byte) (s : State) :
    hold signaller v.toNat s =
      if v = 0 then (.ok, setHold signaller false s) else if v = 1 then (.ok, setHold signaller true s) else (.outOfRange, s) := by
  by_cases zero : v = 0
  · subst zero; rfl
  by_cases one : v = 1
  · subst one; rfl
  rw [if_neg zero, if_neg one]
  unfold hold
  split
  · next h => exact absurd (BitVec.eq_of_toNat_eq h) zero
  · next h => exact absurd (BitVec.eq_of_toNat_eq h) one
  · rfl

theorem hold_result (signaller : Bool) (v : Byte) (s : State) :
    (hold signaller v.toNat s).1 = if v = 0 ∨ v = 1 then .ok else .outOfRange := by
  rw [hold_byte]
  by_cases zero : v = 0
  · rw [if_pos zero, if_pos (.inl zero)]
  by_cases one : v = 1
  · rw [if_neg zero, if_pos one, if_pos (.inr one)]
  · rw [if_neg zero, if_neg one, if_neg (not_or.2 ⟨zero, one⟩)]

theorem hold_members (signaller : Bool) (v : Byte) (s : State) :
    (hold signaller v.toNat s).2.seq.members =
      if signaller then (heldBy v s.seq.holdSignaller, s.seq.holdLocal) else (s.seq.holdSignaller, heldBy v s.seq.holdLocal) := by
  rw [hold_byte]
  by_cases zero : v = 0
  · subst zero; exact setHold_members signaller false s
  by_cases one : v = 1
  · subst one; exact setHold_members signaller true s
  · rw [if_neg zero, if_neg one, heldBy, heldBy, if_neg one, if_neg zero, if_neg one, if_neg zero]
    cases signaller <;> rfl

theorem hold_confirm (signaller : Bool) (v : Nat) (s : State) : ConfirmKept s (hold signaller v s).2 := by
  have changed : ∀ f : Sequencer → Sequencer, ConfirmKept s (holdChanged (s.setSeq f)) := fun f =>
    (emit_confirm _ (s.setSeq f)).trans (takeDemand_confirm _)
  have set : ∀ on, ConfirmKept s (setHold signaller on s) := fun on =>
    .ite (.ite (.refl s) (changed _)) (.ite (.refl s) (changed _))
  unfold hold
  split
  · exact set false
  · exact set true
  · exact .refl s

/-- What a HOLD comes to once the demand has been taken: its member, the other, and the road shut on hold. -/
theorem react_hold (signaller : Bool) (v : Byte) {s u : State} (members : u.seq.members = (hold signaller v.toNat s).2.seq.members) :
    (react u).seq.members =
        (if signaller then (heldBy v s.seq.holdSignaller, s.seq.holdLocal) else (s.seq.holdSignaller, heldBy v s.seq.holdLocal)) ∧
      (v = 1 → (react u).seq.state ≠ some .roadOpen ∧ (react u).seq.state ≠ some .raising) := by
  have left := hold_members signaller v s
  rw [← members] at left
  refine ⟨((react_only u).members_eq (by decide)).trans left, fun one => not_or.1 (react_shuts (demand_of_hold ?_))⟩
  subst one
  cases signaller with
  | true => exact .inl (congrArg Prod.fst left)
  | false => exact .inr (congrArg Prod.snd left)

/-! ### The host's HOLD (R79) -/

theorem exec_localHold_eq (v tag : Byte) {s : State} (run : s.part = .run) (free : HostFree s) :
    exec (.localHold tag [v]) s = .next (placeReply Request.localHold.code tag
      (acted .localHold [v] (hold false v.toNat s.frameIn))) := by
  have row : exec (.localHold tag [v]) s = .next (takeFrame Request.localHold.code tag [v] s) := rfl
  have taken := takeFrame_eq_placeReply (q := .localHold) (tag := tag) (payload := [v]) free (by simp) rfl (by rw [run]; rfl)
  have served : serve .localHold [v] s.frameIn = acted .localHold [byte v.toNat] (hold false v.toNat s.frameIn) := rfl
  have same : byte v.toNat = v := by simp [byte]
  rw [row, taken, served, same]

/-- After a run-time action the Sequencer is as the reaction leaves it: the record and the reply touch it not. -/
theorem acted_seq (q : Request) (tag : Byte) (items : List Byte) (x : Result × State) :
    (placeReply q.code tag (acted q items x)).seq = (react x.2).seq :=
  (emit_only _ (react x.2)).seq_eq (by decide) (by decide)

theorem hold_result_code (v : Byte) :
    byte (if v = 0 ∨ v = 1 then Result.ok else .outOfRange).code = if v = 0 ∨ v = 1 then 0 else 3 := by
  split <;> rfl

theorem localHold_effect (v tag : Byte) {s : State} (run : s.part = .run) (free : HostFree s) :
    ∃ t, exec (.localHold tag [v]) s = .next t ∧
      Replied 0x30 tag [if v = 0 ∨ v = 1 then 0 else 3] s t ∧
      t.seq.holdLocal = heldBy v s.seq.holdLocal ∧ t.seq.holdSignaller = s.seq.holdSignaller ∧
      (v = 1 → t.seq.state ≠ some .roadOpen ∧ t.seq.state ≠ some .raising) ∧
      Only ([.holds, .port] ++ reactBlocks) s t := by
  obtain ⟨replied, -, -, frame⟩ := acted_effect (q := .localHold) (tag := tag) (items := [v])
    (hold_only false v.toNat s.frameIn) (by decide)
  obtain ⟨members, shut⟩ := react_hold false v (s := s.frameIn) rfl
  rw [hold_result, hold_result_code] at replied
  refine ⟨_, exec_localHold_eq v tag run free, replied, ?_, ?_, ?_, frame.mono (by decide)⟩
  · rw [acted_seq]; exact congrArg Prod.snd members
  · rw [acted_seq]; exact congrArg Prod.fst members
  · rw [acted_seq]; exact shut

/-! ### The signaller's HOLD (R78, R162, R163) -/

theorem takeCommand_hold (addr : Addressing) (v : Byte) (s : State) :
    takeCommand 0 kindHold addr [v] s =
      commandReported kindHold addr (hold true v.toNat s).1 [v] (hold true v.toNat s).2 := by
  cases addr <;> exact if_pos rfl

theorem sigHold_effect (v : Byte) {h : LineHead} {addr : Addressing} {s : State} (ready : LineReady s)
    (active : s.line.link = .active) (box : FromBox s h addr) :
    ∃ t, exec (.sigHold h [v]) s = .next t ∧
      t.reports.confirm = confirmOf s addr 0x05 (if v = 0 ∨ v = 1 then .ok else .outOfRange) ∧
      t.seq.holdSignaller = heldBy v s.seq.holdSignaller ∧ t.seq.holdLocal = s.seq.holdLocal ∧
      (v = 1 → t.seq.state ≠ some .roadOpen ∧ t.seq.state ≠ some .raising) ∧
      Only (.holds :: reactBlocks) s t := by
  have row : exec (.sigHold h [v]) s = .next (receiveFrame h kindHold [v] s) := rfl
  have taken := frameTaken_only s
  have held := hold_only true v.toNat (frameTaken s)
  have reported := commandReported_only kindHold addr (hold true v.toNat (frameTaken s)).1 [v]
    (hold true v.toNat (frameTaken s)).2
  have seq : (frameTaken s).seq = s.seq := taken.seq_eq (by decide) (by decide)
  have kept : ConfirmKept s (hold true v.toNat (frameTaken s)).2 :=
    ConfirmKept.trans (.of_only taken (by decide)) (hold_confirm _ _ _)
  obtain ⟨members, shut⟩ := react_hold true v (reported.members_eq (by decide))
  rw [seq] at members
  refine ⟨_, row.trans (congrArg Host.Outcome.next (receiveFrame_fromBox ready active box (by decide) (by simp))), ?_⟩
  rw [takeCommand_hold]
  refine ⟨?_, congrArg Prod.fst members, congrArg Prod.snd members, shut, ?_⟩
  · rw [react_confirm, commandReported_confirm, hold_result, confirmOf, confirmOf, kept]
    rfl
  · exact ((taken.mono (by decide)).trans (held.mono (by decide))).trans
      ((reported.mono (by decide)).trans ((react_only _).mono (by decide)))

/-- Settles O24: both commands reach `hold`, and the reaction takes the demand that a member of the hold set is. -/
theorem holdsSetTheHoldSet : Obligations.HoldsSetTheHoldSet := by
  unfold Obligations.HoldsSetTheHoldSet
  exact ⟨fun v tag s run free => localHold_effect v tag run free,
    fun v h addr s ready active box => sigHold_effect v ready active box⟩

end Sys2Proof.Machine
end

section
/-! PROOFS. The lamp test through the enabled channels (R98, R99). -/

namespace Sys2Proof.Machine

/-! ### The next enabled channel (R99) -/

theorem LampDriver.nextEnabled_eq_some {d : LampDriver} {n : Nat} {c : Fin 10} (from' : n ≤ c.val)
    (enabled : d.lamps[c].enabled = true)
    (first : ∀ e : Fin 10, n ≤ e.val → e < c → d.lamps[e].enabled = false) : d.nextEnabled n = some c := by
  refine List.find?_eq_some_iff_getElem.2 ⟨?_, c.val, c.isLt, allLamps_getElem c, fun j before => ?_⟩
  · rw [enabled, decide_eq_true from']; rfl
  · have entry : ∀ inside, allLamps[j]'inside = ⟨j, before.trans c.isLt⟩ := fun _ => allLamps_getElem ⟨j, before.trans c.isLt⟩
    rw [entry]
    by_cases reached : n ≤ j
    · rw [first ⟨j, before.trans c.isLt⟩ reached before]; simp
    · simp [reached]

theorem LampDriver.nextEnabled_eq_none {d : LampDriver} {n : Nat}
    (disabled : ∀ c : Fin 10, n ≤ c.val → d.lamps[c].enabled = false) : d.nextEnabled n = none := by
  refine List.find?_eq_none.2 fun c _ => ?_
  by_cases reached : n ≤ c.val
  · rw [disabled c reached]; simp
  · simp [reached]

/-! ### The test passes on to a channel or is complete (R99, R100) -/

section
variable {n : Nat} {x : LampTest} {s : State}

theorem testFrom_lights {c : Fin 10} (next : s.lamps.nextEnabled n = some c) :
    testFrom n x s = (s.setLamp c fun l => l.light none).setLamps fun d =>
      { d with test := some ⟨c, s.now, false, x.results⟩ } := by
  unfold testFrom
  rw [next]

theorem testFrom_lights_only {c : Fin 10} (next : s.lamps.nextEnabled n = some c) : Only [.lamps] s (testFrom n x s) := by
  rw [testFrom_lights next]
  exact (setLamp_only s c (fun l => l.light none) fun l => l.light_limits none).trans (setLamps_only _ _ rfl)

theorem testFrom_lamp {c : Fin 10} (next : s.lamps.nextEnabled n = some c) (d : Fin 10) :
    (testFrom n x s).lamps.lamps[d] = if c = d then s.lamps.lamps[d].light none else s.lamps.lamps[d] := by
  rw [testFrom_lights next]
  exact upd_getFin _ _ _ _

theorem testFrom_ends (last : s.lamps.nextEnabled n = none) : testFrom n x s = endTest 0 x s := by
  unfold testFrom
  rw [last]

theorem endTest_lamps (status : Nat) : (endTest status x s).lamps = { s.lamps with test := none } :=
  (queueNotice_only (testNotice status x) (s.setLamps fun d => { d with test := none })).lamps_eq (by decide)

end

/-! ### The request (R98) -/

theorem lampTestRequest_busy {s : State} (testing : s.lamps.test.isSome = true) : lampTestRequest s = (.busy, s) :=
  if_pos testing

theorem all_slots_empty_iff {s : State} :
    (allSlots.all fun k => s.slots[k].record.isNone) = true ↔ ∀ k : Fin 4, s.slots[k].record = none := by
  rw [List.all_eq_true]
  exact ⟨fun h k => Option.isNone_iff_eq_none.1 (h k (mem_allSlots k)), fun h k _ => Option.isNone_iff_eq_none.2 (h k)⟩

theorem lampTestRequest_untested {s : State} (untested : s.lamps.test = none) :
    lampTestRequest s = if s.seq.state = some .roadOpen ∧ ∀ k : Fin 4, s.slots[k].record = none then (.ok, startTest s)
      else (.wrongState, s) := by
  unfold lampTestRequest
  rw [untested, if_neg (by simp)]
  simp only [all_slots_empty_iff]

section
variable {s : State} (tag : Byte) (run : s.part = .run) (free : HostFree s)
include run free

theorem exec_lampTest_eq : exec (.lampTest tag []) s = .next (placeReply Request.lampTest.code tag
    (acted .lampTest [] (lampTestRequest s.frameIn))) := by
  have row : exec (.lampTest tag []) s = .next (takeFrame Request.lampTest.code tag [] s) := rfl
  have taken := takeFrame_eq_placeReply (q := .lampTest) (tag := tag) (payload := []) free (by simp) rfl (by rw [run]; rfl)
  rw [row, taken]
  rfl

theorem lampTest_refused {r : Result} (refused : lampTestRequest s.frameIn = (r, s.frameIn)) :
    ∃ u, ActedReply (.lampTest tag []) .lampTest tag r s u ∧ Only [.port] s u := by
  refine ⟨s.frameIn, ⟨[], ?_⟩, frameIn_only s⟩
  rw [exec_lampTest_eq tag run free, refused, acted_eq]

end

/-- An action that leaves no demand in OPEN is followed by the access wait alone, its record and its reply. -/
theorem acted_undemanded {q : Request} {tag : Byte} {items : List Byte} {r : Result} {s u : State}
    (frame : Only [.lamps] s.frameIn u) (road : s.seq.state = some .roadOpen) (absent : s.demand = false) :
    Replied q.code tag [byte r.code] s (placeReply q.code tag (acted q items (r, u))) ∧
      (placeReply q.code tag (acted q items (r, u))).lamps = u.lamps ∧
      Only ([.lamps, .port, .line] ++ recordBlocks) s (placeReply q.code tag (acted q items (r, u))) := by
  have seq : u.seq = s.seq := frame.seq_eq (by decide) (by decide)
  have demand : u.demand = s.demand :=
    (demand_congr (frame.slots_eq (by decide)) (frame.sections_eq (by decide)) (congrArg _ seq) (congrArg _ seq)
      (frame.faults_eq (by decide)))
  have reacted : react u = lineSettle u :=
    congrArg lineSettle (takeDemand_undemanded (.inl ((congrArg Sequencer.state seq).trans road)) (demand.trans absent))
  have settled : Only [.line] u (react u) := by rw [reacted]; exact lineSettle_only u
  have logged : Only (.line :: recordBlocks) u (hostLog q r items (react u)) :=
    settled.seq (emit_only _ _) (by decide) (by decide)
  have lamps := ((replied_only _ q.code tag [byte r.code]).lamps_eq (by decide)).trans (logged.lamps_eq (by decide))
  have whole := (frameIn_only s).seq (frame.seq (logged.seq (replied_only _ q.code tag [byte r.code])
    (cs := [.lamps, .port, .line] ++ recordBlocks) (by decide) (by decide)) (by decide) (fun _ h => h)) (by decide) (fun _ h => h)
  exact ⟨(acted_effect (items := items) (x := (r, u)) frame (by decide)).1, lamps, whole⟩

theorem lampTest_starts (tag : Byte) {s : State} {c : Fin 10} (run : s.part = .run) (free : HostFree s)
    (untested : s.lamps.test = none) (road : s.seq.state = some .roadOpen)
    (empty : ∀ k : Fin 4, s.slots[k].record = none) (absent : s.demand = false)
    (enabled : s.lamps.lamps[c].enabled = true) (first : ∀ d : Fin 10, d < c → s.lamps.lamps[d].enabled = false) :
    ∃ t, exec (.lampTest tag []) s = .next t ∧ Replied 0x31 tag [0] s t ∧
      t.lamps.test = some ⟨c, s.now, false, Vector.replicate 10 none⟩ ∧ t.lamps.lamps[c].lit = true ∧
      (∀ d : Fin 10, d ≠ c → t.lamps.lamps[d] = s.lamps.lamps[d]) ∧
      Only ([.lamps, .port, .line] ++ recordBlocks) s t := by
  have request : lampTestRequest s.frameIn = (.ok, startTest s.frameIn) :=
    (lampTestRequest_untested (s := s.frameIn) untested).trans (if_pos ⟨road, empty⟩)
  have next : s.frameIn.lamps.nextEnabled 0 = some c :=
    LampDriver.nextEnabled_eq_some c.val.zero_le enabled fun d _ => first d
  obtain ⟨replied, lamps, frame⟩ := acted_undemanded (q := .lampTest) (tag := tag) (items := []) (r := .ok)
    (u := startTest s.frameIn) (testFrom_lights_only next) road absent
  have lamp := testFrom_lamp (x := ⟨0, s.now, false, Vector.replicate 10 none⟩) next
  refine ⟨_, (exec_lampTest_eq tag run free).trans (by rw [request]), replied, ?_, ?_, fun d other => ?_, frame⟩
  · rw [lamps, startTest, testFrom_lights next]
    rfl
  · rw [lamps]
    exact (congrArg Lamp.lit (lamp c)).trans (by rw [if_pos rfl]; rfl)
  · rw [lamps]
    exact (lamp d).trans (if_neg other.symm)

/-! ### The sample and the end of a channel (R99) -/

theorem lampTestSample_effect (mA : Nat) {x : LampTest} {s : State} (run : s.part = .run) (testing : s.lamps.test = some x)
    (unsampled : x.sampled = false) (settled : s.lamps.flash.settle ≤ elapsed s.now x.since) :
    exec (.lampTestSample mA) s = .next (s.setLamps fun d => { d with test := some { x with
      sampled := true
      results := x.results.set x.channel (some ⟨s.lamps.lamps[x.channel].goodSample (reading mA), reading mA⟩) } }) := by
  have due : s.testSampleDue = true := by
    unfold State.testSampleDue
    rw [run, testing]
    simp [unsampled, settled]
  have row : exec (.lampTestSample mA) s = .next (if s.testSampleDue then testSample (reading mA) s else s) := rfl
  rw [row, if_pos due, testSample, testing]

section
variable {x : LampTest} {s : State}

/-- The state in which the test looks for its next channel: the channel under test dark. -/
def channelDark (x : LampTest) (s : State) : State := s.setLamp x.channel fun l => l.darken s.now s.lamps.flash.settle

theorem channelDark_only (x : LampTest) (s : State) : Only [.lamps] s (channelDark x s) :=
  setLamp_only s _ _ fun l => l.darken_limits _ _

theorem channelDark_lamp (x : LampTest) (s : State) (d : Fin 10) :
    (channelDark x s).lamps.lamps[d] =
      if x.channel = d then s.lamps.lamps[d].darken s.now s.lamps.flash.settle else s.lamps.lamps[d] :=
  upd_getFin _ _ _ _

theorem channelDark_enabled (x : LampTest) (s : State) (d : Fin 10) :
    (channelDark x s).lamps.lamps[d].enabled = s.lamps.lamps[d].enabled := by
  rw [channelDark_lamp]
  split
  · exact Lamp.darken_enabled _ _ _
  · rfl

theorem channelDark_lit (x : LampTest) (s : State) : (channelDark x s).lamps.lamps[x.channel].lit = false := by
  rw [channelDark_lamp, if_pos rfl]
  exact Lamp.darken_lit _ _ _

theorem exec_lampTestChannelEnd_eq (run : s.part = .run) (testing : s.lamps.test = some x)
    (due : 1000 ≤ elapsed s.now x.since) :
    exec .lampTestChannelEnd s = .next (testFrom (x.channel.val + 1) x (channelDark x s)) := by
  have reached : s.testChannelDue = true := by
    unfold State.testChannelDue
    rw [run, testing]
    exact decide_eq_true due
  have row : exec .lampTestChannelEnd s = .next (if s.testChannelDue then testChannelEnd s else s) := rfl
  rw [row, if_pos reached, testChannelEnd, testing]
  rfl

theorem channelEnd_goes_dark : (testFrom (x.channel.val + 1) x (channelDark x s)).lamps.lamps[x.channel].lit = false := by
  cases next : (channelDark x s).lamps.nextEnabled (x.channel.val + 1) with
  | none => rw [testFrom_ends next, endTest_lamps]; exact channelDark_lit x s
  | some c =>
    have found := List.find?_some next
    have above : c ≠ x.channel := fun same => by simp [same] at found
    rw [testFrom_lamp next, if_neg above]
    exact channelDark_lit x s

theorem channelEnd_lights_next {c : Fin 10} (above : x.channel < c) (enabled : s.lamps.lamps[c].enabled = true)
    (first : ∀ d : Fin 10, x.channel < d → d < c → s.lamps.lamps[d].enabled = false) :
    (channelDark x s).lamps.nextEnabled (x.channel.val + 1) = some c :=
  LampDriver.nextEnabled_eq_some above ((channelDark_enabled x s c).trans enabled) fun d up before =>
    (channelDark_enabled x s d).trans (first d up before)

theorem channelEnd_ends (disabled : ∀ c : Fin 10, x.channel < c → s.lamps.lamps[c].enabled = false) :
    testFrom (x.channel.val + 1) x (channelDark x s) = endTest 0 x (channelDark x s) :=
  testFrom_ends (LampDriver.nextEnabled_eq_none fun c up => (channelDark_enabled x s c).trans (disabled c up))

end

theorem lampTestChannelEnd_effect {x : LampTest} {s : State} (run : s.part = .run) (testing : s.lamps.test = some x)
    (due : 1000 ≤ elapsed s.now x.since) :
    ∃ t, exec .lampTestChannelEnd s = .next t ∧ t.lamps.lamps[x.channel].lit = false ∧
      (∀ c : Fin 10, x.channel < c → s.lamps.lamps[c].enabled = true →
        (∀ d : Fin 10, x.channel < d → d < c → s.lamps.lamps[d].enabled = false) →
        t.lamps.test = some ⟨c, s.now, false, x.results⟩ ∧ t.lamps.lamps[c].lit = true ∧ Only [.lamps] s t) ∧
      ((∀ c : Fin 10, x.channel < c → s.lamps.lamps[c].enabled = false) →
        t.lamps.test = none ∧ t = queueNotice (testNotice 0 x) { s with lamps := t.lamps } ∧
        Only [.lamps, .notices] s t) := by
  refine ⟨_, exec_lampTestChannelEnd_eq run testing due, channelEnd_goes_dark, fun c above enabled first => ?_,
    fun disabled => ?_⟩
  · have next := channelEnd_lights_next above enabled first
    refine ⟨by rw [testFrom_lights next]; rfl, ?_, (channelDark_only x s).trans (testFrom_lights_only next)⟩
    rw [testFrom_lamp next, if_pos rfl]
    rfl
  · rw [channelEnd_ends disabled, endTest_lamps]
    exact ⟨rfl, rfl, ((channelDark_only x s).mono (by decide)).trans (endTest_only _ _ _)⟩

/-- Settles O25, the request by its refusals and its start, the sample and the end of a channel by the step when it is due. -/
theorem lampTestRunsThroughTheChannels : Obligations.LampTestRunsThroughTheChannels := by
  unfold Obligations.LampTestRunsThroughTheChannels
  refine ⟨fun tag s run free => ⟨fun testing => ?busy, fun untested blocked => ?wrongState,
      fun c untested road empty absent enabled first => ?starts⟩,
    fun mA x s run testing unsampled settled => lampTestSample_effect mA run testing unsampled settled,
    fun x s run testing due => lampTestChannelEnd_effect run testing due⟩
  case busy => exact lampTest_refused tag run free (lampTestRequest_busy (s := s.frameIn) testing)
  case wrongState =>
    refine lampTest_refused tag run free ((lampTestRequest_untested (s := s.frameIn) untested).trans (if_neg ?_))
    rintro ⟨road, empty⟩
    rcases blocked with elsewhere | ⟨k, occupied⟩
    · exact elsewhere road
    · rw [show s.slots[k].record = none from empty k] at occupied
      exact Bool.false_ne_true occupied
  case starts => exact lampTest_starts tag run free untested road empty absent enabled first

end Sys2Proof.Machine
end

section
/-! PROOFS. CONFIG_FLASH and CONFIG_LAMP (R87, R88): the flash cycle, and the enable and limits of one lamp channel. -/

namespace Sys2Proof.Machine

/-! ### CONFIG_FLASH (R88) -/

theorem setLamps_config_only (s : State) (f : LampDriver → LampDriver) : Only [.lamps, .config] s (s.setLamps f) := by
  intro b hb; cases b <;> simp_all [Same]

/-- The cycle, its four parts and t_settle lie in their ranges. -/
abbrev FlashOk (p l g r h settle : Nat) : Prop :=
  (800 ≤ p ∧ p ≤ 1500) ∧ (250 ≤ l ∧ l ≤ 1500) ∧ g ≤ 100 ∧ (250 ≤ r ∧ r ≤ 1500) ∧ h ≤ 100 ∧ (20 ≤ settle ∧ settle ≤ 150)

/-- CONFIG_FLASH's payload as its fields spell it. -/
theorem setFlashConfig_bytes {p l g r h settle : Nat} (s : State) (hp : p < 65536) (hl : l < 65536) (hg : g < 65536)
    (hr : r < 65536) (hh : h < 65536) (ht : settle < 65536) :
    setFlashConfig (be16 p ++ be16 l ++ be16 g ++ be16 r ++ be16 h ++ be16 settle) s =
      if FlashOk p l g r h settle then some (s.setLamps fun d => { d with flash := ⟨p, l, g, r, h, settle⟩ }) else none := by
  simp only [be16, List.cons_append, List.nil_append, setFlashConfig]
  rw [rd16_be16 _ hp, rd16_be16 _ hl, rd16_be16 _ hg, rd16_be16 _ hr, rd16_be16 _ hh, rd16_be16 _ ht]
  simp only [within, FlashOk, Bool.and_eq_true, decide_eq_true_eq, and_assoc, Nat.zero_le, true_and]

theorem configFlash_sets (p l g r h settle : Nat) (tag : Byte) (s : State) (hp : p < 65536) (hl : l < 65536)
    (hg : g < 65536) (hr : r < 65536) (hh : h < 65536) (ht : settle < 65536) (config : s.part = .config)
    (free : HostFree s) :
    let c := Instr.configFlash tag (be16 p ++ be16 l ++ be16 g ++ be16 r ++ be16 h ++ be16 settle)
    if FlashOk p l g r h settle then
      ∃ u, Accepts c 0x14 tag [] [.lamps, .config] s u ∧ u.lamps = { s.lamps with flash := ⟨p, l, g, r, h, settle⟩ }
    else Refuses c 0x14 tag .outOfRange s := by
  have allowed : Request.configFlash.allowedIn s.part = true := by rw [config]; rfl
  have bytes := setFlashConfig_bytes s.frameIn hp hl hg hr hh ht
  dsimp only
  split
  · next ok =>
    rw [if_pos ok] at bytes
    exact ⟨_, accepts_of_serve (q := .configFlash) rfl free (by simp [be16]) rfl allowed
      (congrArg (configured · s.frameIn) bytes) (setLamps_config_only _ _) (by decide), rfl⟩
  · next bad =>
    rw [if_neg bad] at bytes
    exact refuses_of_serve (q := .configFlash) rfl free (by simp [be16]) rfl allowed
      (congrArg (configured · s.frameIn) bytes)

/-! ### CONFIG_LAMP (R87) -/

theorem setLamp_config_only (s : State) (c : Fin 10) (f : Lamp → Lamp) : Only [.lamps, .config] s (s.setLamp c f) := by
  intro b hb; cases b <;> simp_all [Same]

theorem fieldFlag_byte {e : Nat} (h : e < 256) : fieldFlag (byte e) = if e ≤ 1 then some (decide (e = 1)) else none := by
  have value : (byte e).toNat = e := by rw [byte_toNat]; omega
  unfold fieldFlag
  rw [value]
  match e with
  | 0 | 1 => rfl
  | n + 2 => rw [if_neg (by omega)]; rfl

/-- The channel's number, its enable byte and its limits lie in their ranges, I_min below I_max. -/
abbrev LampOk (n e iMin iMax iOff : Nat) : Prop :=
  n < 10 ∧ e ≤ 1 ∧ 50 ≤ iMin ∧ iMin < iMax ∧ iMax ≤ 3000 ∧ 10 ≤ iOff ∧ iOff ≤ 200

/-- The tests of the three limits one by one, with I_min below I_max, are those of R87 in one row. -/
theorem lampLimits_within (iMin iMax iOff : Nat) :
    (within 50 3000 iMin && within 50 3000 iMax && within 10 200 iOff && decide (iMin < iMax)) =
      decide (50 ≤ iMin ∧ iMin < iMax ∧ iMax ≤ 3000 ∧ 10 ≤ iOff ∧ iOff ≤ 200) := by
  rw [Bool.eq_iff_iff]
  simp only [within, Bool.and_eq_true, decide_eq_true_eq]
  omega

/-- CONFIG_LAMP's payload as its fields spell it. -/
theorem setLampConfig_bytes {n e iMin iMax iOff : Nat} (s : State) (hn : n < 256) (he : e < 256) (h1 : iMin < 65536)
    (h2 : iMax < 65536) (h3 : iOff < 65536) :
    setLampConfig ([byte n, byte e] ++ be16 iMin ++ be16 iMax ++ be16 iOff) s =
      if h : LampOk n e iMin iMax iOff then
        some (s.setLamp ⟨n, h.1⟩ fun l => { l with enabled := decide (e = 1), iMin := iMin, iMax := iMax, iOff := iOff })
      else none := by
  simp only [be16, List.cons_append, List.nil_append, setLampConfig]
  rw [rd16_be16 _ h1, rd16_be16 _ h2, rd16_be16 _ h3, fieldIndex_byte hn, fieldFlag_byte he, lampLimits_within]
  by_cases index : n < 10
  · by_cases enable : e ≤ 1
    · simp only [LampOk, index, enable, dite_true, if_true, decide_eq_true_eq, true_and]
      rfl
    · simp [index, enable]
  · simp [index]

theorem configLamp_sets (n e iMin iMax iOff : Nat) (tag : Byte) (s : State) (hn : n < 256) (he : e < 256)
    (h1 : iMin < 65536) (h2 : iMax < 65536) (h3 : iOff < 65536) (config : s.part = .config) (free : HostFree s) :
    let c := Instr.configLamp tag ([byte n, byte e] ++ be16 iMin ++ be16 iMax ++ be16 iOff)
    if LampOk n e iMin iMax iOff then
      ∃ u, Accepts c 0x15 tag [] [.lamps, .config] s u ∧
        (∀ k : Fin 10, u.lamps.lamps[k] =
          if k.val = n then { s.lamps.lamps[k] with enabled := decide (e = 1), iMin := iMin, iMax := iMax, iOff := iOff }
          else s.lamps.lamps[k]) ∧
        u.lamps.flash = s.lamps.flash ∧ u.lamps.gen = s.lamps.gen ∧ u.lamps.startUp = s.lamps.startUp ∧
        u.lamps.test = s.lamps.test
    else Refuses c 0x15 tag .outOfRange s := by
  have allowed : Request.configLamp.allowedIn s.part = true := by rw [config]; rfl
  have bytes := setLampConfig_bytes s.frameIn hn he h1 h2 h3
  dsimp only
  split
  · next ok =>
    rw [dif_pos ok] at bytes
    refine ⟨_, accepts_of_serve (q := .configLamp) rfl free (by simp [be16]) rfl allowed
      (congrArg (configured · s.frameIn) bytes) (setLamp_config_only _ _ _) (by decide), fun k => ?_, rfl, rfl, rfl, rfl⟩
    simp only [State.replied, State.frameIn, State.setHost_lamps, State.setLamp_lamps, Fin.getElem_fin, upd_getElem,
      eq_comm]
  · next bad =>
    rw [dif_neg bad] at bytes
    exact refuses_of_serve (q := .configLamp) rfl free (by simp [be16]) rfl allowed
      (congrArg (configured · s.frameIn) bytes)

/-- Settles O12: each request's fields are read back, so its range test is the obligation's own. -/
theorem configFlashAndLampSetTheLights : Obligations.ConfigFlashAndLampSetTheLights := by
  unfold Obligations.ConfigFlashAndLampSetTheLights
  exact ⟨configFlash_sets, configLamp_sets⟩

end Sys2Proof.Machine
end

section
/-! PROOFS. The flash generator's parts and the halves of the start-up flash (R89, R97). -/

namespace Sys2Proof.Machine

/-! ### The generator (R89) -/

theorem FlashPart.lights_eq (x : FlashPart) (c : Fin 10) :
    x.lights c = decide ((x = .lOn ∧ (c = 1 ∨ c = 3 ∨ c = 6 ∨ c = 8)) ∨ (x = .rOn ∧ (c = 2 ∨ c = 4 ∨ c = 7 ∨ c = 9))) := by
  revert c
  cases x <;> decide

section
variable (d : LampDriver) (x : FlashPart) (now : Time) {c : Fin 10}

/-- Entering a part commands the enabled reds alone. -/
theorem LampDriver.enterPart_lamp :
    (d.enterPart x now).lamps[c] =
      if d.lamps[c].enabled = true ∧ isAmber c = false then
        if x.lights c then d.lamps[c].light (some (later now d.flash.settle)) else d.lamps[c].darken now d.flash.settle
      else d.lamps[c] := by
  unfold LampDriver.enterPart LampDriver.forEnabled
  dsimp only
  rw [Fin.getElem_fin, remake_getElem]
  cases isAmber c with
  | true => simp
  | false => simp

/-- A part lights the reds of its group and no other enabled red. -/
theorem LampDriver.enterPart_lit (enabled : d.lamps[c].enabled = true) (red : isAmber c = false) :
    (d.enterPart x now).lamps[c].lit = x.lights c := by
  rw [LampDriver.enterPart_lamp, if_pos ⟨enabled, red⟩]
  cases on : x.lights c with
  | true => rfl
  | false => exact Lamp.darken_lit _ _ _

theorem LampDriver.enterPart_stands (undriven : d.lamps[c].enabled = false ∨ isAmber c = true) :
    (d.enterPart x now).lamps[c] = d.lamps[c] := by
  rw [LampDriver.enterPart_lamp, if_neg]
  rintro ⟨enabled, red⟩
  rw [enabled, red] at undriven
  exact absurd undriven (by decide)

end

theorem exec_flashPartEnd_eq {g : Flashing} {s : State} (run : s.part = .run) (flashes : s.lamps.gen = some g)
    (due : s.lamps.flash.length g.part ≤ elapsed s.now g.since) :
    exec .flashPartEnd s = .next (s.setLamps fun d => d.enterPart (d.flash.after g.part) s.now) := by
  have reached : s.flashPartDue = true := by
    unfold State.flashPartDue
    rw [run, flashes]
    exact decide_eq_true due
  have row : exec .flashPartEnd s = .next (if s.flashPartDue then nextFlashPart s else s) := rfl
  rw [row, if_pos reached, nextFlashPart, flashes]

theorem flashPartEnd_effect {g : Flashing} {s : State} (run : s.part = .run) (flashes : s.lamps.gen = some g)
    (due : s.lamps.flash.length g.part ≤ elapsed s.now g.since) :
    let next := s.lamps.flash.after g.part
    ∃ t, exec .flashPartEnd s = .next t ∧ t.lamps.gen = some ⟨next, s.now⟩ ∧
      (∀ c : Fin 10, s.lamps.lamps[c].enabled = true → c ≠ 0 → c ≠ 5 →
        t.lamps.lamps[c].lit = decide ((next = .lOn ∧ (c = 1 ∨ c = 3 ∨ c = 6 ∨ c = 8)) ∨
          (next = .rOn ∧ (c = 2 ∨ c = 4 ∨ c = 7 ∨ c = 9)))) ∧
      (∀ c : Fin 10, s.lamps.lamps[c].enabled = false ∨ c = 0 ∨ c = 5 → t.lamps.lamps[c] = s.lamps.lamps[c]) ∧
      t.lamps.flash = s.lamps.flash ∧ t.lamps.test = s.lamps.test ∧ Only [.lamps] s t := by
  refine ⟨_, exec_flashPartEnd_eq run flashes due, rfl, fun c enabled notA notB => ?_, fun c undriven => ?_, rfl, rfl,
    setLamps_only _ _ (LampDriver.enterPart_settings _ _ _)⟩
  · have red : isAmber c = false := by rw [isAmber_eq]; simp [notA, notB]
    exact (s.lamps.enterPart_lit _ _ enabled red).trans (FlashPart.lights_eq _ c)
  · refine s.lamps.enterPart_stands _ _ (undriven.imp_right fun amber => ?_)
    rw [isAmber_eq]
    exact decide_eq_true amber

/-! ### The start-up flash (R97) -/

theorem leftChannels_contains (c : Fin 10) : leftChannels.contains c = decide (c = 1 ∨ c = 3 ∨ c = 6 ∨ c = 8) := by
  revert c; decide

theorem rightChannels_contains (c : Fin 10) : rightChannels.contains c = decide (c = 2 ∨ c = 4 ∨ c = 7 ∨ c = 9) := by
  revert c; decide

theorem LampDriver.startUpHalf_lamp (d : LampDriver) (left : Bool) (now : Time) (c : Fin 10) :
    (d.startUpHalf left now).lamps[c] = { d.lamps[c] with
      lit := if left then decide (c = 1 ∨ c = 3 ∨ c = 6 ∨ c = 8) else decide (c = 2 ∨ c = 4 ∨ c = 7 ∨ c = 9) } := by
  unfold LampDriver.startUpHalf
  dsimp only
  rw [Fin.getElem_fin, remake_getElem, ← leftChannels_contains, ← rightChannels_contains]
  rfl

theorem exec_startUpFlashHalf_eq {f : StartUpFlash} {s : State} (config : s.part = .config)
    (flashes : s.lamps.startUp = some f) (due : 500 ≤ elapsed s.now f.since) :
    exec .startUpFlashHalf s = .next (s.setLamps fun d => d.startUpHalf (!f.leftHalf) s.now) := by
  have reached : s.startUpDue = true := by
    unfold State.startUpDue
    rw [config, flashes]
    exact decide_eq_true due
  have row : exec .startUpFlashHalf s = .next (if s.startUpDue then nextStartUpHalf s else s) := rfl
  rw [row, if_pos reached, nextStartUpHalf, flashes]

theorem startUpFlashHalf_effect {f : StartUpFlash} {s : State} (config : s.part = .config)
    (flashes : s.lamps.startUp = some f) (due : 500 ≤ elapsed s.now f.since) :
    ∃ t, exec .startUpFlashHalf s = .next t ∧ t.lamps.startUp = some ⟨!f.leftHalf, s.now⟩ ∧
      (∀ c : Fin 10, t.lamps.lamps[c] = { s.lamps.lamps[c] with
        lit := if f.leftHalf then decide (c = 2 ∨ c = 4 ∨ c = 7 ∨ c = 9)
          else decide (c = 1 ∨ c = 3 ∨ c = 6 ∨ c = 8) }) ∧
      Only [.lamps] s t := by
  refine ⟨_, exec_startUpFlashHalf_eq config flashes due, rfl, fun c => ?lamp, ?frame⟩
  case lamp =>
    refine (s.lamps.startUpHalf_lamp _ _ c).trans ?_
    cases f.leftHalf <;> rfl
  case frame =>
    have half := nextStartUpHalf_only s
    rwa [nextStartUpHalf, flashes] at half

/-- Settles O37: a part that has run its length passes to the next of the cycle, and a half to the other. -/
theorem flashesAlternate : Obligations.FlashesAlternate := by
  unfold Obligations.FlashesAlternate
  refine ⟨fun g s run flashes due => ?generator, fun f s => startUpFlashHalf_effect⟩
  case generator =>
    have passes := flashPartEnd_effect run flashes due
    unfold FlashConfig.after at passes
    exact passes

end Sys2Proof.Machine
end

section
/-! PROOFS. Lit proofs and dark samples (R86, R91 to R96): the channel's counts and flags, and the conditions that a sample raises
or ends. -/

namespace Sys2Proof.Machine

/-! ### Conditions that begin or cease (R95, R96) -/

theorem onChange_eq_atEdge (was is : Bool) (k : FaultKind) (o detail : Nat) (s : State) :
    onChange was is k o detail s = atEdge k o detail was is s := by
  cases was <;> cases is <;> rfl

theorem onChange_counters (was is : Bool) (k : FaultKind) (o detail : Nat) (s : State) :
    (onChange was is k o detail s).counters = s.counters := by
  unfold onChange
  split
  · exact raise_counters _ _ _ _
  · split
    · exact endCondition_counters _ _ _
    · rfl

theorem onChange_lamps (was is : Bool) (k : FaultKind) (o detail : Nat) (s : State) :
    (onChange was is k o detail s).lamps = s.lamps :=
  (onChange_only was is k o detail s).lamps_eq (by decide)

theorem sideDark_eq (s : State) (x : Side) : s.lamps.sideDark x = decide (DarkSide s (leftOf x) (rightOf x)) :=
  Bool.eq_iff_iff.2 ((sideDark_iff s x).trans decide_eq_true_iff.symm)

theorem allFailed_eq (s : State) (cs : List (Fin 10)) : s.lamps.allFailed cs = decide (GroupFailed s cs) :=
  Bool.eq_iff_iff.2 ((allFailed_iff s.lamps cs).trans decide_eq_true_iff.symm)

/-- ROAD_SIDE_DARK of a side, told between any two states that hold the old and the new lamps (R96). -/
theorem sideChange_eq_darkChange {s t u : State} (x : Side) (lamps : u.lamps = t.lamps) :
    sideChange s.lamps x u = darkChange s t x.code (leftOf x) (rightOf x) u := by
  unfold sideChange darkChange LampDriver.darkDetail
  rw [onChange_eq_atEdge, lamps, sideDark_eq, sideDark_eq, allFailed_eq, allFailed_eq]

theorem sideChange_of_same {old : LampDriver} {x : Side} {s : State} (same : s.lamps.sideDark x = old.sideDark x) :
    sideChange old x s = s := by
  unfold sideChange onChange
  rw [same]
  cases old.sideDark x <;> rfl

theorem reds_not_amber (x : Side) : ∀ c ∈ leftOf x ++ rightOf x, isAmber c = false := by
  cases x <;> decide

theorem LampDriver.allFailed_congr {d e : LampDriver} {cs : List (Fin 10)}
    (same : ∀ c ∈ cs, e.lamps[c].enabled = d.lamps[c].enabled ∧ e.lamps[c].failed = d.lamps[c].failed) :
    e.allFailed cs = d.allFailed cs := by
  rw [Bool.eq_iff_iff, allFailed_iff, allFailed_iff]
  refine forall₂_congr fun c member => ?_
  rw [(same c member).1, (same c member).2]

/-- The test of a road side reads the enable and the proved state of its reds alone (R96). -/
theorem LampDriver.sideDark_congr {d e : LampDriver} (x : Side)
    (same : ∀ c : Fin 10, isAmber c = false →
      e.lamps[c].enabled = d.lamps[c].enabled ∧ e.lamps[c].failed = d.lamps[c].failed) : e.sideDark x = d.sideDark x := by
  have reds := fun c member => same c (reds_not_amber x c member)
  have driven : ((leftOf x ++ rightOf x).any fun c => e.lamps[c].enabled) =
      (leftOf x ++ rightOf x).any fun c => d.lamps[c].enabled := by
    rw [Bool.eq_iff_iff, List.any_eq_true, List.any_eq_true]
    exact exists_congr fun c => and_congr_right fun member => by rw [(reds c member).1]
  unfold LampDriver.sideDark
  rw [driven, LampDriver.allFailed_congr fun c left => reds c (List.mem_append_left _ left),
    LampDriver.allFailed_congr fun c right => reds c (List.mem_append_right _ right)]

/-! ### The current presented (R86) -/

theorem setCurrent_only (c : Fin 10) (mA : Nat) (s : State) : Only [.pins] s (setCurrent c mA s) := setPins_only _ _

theorem setCurrent_current (c : Fin 10) (mA : Nat) (s : State) : (setCurrent c mA s).pins.current[c] = mA := by
  simp [setCurrent]

/-! ### A lit sample of one channel (R91, R92) -/

/-- The counts and the proved state of R92, with the runs of 3 and 8 read before they are capped. -/
theorem Lamp.proved_eq (l : Lamp) (mA : Nat) :
    l.proved mA = { l with
      current := some mA
      good := if l.goodSample mA then min 255 (l.good + 1) else 0
      bad := if l.goodSample mA then 0 else min 255 (l.bad + 1)
      failed := if l.goodSample mA then l.failed && decide (l.good + 1 < 8) else l.failed || decide (3 ≤ l.bad + 1) } := by
  have eight : min 255 (l.good + 1) < 8 ↔ l.good + 1 < 8 := by omega
  have three : 3 ≤ min 255 (l.bad + 1) ↔ 3 ≤ l.bad + 1 := by omega
  unfold Lamp.proved
  dsimp only
  rw [decide_eq_decide.2 eight, decide_eq_decide.2 three]
  cases l.goodSample mA <;> rfl

theorem Lamp.nextProof_eq {l : Lamp} {d : Time} (c : Fin 10) (due : l.litDue = some d) :
    l.nextProof c = if c = 0 ∨ c = 5 then some (later d 500) else none := by
  unfold Lamp.nextProof
  rw [isAmber_eq, due]
  simp only [decide_eq_true_eq]
  rfl

section
variable (c : Fin 10) (mA : Nat) (s : State)

/-- The state in which LAMP_FAIL is told: the channel proved, a bad sample counted (R92). -/
def litCounted : State :=
  let s' := s.setLamp c fun l => { l.proved mA with litDue := l.nextProof c }
  if s.lamps.lamps[c].goodSample mA then s' else emit [.count cntLampProofFails] s'

theorem litCounted_only : Only [.lamps, .counters, .notices] s (litCounted c mA s) := by
  have proved := setLamp_only s c (fun l => { l.proved mA with litDue := l.nextProof c }) fun l => l.proved_limits mA
  unfold litCounted
  exact .ite (proved.mono (by decide)) (proved.seq (emit_count_only _ _) (by decide) (by decide))

theorem litCounted_lamps :
    (litCounted c mA s).lamps = (s.setLamp c fun l => { l.proved mA with litDue := l.nextProof c }).lamps := by
  unfold litCounted
  dsimp only
  split
  · rfl
  · exact (emit_only _ _).lamps_eq (by decide)

theorem litCounted_lamp (k : Fin 10) :
    (litCounted c mA s).lamps.lamps[k] =
      if c = k then { s.lamps.lamps[k].proved mA with litDue := s.lamps.lamps[k].nextProof c } else s.lamps.lamps[k] := by
  rw [litCounted_lamps]
  exact upd_getFin _ _ _ _

theorem litCounted_counter :
    (litCounted c mA s).counters[(18 : Fin 32)] =
      if s.lamps.lamps[c].goodSample mA then s.counters[(18 : Fin 32)] else s.counters[(18 : Fin 32)].bumped := by
  unfold litCounted
  dsimp only
  split
  · rfl
  · exact emit_count_self 18 _

/-- LAMP_FAIL of the channel, raised or ended (R92). -/
def lampFailTold : State :=
  onChange s.lamps.lamps[c].failed (s.lamps.lamps[c].proved mA).failed .lampFail c.val (s.lamps.lamps[c].failDetail mA)
    (litCounted c mA s)

/-- A sample that R96 does not have tested leaves both road sides as dark as they were. -/
theorem lampFailTold_sideDark (x : Side)
    (untested : isAmber c = true ∨ s.lamps.lamps[c].failed = (s.lamps.lamps[c].proved mA).failed) :
    (lampFailTold c mA s).lamps.sideDark x = s.lamps.sideDark x := by
  refine LampDriver.sideDark_congr x fun k red => ?_
  rw [lampFailTold, onChange_lamps, litCounted_lamp]
  split
  · next here =>
    subst here
    have stands : s.lamps.lamps[c].failed = (s.lamps.lamps[c].proved mA).failed :=
      untested.resolve_left (by rw [red]; decide)
    have limits := s.lamps.lamps[c].proved_limits mA
    exact ⟨congrArg Prod.fst limits, stands.symm⟩
  · exact ⟨rfl, rfl⟩

/-- A lit sample told in full: LAMP_FAIL, then each road side's test, which finds no change where R96 asks for none. -/
theorem litSample_eq : litSample c mA s = sideChange s.lamps .b (sideChange s.lamps .a (lampFailTold c mA s)) := by
  have told : litSample c mA s =
      if (isAmber c || s.lamps.lamps[c].failed == (s.lamps.lamps[c].proved mA).failed) = true then lampFailTold c mA s
      else sideChange s.lamps .b (sideChange s.lamps .a (lampFailTold c mA s)) := rfl
  rw [told]
  split
  · next untested =>
    rw [Bool.or_eq_true, beq_iff_eq] at untested
    rw [sideChange_of_same (lampFailTold_sideDark c mA s .a untested),
      sideChange_of_same (lampFailTold_sideDark c mA s .b untested)]
  · rfl

theorem litSample_lamps : (litSample c mA s).lamps = (litCounted c mA s).lamps := by
  rw [litSample_eq, sideChange, onChange_lamps, sideChange, onChange_lamps, lampFailTold, onChange_lamps]

theorem litSample_lamp (k : Fin 10) :
    (litSample c mA s).lamps.lamps[k] =
      if c = k then { s.lamps.lamps[k].proved mA with litDue := s.lamps.lamps[k].nextProof c } else s.lamps.lamps[k] := by
  rw [litSample_lamps, litCounted_lamp]

theorem litSample_counters : (litSample c mA s).counters = (litCounted c mA s).counters := by
  rw [litSample_eq, sideChange, onChange_counters, sideChange, onChange_counters, lampFailTold, onChange_counters]

theorem litSample_darkChange :
    litSample c mA s = darkChange s (litSample c mA s) 1 [6, 8] [7, 9] (darkChange s (litSample c mA s) 0 [1, 3] [2, 4]
      (atEdge .lampFail c.val (s.lamps.lamps[c].failDetail mA) s.lamps.lamps[c].failed
        (litSample c mA s).lamps.lamps[c].failed (litCounted c mA s))) := by
  have failed : (litSample c mA s).lamps.lamps[c].failed = (s.lamps.lamps[c].proved mA).failed := by
    rw [litSample_lamp, if_pos rfl]
  have afterFail : (lampFailTold c mA s).lamps = (litSample c mA s).lamps := by
    rw [litSample_lamps, lampFailTold, onChange_lamps]
  have afterSide : (sideChange s.lamps .a (lampFailTold c mA s)).lamps = (litSample c mA s).lamps := by
    rw [sideChange, onChange_lamps, afterFail]
  rw [failed, ← onChange_eq_atEdge]
  calc litSample c mA s
      = sideChange s.lamps .b (sideChange s.lamps .a (lampFailTold c mA s)) := litSample_eq c mA s
    _ = darkChange s (litSample c mA s) 1 [6, 8] [7, 9] (sideChange s.lamps .a (lampFailTold c mA s)) :=
      sideChange_eq_darkChange .b afterSide
    _ = _ := congrArg _ (sideChange_eq_darkChange .a afterFail)

end

/-! ### A dark sample of one channel (R94, R95) -/

/-- The dark run and the stuck-on flag of R95: the second sample in a row that differs turns the flag. -/
theorem Lamp.darkSampled_eq (l : Lamp) (mA : Nat) :
    let differs := decide (l.iOff < mA) != l.stuckOn
    l.darkSampled mA = { l with
      darkRun := if differs && decide (l.darkRun = 0) then 1 else 0
      stuckOn := if differs && decide (1 ≤ l.darkRun) then !l.stuckOn else l.stuckOn } := by
  unfold Lamp.darkSampled
  dsimp only
  by_cases same : decide (l.iOff < mA) = l.stuckOn
  · simp [same]
  · rw [if_neg same, bne_iff_ne.2 same]
    by_cases first : l.darkRun = 0
    · simp [first]
    · have second : 1 ≤ l.darkRun := by omega
      simp [first, second]

section
variable (c : Fin 10) (mA : Nat) (s : State)

/-- The state in which LAMP_STUCK_ON is told: the dark sample judged, the next due (R94, R95). -/
def darkJudged : State :=
  s.setLamp c fun l => { l.darkSampled mA with darkDue := l.darkDue.map fun t => later t 100 }

theorem darkJudged_only : Only [.lamps] s (darkJudged c mA s) := setLamp_only _ _ _ fun l => l.darkSampled_limits mA

theorem darkSampleTaken_lamp (k : Fin 10) :
    (darkSampleTaken c mA s).lamps.lamps[k] =
      if c = k then
        { s.lamps.lamps[k].darkSampled mA with darkDue := s.lamps.lamps[k].darkDue.map fun t => later t 100 }
      else s.lamps.lamps[k] := by
  rw [darkSampleTaken, onChange_lamps]
  exact upd_getFin _ _ _ _

theorem darkSampleTaken_atEdge :
    darkSampleTaken c mA s = atEdge .lampStuckOn c.val (mA / 20) s.lamps.lamps[c].stuckOn
      (darkSampleTaken c mA s).lamps.lamps[c].stuckOn (darkJudged c mA s) := by
  rw [darkSampleTaken_lamp, if_pos rfl, ← onChange_eq_atEdge]
  rfl

end

/-! ### The commands -/

section
variable {c : Fin 10} (mA : Nat) {s : State}

theorem exec_litProof_due (due : s.litProofDue c = true) :
    exec (.litProof c mA) s = .next (react (litSample c (reading mA) (setCurrent c mA s))) :=
  congrArg Host.Outcome.next (if_pos (c := (setCurrent c mA s).litProofDue c = true) due)

theorem exec_litProof_undue (undue : s.litProofDue c = false) : exec (.litProof c mA) s = .next (setCurrent c mA s) :=
  congrArg Host.Outcome.next (if_neg (c := (setCurrent c mA s).litProofDue c = true) (Bool.eq_false_iff.1 undue))

theorem exec_darkSample_due (due : s.darkSampleDue c = true) :
    exec (.darkSample c mA) s = .next (react (darkSampleTaken c (reading mA) (setCurrent c mA s))) :=
  congrArg Host.Outcome.next (if_pos (c := (setCurrent c mA s).darkSampleDue c = true) due)

theorem exec_darkSample_undue (undue : s.darkSampleDue c = false) :
    exec (.darkSample c mA) s = .next (setCurrent c mA s) :=
  congrArg Host.Outcome.next (if_neg (c := (setCurrent c mA s).darkSampleDue c = true) (Bool.eq_false_iff.1 undue))

theorem litProofDue_run {d : Time} (run : s.part = .run) (enabled : s.lamps.lamps[c].enabled = true)
    (lit : s.lamps.lamps[c].lit = true) (due : s.lamps.lamps[c].litDue = some d) (passed : atOrBefore d s.now = true) :
    s.litProofDue c = true := by
  unfold State.litProofDue
  rw [run, enabled, lit, due]
  exact passed

theorem darkSampleDue_run {d : Time} (run : s.part = .run) (enabled : s.lamps.lamps[c].enabled = true)
    (dark : s.lamps.lamps[c].lit = false) (due : s.lamps.lamps[c].darkDue = some d) (passed : atOrBefore d s.now = true)
    (stays : s.darkEnding c = false) : s.darkSampleDue c = true := by
  unfold State.darkSampleDue
  rw [run, enabled, dark, due, stays, show reached s.now (some d) = true from passed]
  rfl

theorem darkSampleDue_ending (ending : s.darkEnding c = true) : s.darkSampleDue c = false := by
  unfold State.darkSampleDue
  rw [ending, Bool.not_true, Bool.and_false]

theorem lampDue_config (config : s.part = .config) : s.litProofDue c = false ∧ s.darkSampleDue c = false := by
  unfold State.litProofDue State.darkSampleDue
  rw [config]
  exact ⟨rfl, rfl⟩

theorem litProof_effect {d : Time} (run : s.part = .run) (enabled : s.lamps.lamps[c].enabled = true)
    (lit : s.lamps.lamps[c].lit = true) (due : s.lamps.lamps[c].litDue = some d) (passed : atOrBefore d s.now = true) :
    let l := s.lamps.lamps[c]
    let isGood := l.goodSample (reading mA)
    ∃ u, exec (.litProof c mA) s = .next (react u) ∧ u.pins.current[c] = mA ∧
      u.lamps.lamps[c] = { l with
        current := some (reading mA)
        good := if isGood then min 255 (l.good + 1) else 0
        bad := if isGood then 0 else min 255 (l.bad + 1)
        failed := if isGood then l.failed && decide (l.good + 1 < 8) else l.failed || decide (3 ≤ l.bad + 1)
        litDue := if c = 0 ∨ c = 5 then some (later d 500) else none } ∧
      (∀ k : Fin 10, k ≠ c → u.lamps.lamps[k] = s.lamps.lamps[k]) ∧
      u.counters[(18 : Fin 32)] = (if isGood then s.counters[(18 : Fin 32)] else s.counters[(18 : Fin 32)].bumped) ∧
      (∃ v, Only [.pins, .lamps, .counters, .notices] s v ∧
        u = darkChange s u 1 [6, 8] [7, 9] (darkChange s u 0 [1, 3] [2, 4]
          (atEdge .lampFail c.val (l.failDetail (reading mA)) l.failed u.lamps.lamps[c].failed v))) ∧
      Only ([.pins, .lamps] ++ faultBlocks) s u := by
  have presented := setCurrent_only c mA s
  have sampled := litSample_only c (reading mA) (setCurrent c mA s)
  have lamp := litSample_lamp c (reading mA) (setCurrent c mA s)
  refine ⟨_, exec_litProof_due mA (litProofDue_run run enabled lit due passed), ?pin, ?channel, fun k other => ?others,
    ?counter, ⟨litCounted c (reading mA) (setCurrent c mA s), ?counted, litSample_darkChange _ _ _⟩, ?frame⟩
  case pin =>
    rw [sampled.pins_eq (by decide)]
    exact setCurrent_current c mA s
  case channel =>
    refine (lamp c).trans ((if_pos rfl).trans ?_)
    rw [Lamp.proved_eq, Lamp.nextProof_eq (l := (setCurrent c mA s).lamps.lamps[c]) c due]
    rfl
  case others => exact (lamp k).trans (if_neg other.symm)
  case counter =>
    rw [litSample_counters]
    exact litCounted_counter c (reading mA) (setCurrent c mA s)
  case counted => exact presented.seq (litCounted_only _ _ _) (by decide) (by decide)
  case frame => exact presented.seq sampled (by decide) (by decide)

theorem darkSample_effect {d : Time} (run : s.part = .run) (enabled : s.lamps.lamps[c].enabled = true)
    (dark : s.lamps.lamps[c].lit = false) (due : s.lamps.lamps[c].darkDue = some d) (passed : atOrBefore d s.now = true)
    (stays : s.darkEnding c = false) :
    let l := s.lamps.lamps[c]
    let differs := decide (l.iOff < reading mA) != l.stuckOn
    ∃ u, exec (.darkSample c mA) s = .next (react u) ∧ u.pins.current[c] = mA ∧
      u.lamps.lamps[c] = { l with
        darkRun := if differs && decide (l.darkRun = 0) then 1 else 0
        stuckOn := if differs && decide (1 ≤ l.darkRun) then !l.stuckOn else l.stuckOn
        darkDue := some (later d 100) } ∧
      (∀ k : Fin 10, k ≠ c → u.lamps.lamps[k] = s.lamps.lamps[k]) ∧
      (∃ v, Only [.pins, .lamps] s v ∧
        u = atEdge .lampStuckOn c.val (reading mA / 20) l.stuckOn u.lamps.lamps[c].stuckOn v) ∧
      Only ([.pins, .lamps] ++ faultBlocks) s u := by
  have presented := setCurrent_only c mA s
  have sampled := darkSampleTaken_only c (reading mA) (setCurrent c mA s)
  have lamp := darkSampleTaken_lamp c (reading mA) (setCurrent c mA s)
  refine ⟨_, exec_darkSample_due mA (darkSampleDue_run run enabled dark due passed stays), ?pin, ?channel,
    fun k other => ?others, ⟨darkJudged c (reading mA) (setCurrent c mA s), ?judged, darkSampleTaken_atEdge _ _ _⟩, ?frame⟩
  case pin =>
    rw [sampled.pins_eq (by decide)]
    exact setCurrent_current c mA s
  case channel =>
    refine (lamp c).trans ((if_pos rfl).trans ?_)
    rw [Lamp.darkSampled_eq, show (setCurrent c mA s).lamps.lamps[c].darkDue = some d from due]
    rfl
  case others => exact (lamp k).trans (if_neg other.symm)
  case judged => exact presented.seq (darkJudged_only _ _ _) (by decide) (by decide)
  case frame => exact presented.seq sampled (by decide) (by decide)

end

/-- Settles O38: a sample that is due is told by its effect, any other presents its current alone. -/
theorem lampSamplesAreJudged : Obligations.LampSamplesAreJudged := by
  unfold Obligations.LampSamplesAreJudged
  refine ⟨fun c mA d s => litProof_effect mA, fun c mA d s => darkSample_effect mA, fun c mA s ending => ?_,
    fun c mA s config => ⟨?_, ?_⟩⟩
  · exact ⟨_, exec_darkSample_undue mA (darkSampleDue_ending ending), setCurrent_only c mA s⟩
  · exact ⟨_, exec_litProof_undue mA (lampDue_config config).1, setCurrent_only c mA s⟩
  · exact ⟨_, exec_darkSample_undue mA (lampDue_config config).2, setCurrent_only c mA s⟩

end Sys2Proof.Machine
end

section
/-! PROOFS. CONFIG_BARRIER (R103): the configured flag, role, road side and six limits of one barrier channel. -/

namespace Sys2Proof.Machine

theorem setBarrier_config_only (s : State) (b : Fin 4) (f : Barrier → Barrier) :
    Only [.barriers, .config] s (s.setBarrier b f) := by
  intro b hb; cases b <;> simp_all [Same]

theorem fieldBarrierRole_byte {r : Nat} (h : r < 256) :
    fieldBarrierRole (byte r) = if r ≤ 1 then some (if r = 0 then .entry else .exit) else none := by
  unfold fieldBarrierRole
  rw [fieldFlag_byte h]
  match r with
  | 0 | 1 => rfl
  | n + 2 => rw [if_neg (by omega), if_neg (by omega)]; rfl

theorem fieldSide_byte {x : Nat} (h : x < 256) :
    fieldSide (byte x) = if x ≤ 1 then some (if x = 0 then .a else .b) else none := by
  unfold fieldSide
  rw [fieldFlag_byte h]
  match x with
  | 0 | 1 => rfl
  | n + 2 => rw [if_neg (by omega), if_neg (by omega)]; rfl

/-- The three limits of one motion lie in their ranges (6.1). -/
abbrev LimitsOk (a b d : Nat) : Prop := 200 ≤ a ∧ a ≤ 3000 ∧ 2000 ≤ b ∧ b ≤ 15000 ∧ 3000 ≤ d ∧ d ≤ 18000

theorem fieldLimits_bytes {a b d : Nat} (ha : a < 65536) (hb : b < 65536) (hd : d < 65536) :
    fieldLimits (byte (a / 256)) (byte a) (byte (b / 256)) (byte b) (byte (d / 256)) (byte d) =
      if LimitsOk a b d then some ⟨a, b, d⟩ else none := by
  unfold fieldLimits
  rw [rd16_be16 _ ha, rd16_be16 _ hb, rd16_be16 _ hd]
  simp only [within, LimitsOk, Bool.and_eq_true, decide_eq_true_eq, and_assoc]

/-- The channel's number, its three codes and both motions' limits lie in their ranges. -/
abbrev BarrierOk (n g r x a b d e f h : Nat) : Prop :=
  n < 4 ∧ g ≤ 1 ∧ r ≤ 1 ∧ x ≤ 1 ∧ LimitsOk a b d ∧ LimitsOk e f h

/-- CONFIG_BARRIER's payload as its fields spell it. -/
theorem setBarrierConfig_bytes {n g r x a b d e f h : Nat} (s : State) (hn : n < 256) (hg : g < 256) (hr : r < 256)
    (hx : x < 256) (ha : a < 65536) (hb : b < 65536) (hd : d < 65536) (he : e < 65536) (hf : f < 65536) (hh : h < 65536) :
    setBarrierConfig
        ([byte n, byte g, byte r, byte x] ++ be16 a ++ be16 b ++ be16 d ++ be16 e ++ be16 f ++ be16 h) s =
      if ok : BarrierOk n g r x a b d e f h then
        some (s.setBarrier ⟨n, ok.1⟩ fun y => { y with
          configured := decide (g = 1), role := if r = 0 then .entry else .exit, side := if x = 0 then .a else .b
          lower := ⟨a, b, d⟩, raise := ⟨e, f, h⟩ })
      else none := by
  simp only [be16, List.cons_append, List.nil_append, setBarrierConfig]
  rw [fieldIndex_byte hn, fieldFlag_byte hg, fieldBarrierRole_byte hr, fieldSide_byte hx, fieldLimits_bytes ha hb hd,
    fieldLimits_bytes he hf hh]
  by_cases ok : BarrierOk n g r x a b d e f h
  · obtain ⟨index, flag, role, side, lower, raise⟩ := id ok
    rw [dif_pos ok, dif_pos index, if_pos flag, if_pos role, if_pos side, if_pos lower, if_pos raise]
  · rw [dif_neg ok]
    split
    · next index flag role side lower raise =>
      simp only [Option.dite_none_right_eq_some, Option.ite_none_right_eq_some] at index flag role side lower raise
      exact absurd ⟨index.1, flag.1, role.1, side.1, lower.1, raise.1⟩ ok
    · rfl

/-- Settles O13: the four codes and six limits are read back and set together on the channel they name. -/
theorem configBarrierSetsTheChannel : Obligations.ConfigBarrierSetsTheChannel := by
  unfold Obligations.ConfigBarrierSetsTheChannel
  intro n g r x a b d e f h tag s hn hg hr hx ha hb hd he hf hh config free
  have allowed : Request.configBarrier.allowedIn s.part = true := by rw [config]; rfl
  have bytes := setBarrierConfig_bytes s.frameIn hn hg hr hx ha hb hd he hf hh
  dsimp only
  split
  · next ok =>
    rw [dif_pos ok] at bytes
    refine ⟨_, accepts_of_serve (q := .configBarrier) rfl free (by simp [be16]) rfl allowed
      (congrArg (configured · s.frameIn) bytes) (setBarrier_config_only _ _ _) (by decide), fun k => ?_⟩
    simp only [State.replied, State.frameIn, State.setHost_barriers, State.setBarrier_barriers, Fin.getElem_fin,
      upd_getElem, eq_comm]
  · next bad =>
    rw [dif_neg bad] at bytes
    exact refuses_of_serve (q := .configBarrier) rfl free (by simp [be16]) rfl allowed
      (congrArg (configured · s.frameIn) bytes)

end Sys2Proof.Machine
end

section
/-! PROOFS. Accepted contact changes of a barrier (R105 to R107, R110, R112, R113, R115, R116), and a barrier that settles or
is disturbed (R115, R116). -/

namespace Sys2Proof.Machine

/-! ### The pair presented and accepted (R105) -/

theorem Filter.accept_accepted (f : Filter) (v : Bool) : (f.accept v).accepted = v := by
  unfold Filter.accept
  split
  · next same => exact same
  · rfl

/-- The barrier with both contacts accepted in one step. -/
def Barrier.accepting (x : Barrier) (up down : Bool) : Barrier :=
  { x with up := x.up.accept up, down := x.down.accept down }

theorem Barrier.accepting_up (x : Barrier) (up down : Bool) : (x.accepting up down).up.accepted = up :=
  Filter.accept_accepted _ _

theorem Barrier.accepting_down (x : Barrier) (up down : Bool) : (x.accepting up down).down.accepted = down :=
  Filter.accept_accepted _ _

theorem setContacts_only (b : Fin 4) (up down : Bool) (s : State) : Only [.pins] s (setContacts b up down s) :=
  setPins_only s _

/-- The state in which a change of the contacts is judged: the inputs presented and both of them accepted. -/
def contactsTaken (b : Fin 4) (up down : Bool) (s : State) : State :=
  (setContacts b up down s).setBarrier b fun x => x.accepting up down

section
variable (b : Fin 4) (up down : Bool) (s : State)

theorem contactsTaken_only : Only [.pins, .barriers] s (contactsTaken b up down s) :=
  (setContacts_only b up down s).seq (setBarrier_only' _ b (fun x => x.accepting up down) rfl) (by decide) (by decide)

theorem contactsTaken_barriers (a : Fin 4) :
    (contactsTaken b up down s).barriers[a] = if b = a then s.barriers[a].accepting up down else s.barriers[a] :=
  setBarrier_getElem _ b _ a

theorem contactsTaken_self : (contactsTaken b up down s).barriers[b] = s.barriers[b].accepting up down :=
  (contactsTaken_barriers b up down s b).trans (if_pos rfl)

end

section
variable {b : Fin 4} (up down : Bool) {s : State}

/-- In CONFIG, and for a channel not configured, the inputs take the levels given and nothing else changes (R103, R117). -/
theorem contactChange_unsampled (unsampled : s.part = .config ∨ s.barriers[b].configured = false) :
    ∃ t, exec (.barrierContactChange b up down) s = .next t ∧ t.pins.contacts[b] = ⟨up, down⟩ ∧
      (∀ a : Fin 4, a ≠ b → t.pins.contacts[a] = s.pins.contacts[a]) ∧ Only [.pins] s t := by
  have ignored : s.contactsSampled b = false := by
    unfold State.contactsSampled
    rcases unsampled with config | unused
    · rw [config]; rfl
    · rw [unused, Bool.and_false]
  refine ⟨setContacts b up down s, ?_, ?_, fun a other => ?_, setContacts_only b up down s⟩
  · exact congrArg Host.Outcome.next
      (if_neg (c := (setContacts b up down s).contactsSampled b = true) (Bool.eq_false_iff.1 ignored))
  · simp [setContacts, ignored]
  · simp [setContacts, Fin.val_ne_of_ne other.symm]

variable (run : s.part = .run) (configured : s.barriers[b].configured = true)
include run configured

theorem exec_contactChange : exec (.barrierContactChange b up down) s =
    .next (react (judgeBarrier b (contactsTaken b up down s))) := by
  have sampled : s.contactsSampled b = true := by
    unfold State.contactsSampled
    rw [run, configured]
    rfl
  exact congrArg Host.Outcome.next (if_pos (c := (setContacts b up down s).contactsSampled b = true) sampled)

/-- A pair that is kept: the barrier is what judging leaves, an end of BARRIER_DISTURBED is told where its flag has gone
(R116), and a change of state reaches the Sequencer. -/
theorem contactChange_kept {x : Barrier} (judged : (s.barriers[b].accepting up down).judge s.now = .keep x) :
    ∃ v, exec (.barrierContactChange b up down) s =
        .next (react (
          let u := if s.barriers[b].disturbed && !x.disturbed then endCondition .barrierDisturbed b.val v else v
          if s.barriers[b].state = x.state then u else barrierChanged u)) ∧
      v.barriers[b] = x ∧ (∀ a : Fin 4, a ≠ b → v.barriers[a] = s.barriers[a]) ∧ Only [.pins, .barriers] s v := by
  have self := contactsTaken_self b up down s
  have taken := contactsTaken_only b up down s
  have here : (contactsTaken b up down s).barriers[b].judge (contactsTaken b up down s).now = .keep x := by
    rw [self]
    exact judged
  refine ⟨(contactsTaken b up down s).setBarrier b fun _ => x, ?exec, ?self, fun a other => ?others, ?frame⟩
  case exec =>
    rw [exec_contactChange up down run configured]
    unfold judgeBarrier keepBarrier
    rw [here]
    dsimp only
    rw [self]
    rfl
  case self => rw [setBarrier_getElem, if_pos rfl]
  case others => rw [setBarrier_getElem, if_neg other.symm, contactsTaken_barriers, if_neg other.symm]
  case frame =>
    refine taken.trans ((setBarrier_only' _ b (fun _ => x) ?_).mono (by decide))
    exact Barrier.judge_settings here

/-- A pair kept with the disturbed flag standing and the state unchanged. -/
theorem contactChange_stays {x : Barrier} (judged : (s.barriers[b].accepting up down).judge s.now = .keep x)
    (flag : x.disturbed = s.barriers[b].disturbed) (state : x.state = s.barriers[b].state) :
    ∃ u, exec (.barrierContactChange b up down) s = .next (react u) ∧ u.barriers[b] = x ∧
      (∀ a : Fin 4, a ≠ b → u.barriers[a] = s.barriers[a]) ∧ Only [.pins, .barriers] s u := by
  have kept := contactChange_kept up down run configured judged
  simp only [flag, Bool.and_not_self, state, if_true] at kept
  exact kept

/-- A pair kept with the disturbed flag standing and the state changed: the Sequencer takes the change. -/
theorem contactChange_moves {x : Barrier} (judged : (s.barriers[b].accepting up down).judge s.now = .keep x)
    (flag : x.disturbed = s.barriers[b].disturbed) (moved : s.barriers[b].state ≠ x.state) :
    ∃ v, exec (.barrierContactChange b up down) s = .next (react (barrierChanged v)) ∧ v.barriers[b] = x ∧
      (∀ a : Fin 4, a ≠ b → v.barriers[a] = s.barriers[a]) ∧ Only [.pins, .barriers] s v := by
  have kept := contactChange_kept up down run configured judged
  simp only [flag, Bool.and_not_self, if_neg moved] at kept
  exact kept

end

/-! ### The pair judged by the barrier's state (R107, R110, R112, R113, R115, R116) -/

section
variable {x : Barrier} (now : Time)

theorem Barrier.judge_held (state : x.state = some .heldUp) (down : x.down.accepted = false) :
    x.judge now = .keep { x with dropped := lostMark x.dropped x.up.accepted now } := by
  unfold Barrier.judge
  rw [state, down, Bool.and_false]
  rfl

theorem Barrier.judge_down (state : x.state = some .down) (up : x.up.accepted = false) :
    x.judge now = .keep { x with
      lostDown := lostMark x.lostDown x.down.accepted now, disturbed := x.disturbed && !x.down.accepted } := by
  unfold Barrier.judge
  rw [state, up, Bool.false_and]
  rfl

theorem Barrier.judge_fault (state : x.state = some .fault) : x.judge now = .keep (x.settle now) := by
  unfold Barrier.judge
  rw [state]

/-- Both contacts made is the CONTACTS fault in every state but FAULT (R112). -/
theorem Barrier.judge_contacts {st : BarrierState} (state : x.state = some st) (live : st ≠ .fault)
    (up : x.up.accepted = true) (down : x.down.accepted = true) : x.judge now = .contactsFault := by
  unfold Barrier.judge
  rw [state, up, down]
  cases st with
  | fault => exact absurd rfl live
  | heldUp | lowering | down | raising => rfl

theorem Barrier.settle_eq : x.settle now = { x with
    settled := if x.down.accepted = true ∧ x.up.accepted = false then some (x.settled.getD now) else none } := by
  unfold Barrier.settle
  simp only [Bool.and_eq_true, Bool.not_eq_true']
  split <;> rfl

end

/-! ### What a change of the contacts makes of a barrier -/

section
variable {b : Fin 4} {s : State} (run : s.part = .run) (configured : s.barriers[b].configured = true)
include run configured

/-- LOWERING with DOWN made is DOWN (R107). -/
theorem contactChange_lowered (state : s.barriers[b].state = some .lowering) :
    ∃ v, exec (.barrierContactChange b false true) s = .next (react (barrierChanged v)) ∧
      v.barriers[b].state = some .down ∧ v.barriers[b].holdOut = false ∧ v.barriers[b].raiseOut = false ∧
      v.barriers[b].phase = none ∧ v.barriers[b].down.accepted = true ∧ v.barriers[b].up.accepted = false ∧
      (∀ a : Fin 4, a ≠ b → v.barriers[a] = s.barriers[a]) ∧ Only [.pins, .barriers] s v := by
  have judged := Barrier.judge_lowered (x := s.barriers[b].accepting false true) state s.now
    (Barrier.accepting_up _ _ _) (Barrier.accepting_down _ _ _)
  obtain ⟨v, steps, self, others, frame⟩ := contactChange_moves false true run configured judged rfl
    fun same => nomatch state.symm.trans same
  refine ⟨v, steps, ?_⟩
  rw [self]
  exact ⟨rfl, rfl, rfl, rfl, Barrier.accepting_down _ false true, Barrier.accepting_up _ false true, others, frame⟩

/-- RAISING with UP made is HELD_UP (R110). -/
theorem contactChange_raised (state : s.barriers[b].state = some .raising) :
    ∃ v, exec (.barrierContactChange b true false) s = .next (react (barrierChanged v)) ∧
      v.barriers[b].state = some .heldUp ∧ v.barriers[b].holdOut = true ∧ v.barriers[b].raiseOut = false ∧
      v.barriers[b].phase = none ∧ v.barriers[b].up.accepted = true ∧ v.barriers[b].down.accepted = false ∧
      (∀ a : Fin 4, a ≠ b → v.barriers[a] = s.barriers[a]) ∧ Only [.pins, .barriers] s v := by
  have judged := Barrier.judge_raised (x := s.barriers[b].accepting true false) state s.now
    (Barrier.accepting_up _ _ _) (Barrier.accepting_down _ _ _)
  obtain ⟨v, steps, self, others, frame⟩ := contactChange_moves true false run configured judged rfl
    fun same => nomatch state.symm.trans same
  refine ⟨v, steps, ?_⟩
  rw [self]
  exact ⟨rfl, rfl, rfl, rfl, Barrier.accepting_up _ true false, Barrier.accepting_down _ true false, others, frame⟩

/-- A motion in LEAVE comes off its contact: TRAVEL from now (R107, R110). -/
theorem contactChange_leaves (motion : s.barriers[b].state = some .lowering ∨ s.barriers[b].state = some .raising)
    (phase : s.barriers[b].phase = some .leave) :
    ∃ u, exec (.barrierContactChange b false false) s = .next (react u) ∧
      u.barriers[b].state = s.barriers[b].state ∧ u.barriers[b].phase = some .travel ∧
      u.barriers[b].phaseStart = some s.now ∧ u.barriers[b].motionStart = s.barriers[b].motionStart ∧
      (∀ a : Fin 4, a ≠ b → u.barriers[a] = s.barriers[a]) ∧ Only [.pins, .barriers] s u := by
  obtain ⟨m, limits⟩ : ∃ m, (s.barriers[b].state = some .lowering ∧ m = s.barriers[b].lower) ∨
      (s.barriers[b].state = some .raising ∧ m = s.barriers[b].raise) :=
    motion.elim (fun state => ⟨_, .inl ⟨state, rfl⟩⟩) fun state => ⟨_, .inr ⟨state, rfl⟩⟩
  obtain ⟨base, left, reached, moving, bounds⟩ := Barrier.inMotion_of (x := s.barriers[b].accepting false false) limits
  obtain ⟨leaves, short⟩ := bounds false (Barrier.accepting_up _ _ _) (Barrier.accepting_down _ _ _)
  have judged := Barrier.judge_of_motion moving s.now short
  have off : (s.barriers[b].accepting false false).toTravel s.now =
      { s.barriers[b].accepting false false with phase := some .travel, phaseStart := some s.now } := if_pos phase
  rw [leaves, if_neg Bool.false_ne_true, off] at judged
  obtain ⟨u, steps, self, others, frame⟩ := contactChange_stays false false run configured judged rfl rfl
  refine ⟨u, steps, ?_⟩
  rw [self]
  exact ⟨rfl, rfl, rfl, rfl, others, frame⟩

/-- In HELD_UP the dropped mark stands from the loss of UP until it is made again (R113). -/
theorem contactChange_held (state : s.barriers[b].state = some .heldUp) (up : Bool) :
    ∃ u, exec (.barrierContactChange b up false) s = .next (react u) ∧ u.barriers[b].state = some .heldUp ∧
      u.barriers[b].dropped = lostMark s.barriers[b].dropped up s.now ∧ u.barriers[b].up.accepted = up ∧
      (∀ a : Fin 4, a ≠ b → u.barriers[a] = s.barriers[a]) ∧ Only [.pins, .barriers] s u := by
  have judged := Barrier.judge_held (x := s.barriers[b].accepting up false) s.now state (Barrier.accepting_down _ _ _)
  rw [Barrier.accepting_up] at judged
  obtain ⟨u, steps, self, others, frame⟩ := contactChange_stays up false run configured judged rfl rfl
  refine ⟨u, steps, ?_⟩
  rw [self]
  exact ⟨state, rfl, Barrier.accepting_up _ up false, others, frame⟩

/-- In DOWN the lost-DOWN mark stands from the loss of DOWN until it is made again, which ends BARRIER_DISTURBED (R116). -/
theorem contactChange_down (state : s.barriers[b].state = some .down) (down : Bool) :
    ∃ v, exec (.barrierContactChange b false down) s =
        .next (react (if s.barriers[b].disturbed && down then endCondition .barrierDisturbed b.val v else v)) ∧
      v.barriers[b] = { s.barriers[b].accepting false down with
        lostDown := lostMark s.barriers[b].lostDown down s.now, disturbed := s.barriers[b].disturbed && !down } ∧
      (∀ a : Fin 4, a ≠ b → v.barriers[a] = s.barriers[a]) ∧ Only [.pins, .barriers] s v := by
  have judged := Barrier.judge_down (x := s.barriers[b].accepting false down) s.now state (Barrier.accepting_up _ _ _)
  rw [Barrier.accepting_down] at judged
  obtain ⟨v, steps, self, others, frame⟩ := contactChange_kept false down run configured judged
  refine ⟨v, ?_, self, others, frame⟩
  have ends : (s.barriers[b].disturbed && !(s.barriers[b].disturbed && !down)) = (s.barriers[b].disturbed && down) := by
    cases s.barriers[b].disturbed <;> cases down <;> rfl
  rw [steps]
  dsimp only
  rw [if_pos (show s.barriers[b].state = (s.barriers[b].accepting false down).state from rfl)]
  exact congrArg (fun c : Bool => Host.Outcome.next (react (if c then endCondition .barrierDisturbed b.val v else v))) ends

/-- In FAULT the settled mark stands while DOWN is made and UP open (R115). -/
theorem contactChange_fault (state : s.barriers[b].state = some .fault) (up down : Bool) :
    ∃ u, exec (.barrierContactChange b up down) s = .next (react u) ∧
      u.barriers[b] = { s.barriers[b] with
        up := u.barriers[b].up, down := u.barriers[b].down
        settled := if down = true ∧ up = false then some (s.barriers[b].settled.getD s.now) else none } ∧
      u.barriers[b].up.accepted = up ∧ u.barriers[b].down.accepted = down ∧
      (∀ a : Fin 4, a ≠ b → u.barriers[a] = s.barriers[a]) ∧ Only [.pins, .barriers] s u := by
  have judged := Barrier.judge_fault (x := s.barriers[b].accepting up down) s.now state
  rw [Barrier.settle_eq, Barrier.accepting_up, Barrier.accepting_down] at judged
  obtain ⟨u, steps, self, others, frame⟩ := contactChange_stays up down run configured judged rfl rfl
  refine ⟨u, steps, ?_⟩
  rw [self]
  exact ⟨rfl, Barrier.accepting_up _ up down, Barrier.accepting_down _ up down, others, frame⟩

/-- Both contacts made is a CONTACTS fault (R112, R114). -/
theorem contactChange_contacts {x : BarrierState} (state : s.barriers[b].state = some x) (live : x ≠ .fault) :
    ∃ t, exec (.barrierContactChange b true true) s = .next t ∧ t.barriers[b].state = some .fault ∧
      t.barriers[b].holdOut = false ∧ t.barriers[b].raiseOut = false ∧ t.barriers[b].detail = 7 ∧
      t.counters[(19 : Fin 32)].value = s.counters[(19 : Fin 32)].bumped.value ∧
      (∃ v, v.barriers[b] = { s.barriers[b] with up := v.barriers[b].up, down := v.barriers[b].down } ∧
        v.barriers[b].up.accepted = true ∧ v.barriers[b].down.accepted = true ∧
        (∀ a : Fin 4, a ≠ b → v.barriers[a] = s.barriers[a]) ∧ Only [.pins, .barriers] s v ∧ BarrierFails b 7 v t) ∧
      Only ([.pins, .free] ++ reactBlocks) s t := by
  have self := contactsTaken_self b true true s
  have taken := contactsTaken_only b true true s
  have judged : (contactsTaken b true true s).barriers[b].judge (contactsTaken b true true s).now = .contactsFault := by
    rw [self]
    exact Barrier.judge_contacts _ state live (Barrier.accepting_up _ _ _) (Barrier.accepting_down _ _ _)
  have steps : exec (.barrierContactChange b true true) s =
      .next (react (barrierFault b 7 (contactsTaken b true true s))) := by
    rw [exec_contactChange true true run configured]
    unfold judgeBarrier
    rw [judged]
    rfl
  obtain ⟨t, rfl, fault, holdOff, raiseOff, detail, -, -, -, -, counted, -, fails, frame⟩ :=
    barrierFault_taken b 7 (contactsTaken b true true s)
  refine ⟨_, steps, fault, holdOff, raiseOff, detail, counted, ⟨contactsTaken b true true s, ?_, ?_, ?_, fun a other => ?_,
    taken, fails⟩, taken.seq frame (by decide) (by decide)⟩
  · rw [self]; rfl
  · rw [self]; exact Barrier.accepting_up _ _ _
  · rw [self]; exact Barrier.accepting_down _ _ _
  · rw [contactsTaken_barriers, if_neg other.symm]

end

/-- Settles O39: the pair is accepted, then judged by the barrier's state; a pair kept leaves the barrier as judged. -/
theorem barrierContactsMoveTheBarrier : Obligations.BarrierContactsMoveTheBarrier := by
  unfold Obligations.BarrierContactsMoveTheBarrier
  refine ⟨fun b up down s => contactChange_unsampled up down, fun b s run configured calm => ⟨contactChange_lowered run configured,
    contactChange_raised run configured, contactChange_leaves run configured, fun state mark => ?dropped,
    fun state mark => ?lost⟩, fun b s run configured => ⟨fun state _ => ?held, fun state => ?down,
    contactChange_fault run configured⟩, fun b x s run configured => contactChange_contacts run configured⟩
  case dropped =>
    obtain ⟨u, steps, held, dropped, -, -, frame⟩ := contactChange_held run configured state false
    rw [mark] at dropped
    exact ⟨u, steps, held, dropped, frame⟩
  case lost =>
    obtain ⟨u, steps, self, -, frame⟩ := contactChange_down run configured state false
    rw [Bool.and_false] at steps
    refine ⟨u, steps, ?_⟩
    rw [self, mark]
    exact ⟨state, rfl, frame⟩
  case held =>
    obtain ⟨u, steps, held, dropped, up, others, frame⟩ := contactChange_held run configured state true
    exact ⟨u, steps, held, dropped, up, others, frame⟩
  case down =>
    obtain ⟨v, steps, self, others, frame⟩ := contactChange_down run configured state true
    rw [Bool.and_true] at steps
    refine ⟨v, steps, ?_⟩
    rw [self]
    exact ⟨state, rfl, Bool.and_false _, Barrier.accepting_down _ false true, rfl, rfl, others, frame⟩

/-! ### A barrier settles or is disturbed (R115, R116) -/

section
variable {b : Fin 4} {m : Time} {s : State} (run : s.part = .run)
include run

theorem exec_barrierSettled (fault : s.barriers[b].state = some .fault) (settled : s.barriers[b].settled = some m)
    (rest : 2000 ≤ elapsed s.now m) : exec (.barrierSettled b) s = .next (react (settleBarrier b s)) := by
  have due : (s.part == .run && s.barriers[b].settledDue s.now) = true := by
    unfold Barrier.settledDue
    rw [run, fault, settled]
    exact decide_eq_true rest
  exact congrArg Host.Outcome.next (if_pos due)

theorem exec_barrierLostDown (state : s.barriers[b].state = some .down) (lost : s.barriers[b].down.accepted = false)
    (calm : s.barriers[b].disturbed = false) (mark : s.barriers[b].lostDown = some m) (aged : 2000 ≤ elapsed s.now m) :
    exec (.barrierLostDown b) s = .next (react
      (raise .barrierDisturbed b.val 0 (s.setBarrier b fun x => { x with disturbed := true }))) := by
  have due : (s.part == .run && s.barriers[b].lostDownDue s.now) = true := by
    unfold Barrier.lostDownDue
    rw [run, state, lost, calm, mark]
    exact decide_eq_true aged
  exact congrArg Host.Outcome.next (if_pos due)

end

/-- Settles O41: 2,000 ms from the mark the rule is due, and the command carries it out. -/
theorem barriersSettleOrAreDisturbed : Obligations.BarriersSettleOrAreDisturbed := by
  unfold Obligations.BarriersSettleOrAreDisturbed
  exact ⟨fun b m s => exec_barrierSettled, fun b m s => exec_barrierLostDown⟩

end Sys2Proof.Machine
end

section
/-! PROOFS. What the Fault Manager tells of its records (R137), where a raise goes (R122, R124), and what an end makes of a
slot (R126, R127). -/

namespace Sys2Proof.Machine

/-! ### A change told does not read the Fault Manager (R137) -/

/-- The state with another Fault Manager and more free values taken. -/
def State.aside (g : FaultManager → FaultManager) (n : Nat) (s : State) : State :=
  { s with faults := g s.faults, free := s.free + n }

section
variable (g : FaultManager → FaultManager) (m : Nat) (s : State)

theorem queueNotice_aside (x : Notice) : queueNotice x (s.aside g m) = (queueNotice x s).aside g m := by
  unfold queueNotice
  rw [apply_ite (State.aside g m)]
  rfl

theorem writeLog_aside (k : LogKind) (o : Nat) (d : List Byte) :
    writeLog k o d (s.aside g m) = (writeLog k o d s).aside g m := by
  unfold writeLog
  rw [apply_ite (State.aside g m)]
  refine ite_congr rfl (fun _ => ?_) fun _ => rfl
  dsimp only
  rw [apply_ite (State.aside g m), ← queueNotice_aside]
  rfl

theorem faultTold_aside (r : FaultRecord) (act : Nat) (n after slot : Byte) (req : Nat) :
    faultTold r act n after slot req (s.aside g m) = (faultTold r act n after slot req s).aside g m := by
  unfold faultTold
  rw [writeLog_aside, queueNotice_aside]

end

theorem faultTold_faults (r : FaultRecord) (act : Nat) (n after slot : Byte) (req : Nat) (s : State) :
    (faultTold r act n after slot req s).faults = s.faults :=
  ((writeLog_only .fault r.object _ s).seq (queueNotice_only _ _) (cs := [.log, .notices]) (by decide)
    (by decide)).faults_eq (by decide)

theorem emit_faultOuts (act : FaultAction) (r : FaultRecord) (n : Byte) (after : Option FaultState)
    (slot : Option (Fin 32)) (req : Requester) (s : State) :
    emit (faultOuts act r n after slot req) s =
      faultTold r act.code n (codeOrFF (after.map FaultState.code)) (codeOrFF (slot.map Fin.val)) req.code s := rfl

/-- What a change hands on reads nothing of the Fault Manager. -/
def FaultStep.Aside (x : FaultStep) : Prop :=
  ∀ (g : FaultManager → FaultManager) (s : State), emit x.2 (s.setFaults g) = (emit x.2 s).setFaults g

theorem FaultStep.aside_silent (f : FaultManager) : FaultStep.Aside (f, []) := fun _ _ => rfl

theorem FaultStep.aside_faultOuts (f : FaultManager) (act : FaultAction) (r : FaultRecord) (n : Byte)
    (after : Option FaultState) (slot : Option (Fin 32)) (req : Requester) :
    FaultStep.Aside (f, faultOuts act r n after slot req) := fun g s => by
  dsimp only
  rw [emit_faultOuts, emit_faultOuts]
  exact faultTold_aside g 0 s _ _ _ _ _ _

theorem FaultManager.endAt_aside (f : FaultManager) (now : Time) (i : Fin 32) : (f.endAt now i).Aside := by
  unfold FaultManager.endAt FaultManager.restate FaultManager.remove
  cases f.table[i].record with
  | none => exact FaultStep.aside_silent _
  | some r =>
    dsimp only
    cases r.state with
    | activeUnacked => exact FaultStep.aside_faultOuts _ _ _ _ _ _ _
    | activeAcked => exact FaultStep.aside_faultOuts _ _ _ _ _ _ _
    | clearedUnacked => exact FaultStep.aside_silent _

/-! ### Changes of the Fault Manager on the whole state -/

theorem applyFault_congr {g h : FaultManager → FaultStep} {s : State} (same : g s.faults = h s.faults) :
    applyFault g s = applyFault h s := by
  unfold applyFault
  rw [same]

theorem applyFault_idle {g : FaultManager → FaultStep} {s : State} (idle : g s.faults = (s.faults, [])) :
    applyFault g s = s := by
  unfold applyFault
  rw [idle]
  rfl

/-- One change after another: the second acts on the state that the first has left and told. -/
theorem applyFault_next {g h : FaultManager → FaultStep} {s : State} (aside : (g s.faults).Aside) :
    applyFault (fun f => (g f).next h) s = applyFault h (applyFault g s) := by
  have first := applyFault_faults g s
  have second : applyFault h (applyFault g s) =
      emit (h (g s.faults).1).2 ((applyFault g s).setFaults fun _ => (h (g s.faults).1).1) := by
    rw [← first]
    rfl
  rw [second]
  unfold applyFault
  rw [← aside]
  exact List.foldl_append

theorem applyFault_endAt (i : Fin 32) (s : State) : applyFault (fun f => f.endAt s.now i) s = endAtSlot i s := by
  unfold applyFault endAtSlot FaultManager.endAt FaultManager.restate FaultManager.remove
  dsimp only
  cases s.faults.table[i].record with
  | none => rfl
  | some r =>
    dsimp only
    cases r.state <;> rfl

/-- What the end of its condition makes of a slot (R127). -/
def FaultSlot.ended (x : FaultSlot) (now : Time) : FaultSlot :=
  match x.record with
  | none => x
  | some r =>
    match r.state with
    | .activeUnacked => { x with record := some { r with state := .clearedUnacked, last := now }, aged := false }
    | .activeAcked => ⟨none, false, none, false⟩
    | .clearedUnacked => x

/-- A slot holds no active record. -/
def FaultSlot.Quiet (x : FaultSlot) : Prop := ∀ r, x.record = some r → r.state = .clearedUnacked

section
variable {x : FaultSlot} {r : FaultRecord} (holds : x.record = some r) (now : Time)
include holds

theorem FaultSlot.ended_unacked (unacked : r.state = .activeUnacked) :
    x.ended now = { x with record := some { r with state := .clearedUnacked, last := now }, aged := false } := by
  unfold FaultSlot.ended
  simp only [holds, unacked]

theorem FaultSlot.ended_acked (acked : r.state = .activeAcked) : x.ended now = ⟨none, false, none, false⟩ := by
  unfold FaultSlot.ended
  simp only [holds, acked]

theorem FaultSlot.ended_cleared (cleared : r.state = .clearedUnacked) : x.ended now = x := by
  unfold FaultSlot.ended
  simp only [holds, cleared]

end

theorem FaultSlot.ended_empty {x : FaultSlot} (empty : x.record = none) (now : Time) : x.ended now = x := by
  unfold FaultSlot.ended
  simp only [empty]

theorem FaultSlot.ended_of_quiet {x : FaultSlot} (quiet : x.Quiet) (now : Time) : x.ended now = x := by
  cases holds : x.record with
  | none => exact FaultSlot.ended_empty holds now
  | some r => exact FaultSlot.ended_cleared holds now (quiet r holds)

theorem endAtSlot_only (i : Fin 32) (s : State) : Only (.faults :: recordBlocks) s (endAtSlot i s) := by
  rw [← applyFault_endAt]
  exact applyFault_only _ s

theorem endAtSlot_table (i : Fin 32) (s : State) :
    (endAtSlot i s).faults.table = upd s.faults.table i fun x => x.ended s.now := by
  unfold upd FaultSlot.ended endAtSlot
  dsimp only
  cases holds : s.faults.table[i].record with
  | none => exact (Vector.set_getElem_self _).symm
  | some r =>
    dsimp only
    cases r.state with
    | activeUnacked => exact congrArg FaultManager.table (faultTold_faults _ _ _ _ _ _ _)
    | activeAcked => exact congrArg FaultManager.table (faultTold_faults _ _ _ _ _ _ _)
    | clearedUnacked => exact (Vector.set_getElem_self _).symm

theorem endAtSlot_of_quiet {i : Fin 32} {s : State} (quiet : s.faults.table[i].Quiet) : endAtSlot i s = s := by
  unfold endAtSlot
  cases holds : s.faults.table[i].record with
  | none => rfl
  | some r => simp only [quiet r holds]

/-! ### The test of TABLE_FULL (R126) -/

theorem mem_allGeneral (i : Fin 32) : i ∈ allGeneral ↔ i ≠ 31 := by revert i; decide

/-- The general slots free depend on which general slots hold a record. -/
theorem generalFree_congr {s t : State}
    (same : ∀ j : Fin 32, j ≠ 31 → t.faults.table[j].record.isNone = s.faults.table[j].record.isNone) :
    generalFree t = generalFree s :=
  congrArg List.length (List.filter_congr fun j general => same j ((mem_allGeneral j).1 general))

theorem tableFullTested_of_quiet {s : State} (quiet : s.faults.table[(31 : Fin 32)].Quiet) : tableFullTested s = s := by
  unfold tableFullTested
  rw [endAtSlot_of_quiet quiet, ite_self]

theorem tableFullTested_of_few {s : State} (few : ¬ 4 ≤ generalFree s) : tableFullTested s = s := if_neg few

theorem tableFullTested_table (s : State) (j : Fin 32) :
    (tableFullTested s).faults.table[j] =
      if 4 ≤ generalFree s ∧ j = 31 then s.faults.table[j].ended s.now else s.faults.table[j] := by
  unfold tableFullTested
  by_cases room : 4 ≤ generalFree s
  · rw [if_pos room, endAtSlot_table, upd_getFin]
    simp only [room, true_and, eq_comm]
  · rw [if_neg room, if_neg fun h => room h.1]

theorem applyFault_testTableFull (s : State) : applyFault (fun f => f.testTableFull s.now) s = tableFullTested s := by
  by_cases room : 4 ≤ generalFree s
  · cases active : s.faults.table[(31 : Fin 32)].record.any FaultRecord.active with
    | true =>
      have tested : s.faults.testTableFull s.now = s.faults.endAt s.now 31 :=
        if_pos (by rw [active, Bool.true_and]; exact decide_eq_true room)
      rw [applyFault_congr (h := fun f => f.endAt s.now 31) tested, applyFault_endAt]
      exact (if_pos room).symm
    | false =>
      have quiet : s.faults.table[(31 : Fin 32)].Quiet := fun r holds => by
        rw [holds] at active
        simpa [FaultRecord.active] using active
      rw [tableFullTested_of_quiet quiet]
      exact applyFault_idle (if_neg (by rw [active, Bool.false_and]; decide))
  · rw [tableFullTested_of_few room]
    exact applyFault_idle (if_neg fun h => room (of_decide_eq_true (Bool.and_eq_true_iff.1 h).2))

theorem applyFault_testTableFull_at {now : Time} {s : State} (same : s.now = now) :
    applyFault (fun f => f.testTableFull now) s = tableFullTested s := by
  rw [← same]
  exact applyFault_testTableFull s

/-! ### The end of a condition (R127) -/

theorem ended_of_found {k : FaultKind} {o : Nat} {i : Fin 32} {s : State} (lasting : k.isEvent = false)
    (found : s.faults.find k o = some i) :
    applyFault (fun f => f.ended s.now k o) s = tableFullTested (endAtSlot i s) := by
  have ended : s.faults.ended s.now k o = (s.faults.endAt s.now i).next fun f => f.testTableFull s.now := by
    unfold FaultManager.ended
    rw [lasting, found]
    rfl
  rw [applyFault_congr (h := fun f => (f.endAt s.now i).next fun f => f.testTableFull s.now) ended,
    applyFault_next (g := fun f => f.endAt s.now i) (s.faults.endAt_aside s.now i), applyFault_endAt]
  exact applyFault_testTableFull_at ((endAtSlot_only i s).clock_eq (by decide)).1

theorem endCondition_of_found {k : FaultKind} {o : Nat} {i : Fin 32} {s : State} (lasting : k.isEvent = false)
    (found : s.faults.find k o = some i) :
    endCondition k o s = deriveMode .ended (tableFullTested (endAtSlot i s)) :=
  congrArg (deriveMode .ended) (ended_of_found lasting found)

/-- The end of an event kind, and of a record that is not there, is ignored (R127). -/
theorem endCondition_ignored {k : FaultKind} {o : Nat} {s : State} (ignored : k.isEvent = true ∨ s.faults.find k o = none) :
    endCondition k o s = deriveMode .ended s := by
  refine congrArg (deriveMode .ended) (applyFault_idle ?_)
  unfold FaultManager.ended
  cases event : k.isEvent with
  | true => rfl
  | false =>
    have absent : s.faults.find k o = none := ignored.resolve_left (by rw [event]; decide)
    rw [absent]
    rfl

/-- The end of a condition without the test of TABLE_FULL, as it precedes a raise in the same step (R126). -/
def endedAlone (e : FaultKind) (o : Nat) (s : State) : State :=
  match s.faults.find e o with
  | some i => if e.isEvent then s else endAtSlot i s
  | none => s

theorem applyFault_endOf (e : FaultKind) (o : Nat) (s : State) :
    applyFault (fun f => f.endOf s.now e o) s = endedAlone e o s := by
  unfold endedAlone
  cases found : s.faults.find e o with
  | none =>
    refine applyFault_idle ?_
    unfold FaultManager.endOf
    rw [found]
    exact ite_self _
  | some i =>
    cases event : e.isEvent with
    | true => exact applyFault_idle (if_pos event)
    | false =>
      refine Eq.trans (applyFault_congr (h := fun f => f.endAt s.now i) ?_) (applyFault_endAt i s)
      unfold FaultManager.endOf
      rw [event, found]
      rfl

theorem endedAlone_only (e : FaultKind) (o : Nat) (s : State) : Only (.faults :: recordBlocks) s (endedAlone e o s) := by
  rw [← applyFault_endOf]
  exact applyFault_only _ s

theorem endThenRaise_told (e k : FaultKind) (o d : Nat) (s : State) :
    endThenRaise (some e) k o d s =
      deriveMode .ended (tableFullTested (raise k o d (deriveMode .ended (endedAlone e o s)))) := by
  have frame := (endedAlone_only e o s).trans (deriveMode_only .ended (endedAlone e o s))
  have now := (frame.seq (raise_only k o d _) (cs := faultBlocks) (by decide) (by decide)).clock_eq (by decide)
  unfold endThenRaise
  dsimp only
  rw [applyFault_endOf, applyFault_testTableFull_at now.1]

/-! ### The record of a kind and object (R122) -/

theorem find_holds {f : FaultManager} {k : FaultKind} {o : Nat} {i : Fin 32} (found : f.find k o = some i) :
    ∃ r, f.table[i].record = some r ∧ r.kind = k ∧ r.object = o := by
  unfold FaultManager.find at found
  have passes := List.find?_some found
  obtain ⟨r, holds, same⟩ := (Option.any_eq_true _ _).1 passes
  exact ⟨r, holds, by simpa using same⟩

theorem find_none_iff {f : FaultManager} {k : FaultKind} {o : Nat} :
    f.find k o = none ↔ ∀ (i : Fin 32) (r : FaultRecord), f.table[i].record = some r → ¬(r.kind = k ∧ r.object = o) := by
  unfold FaultManager.find
  rw [List.find?_eq_none]
  simp only [Option.any_eq_true, Bool.and_eq_true, beq_iff_eq, not_exists, not_and]
  exact ⟨fun h i r holds => h i (mem_allFaultSlots i) r holds, fun h i _ r holds => h i r holds⟩

/-! ### Where a raise goes (R123 to R125) -/

theorem allGeneral_sorted : allGeneral.Pairwise fun i j => i.val < j.val := by decide

/-- The lowest free general slot (R124). -/
theorem freeSlot_eq {f : FaultManager} {i : Fin 32} (general : i ≠ 31) (free : f.table[i].record = none)
    (below : ∀ j : Fin 32, j < i → f.table[j].record.isSome = true) :
    (allGeneral.find? fun i => f.table[i].record.isNone) = some i := by
  refine (find?_sorted allGeneral_sorted _ ((mem_allGeneral i).2 general)).2 ⟨by rw [free]; rfl, fun j _ lower => ?_⟩
  rw [← Option.not_isSome, below j lower]
  rfl

theorem freeSlot_none {f : FaultManager} (full : ∀ j : Fin 32, j ≠ 31 → f.table[j].record.isSome = true) :
    (allGeneral.find? fun i => f.table[i].record.isNone) = none := by
  refine List.find?_eq_none.2 fun j general => ?_
  rw [← Option.not_isSome, full j ((mem_allGeneral j).1 general)]
  decide

section
variable {f : FaultManager} {now : Time} {i : Fin 32}

/-- Slots that are later or later in the table leave the earliest one chosen. -/
theorem foldl_earlier_stays {l : List (Fin 32)} (later : ∀ j ∈ l, f.age now j ≤ f.age now i) :
    l.foldl (f.earlier now) (some i) = some i := by
  induction l with
  | nil => rfl
  | cons j l ih =>
    have stays : f.earlier now (some i) j = some i := if_neg (Nat.not_lt.2 (later j List.mem_cons_self))
    rw [List.foldl_cons, stays]
    exact ih fun k member => later k (List.mem_cons_of_mem j member)

/-- Of slots in the table's order the earliest is chosen, the first on a tie (R124, R169). -/
theorem foldl_earlier_eq {l : List (Fin 32)} (sorted : l.Pairwise fun i j => i.val < j.val) (member : i ∈ l)
    (first : ∀ j ∈ l, j ≠ i → f.age now j < f.age now i ∨ (f.age now i = f.age now j ∧ i < j)) {best : Option (Fin 32)}
    (lower : ∀ b, best = some b → f.age now b < f.age now i) : l.foldl (f.earlier now) best = some i := by
  induction l generalizing best with
  | nil => exact absurd member List.not_mem_nil
  | cons a l ih =>
    obtain ⟨below, sorted⟩ := List.pairwise_cons.1 sorted
    rw [List.foldl_cons]
    rcases List.mem_cons.1 member with rfl | later
    · have taken : f.earlier now best i = some i := by
        cases best with
        | none => rfl
        | some b => exact if_pos (lower b rfl)
      rw [taken]
      refine foldl_earlier_stays fun j listed => ?_
      rcases first j (List.mem_cons_of_mem i listed) (Fin.ne_of_val_ne (below j listed).ne') with less | ⟨same, -⟩
      · exact less.le
      · exact same.ge
    · have order := below i later
      have less : f.age now a < f.age now i := by
        rcases first a List.mem_cons_self (Fin.ne_of_val_ne order.ne) with less | ⟨-, after⟩
        · exact less
        · exact absurd after (Nat.lt_asymm order)
      refine ih sorted later (fun j listed => first j (List.mem_cons_of_mem a listed)) fun b chosen => ?_
      cases best with
      | none => cases chosen; exact less
      | some c =>
        unfold FaultManager.earlier at chosen
        dsimp only at chosen
        split at chosen
        · cases chosen; exact less
        · cases chosen; exact lower _ rfl

end

/-- The slots that R124 chooses among are those that hold a CLEARED_UNACKED record of the class. -/
theorem replaceable_eq (s : State) (c : FaultClass) :
    s.faults.replaceable s.now c = (allGeneral.filter (clearedOf s c)).foldl (s.faults.earlier s.now) none := by
  unfold FaultManager.replaceable
  congr 2
  funext i
  unfold clearedOf
  cases s.faults.table[i].record with
  | none => rfl
  | some r => simp only [Option.any_some, Bool.decide_and, beq_eq_decide]

theorem replaceable_of_earliest {s : State} {c : FaultClass} {i : Fin 32} (earliest : EarliestCleared s c i) :
    s.faults.replaceable s.now c = some i := by
  obtain ⟨general, cleared, first⟩ := earliest
  rw [replaceable_eq]
  refine foldl_earlier_eq (allGeneral_sorted.filter _)
    (List.mem_filter.2 ⟨(mem_allGeneral i).2 general, cleared⟩) (fun j listed other => ?_) fun b none_ => nomatch none_
  obtain ⟨generalJ, clearedJ⟩ := List.mem_filter.1 listed
  exact first j ((mem_allGeneral j).1 generalJ) other clearedJ

theorem replaceable_of_none {s : State} {c : FaultClass} (none_ : ∀ j : Fin 32, j ≠ 31 → clearedOf s c j = false) :
    s.faults.replaceable s.now c = none := by
  have empty : allGeneral.filter (clearedOf s c) = [] :=
    List.filter_eq_nil_iff.2 fun j general => by rw [none_ j ((mem_allGeneral j).1 general)]; decide
  rw [replaceable_eq, empty]
  rfl

section
variable {k : FaultKind} {o : Nat} {s : State}

theorem place_of_found {i : Fin 32} (found : s.faults.find k o = some i) : s.faults.place s.now k o = .present i := by
  unfold FaultManager.place
  rw [found]

variable (absent : s.faults.find k o = none)
include absent

theorem place_of_free {i : Fin 32} (general : i ≠ 31) (free : s.faults.table[i].record = none)
    (below : ∀ j : Fin 32, j < i → s.faults.table[j].record.isSome = true) : s.faults.place s.now k o = .free i := by
  unfold FaultManager.place
  rw [absent, freeSlot_eq general free below]

/-- With no general slot free the ended NOTICE makes room before the ended MINOR (R124). -/
theorem place_of_cleared {i : Fin 32} (full : ∀ j : Fin 32, j ≠ 31 → s.faults.table[j].record.isSome = true)
    (earliest : EarliestCleared s .notice i ∨
      (EarliestCleared s .minor i ∧ ∀ j : Fin 32, j ≠ 31 → clearedOf s .notice j = false)) :
    s.faults.place s.now k o = .replaces i := by
  unfold FaultManager.place
  rw [absent, freeSlot_none full]
  rcases earliest with notice | ⟨minor, none_⟩
  · rw [replaceable_of_earliest notice]
  · rw [replaceable_of_none none_, replaceable_of_earliest minor]

theorem place_of_no_room (full : ∀ j : Fin 32, j ≠ 31 → s.faults.table[j].record.isSome = true ∧
    clearedOf s .notice j = false ∧ clearedOf s .minor j = false) : s.faults.place s.now k o = .lost := by
  unfold FaultManager.place
  rw [absent, freeSlot_none fun j general => (full j general).1,
    replaceable_of_none fun j general => (full j general).2.1, replaceable_of_none fun j general => (full j general).2.2]

end

end Sys2Proof.Machine
end

section
/-! PROOFS. A raise and an end whole: the one record that changes, what is told of it, and the mode after it (R114, R122 to
R127, R130, R131, R133, R137). -/

namespace Sys2Proof.Machine

/-! ### The mode (R131, R133) -/

theorem derived_eq (f : FaultManager) :
    f.derived = (if f.latch then .failed
      else if ∃ i : Fin 32, f.table[i].record.any (fun r => r.cls == .minor && r.state != .clearedUnacked) = true
        then .degraded else .auto) := by
  have minor : f.anyActive .minor = true ↔
      ∃ i : Fin 32, f.table[i].record.any (fun r => r.cls == .minor && r.state != .clearedUnacked) = true := by
    unfold FaultManager.anyActive
    rw [List.any_eq_true]
    exact ⟨fun ⟨i, _, active⟩ => ⟨i, active⟩, fun ⟨i, active⟩ => ⟨i, mem_allFaultSlots i, active⟩⟩
  unfold FaultManager.derived
  simp only [minor]

theorem deriveMode_of_derived {s : State} (same : s.faults.mode = some s.faults.derived) (cause : ModeCause) :
    deriveMode cause s = s := if_pos same

/-- The STATE notice that tells a mode, with the Sequencer's state, the latch and the hold set (R199). -/
def modeNotice (m : Mode) (s : State) : Notice :=
  ⟨.state, [codeOrFF (s.seq.state.map SeqState.code), byte m.code, byte (flag s.faults.latch),
    byte (flag s.seq.holdSignaller + 2 * flag s.seq.holdLocal)]⟩

theorem deriveMode_of_change {s : State} (change : s.faults.mode ≠ some s.faults.derived) (cause : ModeCause) :
    deriveMode cause s = statusDue (queueNotice (modeNotice s.faults.derived s)
      (writeLog .mode 0 [codeOrFF (s.faults.mode.map Mode.code), byte s.faults.derived.code, byte (flag s.faults.latch),
        byte cause.code] (s.setFaults fun f => { f with mode := some f.derived }))) := by
  have written := writeLog_only .mode 0 [codeOrFF (s.faults.mode.map Mode.code), byte s.faults.derived.code,
    byte (flag s.faults.latch), byte cause.code] (s.setFaults fun f => { f with mode := some f.derived })
  have notice : (writeLog .mode 0 [codeOrFF (s.faults.mode.map Mode.code), byte s.faults.derived.code,
      byte (flag s.faults.latch), byte cause.code] (s.setFaults fun f => { f with mode := some f.derived })).stateNotice =
      modeNotice s.faults.derived s := by
    unfold State.stateNotice
    rw [written.seq_eq (by decide) (by decide), written.faults_eq (by decide)]
    rfl
  rw [← notice]
  exact if_neg change

/-- The mode is derived from the latch and the table alone. -/
theorem deriveMode_faultTold_faults (cause : ModeCause) (r : FaultRecord) (act : Nat) (n after slot : Byte) (req : Nat)
    (w : State) :
    (deriveMode cause (faultTold r act n after slot req w)).faults = { w.faults with mode := some w.faults.derived } := by
  rw [deriveMode_faults, faultTold_faults]

/-! ### A raise told (R123 to R125, R137) -/

/-- A record raised again (R123). -/
def FaultRecord.again (r : FaultRecord) (d : Nat) (now : Time) : FaultRecord :=
  { r with state := .activeUnacked, detail := d, count := min 255 (r.count + 1), last := now }

/-- A slot takes another entry, and the latch is set for a SEVERE record (R130). -/
def slotRaised (i : Fin 32) (x : FaultSlot) (c : FaultClass) (s : State) : State :=
  { s with faults := { s.faults with
    table := s.faults.table.set i x
    latch := s.faults.latch || decide (c = .severe) } }

section
variable {k : FaultKind} {o : Nat} (d : Nat) {s : State}

/-- A raise that is not lost: its change is told and the mode derived. -/
theorem raise_of_kept {x : FaultStep} (kept : s.faults.place s.now k o ≠ .lost)
    (change : s.faults.raised s.now (Config.freeByte s.free) k o d = x) :
    raise k o d s = deriveMode .raised (emit x.2 { s with faults := x.1 }) := by
  subst change
  unfold raise
  simp only [beq_iff_eq, if_neg kept]
  rfl

/-- A fault on record is raised again (R123). -/
theorem raise_of_found {i : Fin 32} {r : FaultRecord} (found : s.faults.find k o = some i)
    (holds : s.faults.table[i].record = some r) :
    raise k o d s = deriveMode .raised (faultTold (r.again d s.now) 2 (byte (r.again d s.now).count) 0 (byte i.val) 0
      (slotRaised i { s.faults.table[i] with record := some (r.again d s.now), aged := false } r.cls s)) := by
  have place := place_of_found found
  refine raise_of_kept d (by rw [place]; exact nofun) (x := ((slotRaised i
    { s.faults.table[i] with record := some (r.again d s.now), aged := false } r.cls s).faults,
    faultOuts .raised (r.again d s.now) (byte (r.again d s.now).count) (some .activeUnacked) (some i) .none)) ?_
  unfold FaultManager.raised FaultManager.reraise
  rw [place]
  dsimp only
  rw [holds]
  rfl

/-- A new record in a free slot (R124). -/
theorem raise_of_free {i : Fin 32} (place : s.faults.place s.now k o = .free i) :
    raise k o d s = deriveMode .raised (faultTold (FaultRecord.fresh k o d s.now) 0 1 0 (byte i.val) 0
      (slotRaised i ⟨some (FaultRecord.fresh k o d s.now), false, none, false⟩ k.cls s)) := by
  refine raise_of_kept d (by rw [place]; exact nofun) (x := s.faults.create s.now i k o d) ?_
  unfold FaultManager.raised
  rw [place]

/-- A new record in the place of another, which is told first (R124, R137). -/
theorem raise_of_replaced {i : Fin 32} {q : FaultRecord} (place : s.faults.place s.now k o = .replaces i)
    (holds : s.faults.table[i].record = some q) :
    raise k o d s = deriveMode .raised (faultTold (FaultRecord.fresh k o d s.now) 0 1 0 (byte i.val) 0
      (faultTold q 1 (byte q.count) 0xFF (byte i.val) 0
        (slotRaised i ⟨some (FaultRecord.fresh k o d s.now), false, none, false⟩ k.cls s))) := by
  refine raise_of_kept d (by rw [place]; exact nofun) (x := ((s.faults.create s.now i k o d).1,
    faultOuts .replaced q (byte q.count) none (some i) .none ++ (s.faults.create s.now i k o d).2)) ?_
  unfold FaultManager.raised
  rw [place]
  dsimp only
  rw [holds]
  rfl

/-- What a raise of TABLE_FULL makes of slot 31, with the record it leaves there (R125). -/
def FaultSlot.full (x : FaultSlot) (k : FaultKind) (now : Time) : FaultRecord :=
  match x.record with
  | none => FaultRecord.fresh .tableFull 0 k.code now
  | some r => r.again k.code now

/-- Slot 31 as a raise of TABLE_FULL leaves it: the marks of a record that stood there stay, but the aged mark. -/
def FaultSlot.tableFull (x : FaultSlot) (k : FaultKind) (now : Time) : FaultSlot :=
  ⟨some (x.full k now), x.forced && x.record.isSome, x.record.bind fun _ => x.carried, false⟩

theorem raiseTableFull_told (s : State) (k : FaultKind) :
    s.faults.raiseTableFull s.now k =
      let x := s.faults.table[(31 : Fin 32)]
      ((slotRaised 31 (x.tableFull k s.now) (x.full k s.now).cls s).faults,
        faultOuts (if x.record.isSome then .raised else .created) (x.full k s.now) (byte (x.full k s.now).count)
          (some .activeUnacked) (some 31) .none) := by
  unfold FaultManager.raiseTableFull FaultManager.reraise slotRaised FaultSlot.tableFull FaultSlot.full
  dsimp only
  cases s.faults.table[(31 : Fin 32)].record with
  | none => simp only [Option.isSome_none, Bool.and_false, Bool.false_eq_true, if_false]; rfl
  | some r => simp only [Option.isSome_some, Bool.and_true, if_true]; rfl

theorem faultTold_tookFree (r : FaultRecord) (act : Nat) (n after slot : Byte) (req : Nat) (s : State) :
    faultTold r act n after slot req s.tookFree = (faultTold r act n after slot req s).tookFree :=
  faultTold_aside id 1 s r act n after slot req

/-- A fault that finds no slot is told as LOST, and TABLE_FULL raised in slot 31 (R125; the count of LOST is log entry 5's). -/
theorem raise_of_lost (lost : s.faults.place s.now k o = .lost) :
    raise k o d s =
      let x := s.faults.table[(31 : Fin 32)]
      deriveMode .raised (faultTold (x.full k s.now) (if x.record.isSome then 2 else 0) (byte (x.full k s.now).count) 0 31 0
        (faultTold (FaultRecord.fresh k o d s.now) 6 (Config.freeByte s.free) 0xFF 0xFF 0
          (slotRaised 31 (x.tableFull k s.now) (x.full k s.now).cls s.tookFree))) := by
  have raised : s.faults.raised s.now (Config.freeByte s.free) k o d = FaultStep.next
      (s.faults, faultOuts .lost (FaultRecord.fresh k o d s.now) (Config.freeByte s.free) none none .none)
      fun f => f.raiseTableFull s.now k := by
    unfold FaultManager.raised
    rw [lost]
  have took : ∀ x c, slotRaised 31 x c s.tookFree = (slotRaised 31 x c s).tookFree := fun _ _ => rfl
  unfold raise applyFault
  simp only [lost, raised, FaultStep.next, raiseTableFull_told, took, faultTold_tookFree, beq_self_eq_true, if_true]
  cases s.faults.table[(31 : Fin 32)].record <;> rfl

end

end Sys2Proof.Machine
end

section
/-! PROOFS. The statement about raises and ends: which slots a raise and an end change, and an end with a raise in one step
(R114, R122 to R127, R130, R131, R133, R137). -/

namespace Sys2Proof.Machine

/-! ### The slot that a raise changes (R123 to R125) -/

theorem slotRaised_only (i : Fin 32) (x : FaultSlot) (c : FaultClass) (s : State) : Only [.faults] s (slotRaised i x c s) :=
  setFaults_only s fun f => { f with table := f.table.set i x, latch := f.latch || decide (c = .severe) }

section
variable {k : FaultKind} {o : Nat} (d : Nat) {s : State}

/-- A raise told in a slot leaves that slot's entry and the latch set for its class; the mode is derived from them. -/
theorem faults_of_told {r : FaultRecord} {act : Nat} {n after slot : Byte} {req : Nat} {v w t : State}
    (told : t = deriveMode .raised (faultTold r act n after slot req v)) (same : v.faults = w.faults) :
    t.faults.table = w.faults.table ∧ t.faults.latch = w.faults.latch := by
  rw [told, deriveMode_faultTold_faults, same]
  exact ⟨rfl, rfl⟩

theorem raise_of_found_faults {i : Fin 32} {r : FaultRecord} (found : s.faults.find k o = some i)
    (holds : s.faults.table[i].record = some r) :
    (raise k o d s).faults.table =
        s.faults.table.set i { s.faults.table[i] with record := some (r.again d s.now), aged := false } ∧
      (raise k o d s).faults.latch = (s.faults.latch || decide (r.cls = .severe)) :=
  faults_of_told (raise_of_found d found holds) (w := slotRaised i _ _ s) rfl

/-- The new record takes a free slot, or one whose record is told as replaced (R124, R137). -/
theorem raise_of_room {i : Fin 32} (room : (s.faults.place s.now k o = .free i ∧ s.faults.table[i].record = none) ∨
      (s.faults.place s.now k o = .replaces i ∧ s.faults.table[i].record.isSome = true)) :
    let new := FaultRecord.fresh k o d s.now
    let w := slotRaised i ⟨some new, false, none, false⟩ k.cls s
    raise k o d s = deriveMode .raised (faultTold new 0 1 0 (byte i.val) 0
      (match s.faults.table[i].record with
        | none => w
        | some q => faultTold q 1 (byte q.count) 0xFF (byte i.val) 0 w)) := by
  rcases room with ⟨place, free⟩ | ⟨place, full⟩
  · rw [free]
    exact raise_of_free d place
  · obtain ⟨q, holds⟩ := Option.isSome_iff_exists.1 full
    rw [holds]
    exact raise_of_replaced d place holds

theorem raise_of_room_faults {i : Fin 32}
    (room : (s.faults.place s.now k o = .free i ∧ s.faults.table[i].record = none) ∨
      (s.faults.place s.now k o = .replaces i ∧ s.faults.table[i].record.isSome = true)) :
    (raise k o d s).faults.table =
        s.faults.table.set i ⟨some (FaultRecord.fresh k o d s.now), false, none, false⟩ ∧
      (raise k o d s).faults.latch = (s.faults.latch || decide (k.cls = .severe)) := by
  refine faults_of_told (raise_of_room d room) (w := slotRaised i _ _ s) ?_
  cases s.faults.table[i].record with
  | none => rfl
  | some q => exact faultTold_faults _ _ _ _ _ _ _

theorem raise_of_lost_faults (lost : s.faults.place s.now k o = .lost) :
    (raise k o d s).faults.table = s.faults.table.set 31 (s.faults.table[(31 : Fin 32)].tableFull k s.now) ∧
      (raise k o d s).faults.latch =
        (s.faults.latch || decide ((s.faults.table[(31 : Fin 32)].full k s.now).cls = .severe)) :=
  faults_of_told (raise_of_lost d lost) (w := slotRaised 31 _ _ s.tookFree) (faultTold_faults _ _ _ _ _ _ _)

end

theorem FaultSlot.full_of_none {x : FaultSlot} (empty : x.record = none) (k : FaultKind) (now : Time) :
    x.full k now = FaultRecord.fresh .tableFull 0 k.code now := by
  unfold FaultSlot.full
  rw [empty]

theorem FaultSlot.full_of_some {x : FaultSlot} {r : FaultRecord} (holds : x.record = some r) (k : FaultKind) (now : Time) :
    x.full k now = r.again k.code now := by
  unfold FaultSlot.full
  rw [holds]

/-- TABLE_FULL is SEVERE, so that its raise sets the latch (R120, R130). -/
theorem FaultSlot.full_severe {x : FaultSlot} (severe : ∀ r, x.record = some r → r.cls = .severe) (k : FaultKind)
    (now : Time) : (x.full k now).cls = .severe := by
  cases holds : x.record with
  | none => rw [FaultSlot.full_of_none holds]; rfl
  | some r => rw [FaultSlot.full_of_some holds]; exact severe r holds

theorem FaultSlot.tableFull_of_none {x : FaultSlot} (empty : x.record = none) (k : FaultKind) (now : Time) :
    x.tableFull k now = ⟨some (FaultRecord.fresh .tableFull 0 k.code now), false, none, false⟩ := by
  unfold FaultSlot.tableFull
  rw [FaultSlot.full_of_none empty, empty, Option.isSome_none, Bool.and_false]
  rfl

theorem FaultSlot.tableFull_of_some {x : FaultSlot} {r : FaultRecord} (holds : x.record = some r) (k : FaultKind)
    (now : Time) : x.tableFull k now = { x with record := some (r.again k.code now), aged := false } := by
  unfold FaultSlot.tableFull
  rw [FaultSlot.full_of_some holds, holds, Option.isSome_some, Bool.and_true]
  rfl

/-! ### A raise keeps every slot taken that was (R122) -/

/-- A slot holds a record. -/
abbrev FaultManager.Holds (f : FaultManager) (j : Fin 32) : Prop := f.table[j].record.isSome = true

section
variable {f : FaultManager} {j : Fin 32} (taken : f.Holds j) (now : Time)
include taken

theorem FaultManager.reraise_holds (i : Fin 32) (d : Nat) : (f.reraise now i d).1.Holds j := by
  unfold FaultManager.reraise
  split
  · exact taken
  · unfold FaultManager.Holds
    rw [upd_getFin]
    split
    · rfl
    · exact taken

theorem FaultManager.create_holds (i : Fin 32) (k : FaultKind) (o d : Nat) : (f.create now i k o d).1.Holds j := by
  unfold FaultManager.create FaultManager.Holds
  simp only [Fin.getElem_fin, Vector.getElem_set]
  split
  · rfl
  · exact taken

theorem FaultManager.raised_holds (n : Byte) (k : FaultKind) (o d : Nat) : (f.raised now n k o d).1.Holds j := by
  unfold FaultManager.raised
  split
  · exact reraise_holds taken now _ d
  · exact create_holds taken now _ k o d
  · exact create_holds taken now _ k o d
  · unfold FaultStep.next FaultManager.raiseTableFull
    dsimp only
    split
    · exact reraise_holds taken now 31 _
    · exact create_holds taken now 31 _ _ _

end

theorem raise_holds {j : Fin 32} {s : State} (taken : s.faults.Holds j) (k : FaultKind) (o d : Nat) :
    (raise k o d s).faults.Holds j := by
  rw [raise_faults]
  exact FaultManager.raised_holds taken _ _ k o d

theorem few_of_full {s : State} (full : ∀ j : Fin 32, j ≠ 31 → s.faults.Holds j) : ¬ 4 ≤ generalFree s := by
  have empty : (allGeneral.filter fun j => s.faults.table[j].record.isNone) = [] :=
    List.filter_eq_nil_iff.2 fun j general => by
      rw [← Option.not_isSome, full j ((mem_allGeneral j).1 general)]
      decide
  unfold generalFree
  rw [empty]
  decide

/-! ### An end and a raise in one step (R114, R126) -/

theorem getElem_set_other {i j : Fin 32} (other : i ≠ j) (v : Vector FaultSlot 32) (x : FaultSlot) :
    (v.set i x)[j] = v[j] := by
  simp [Fin.val_ne_of_ne other]

/-- With no active TABLE_FULL a raise away from slot 31 leaves none, or leaves no general slot free: the test of R126 after it
changes nothing. -/
theorem tableFullTested_raise {s : State} (quiet : s.faults.table[(31 : Fin 32)].Quiet) {k : FaultKind} {o : Nat}
    (elsewhere : s.faults.find k o ≠ some 31) (d : Nat) : tableFullTested (raise k o d s) = raise k o d s := by
  cases found : s.faults.find k o with
  | some i =>
    have other : i ≠ 31 := fun same => elsewhere (found.trans (congrArg some same))
    obtain ⟨r, holds, -⟩ := find_holds found
    refine tableFullTested_of_quiet ?_
    rw [(raise_of_found_faults d found holds).1, getElem_set_other other]
    exact quiet
  | none =>
    cases free : allGeneral.find? fun i => s.faults.table[i].record.isNone with
    | some i =>
      have other : i ≠ 31 := (mem_allGeneral i).1 (List.mem_of_find?_eq_some free)
      have place : s.faults.place s.now k o = .free i := by
        unfold FaultManager.place
        rw [found, free]
      have empty : s.faults.table[i].record = none := by simpa using List.find?_some free
      refine tableFullTested_of_quiet ?_
      rw [(raise_of_room_faults d (.inl ⟨place, empty⟩)).1, getElem_set_other other]
      exact quiet
    | none =>
      refine tableFullTested_of_few (few_of_full fun j general => raise_holds ?_ k o d)
      have taken := List.find?_eq_none.1 free j ((mem_allGeneral j).2 general)
      simpa [Option.isSome_iff_ne_none] using taken

theorem endAtSlot_quiet {s : State} (quiet : s.faults.table[(31 : Fin 32)].Quiet) (i : Fin 32) :
    (endAtSlot i s).faults.table[(31 : Fin 32)] = s.faults.table[(31 : Fin 32)] := by
  rw [endAtSlot_table, upd_getFin, FaultSlot.ended_of_quiet quiet, ite_self]

/-- An end leaves a slot 31 without an active record as it is. -/
theorem endedAlone_quiet {s : State} (quiet : s.faults.table[(31 : Fin 32)].Quiet) (e : FaultKind) (o : Nat) :
    (endedAlone e o s).faults.table[(31 : Fin 32)] = s.faults.table[(31 : Fin 32)] := by
  unfold endedAlone
  cases s.faults.find e o with
  | none => rfl
  | some i =>
    cases e.isEvent with
    | true => rfl
    | false => exact endAtSlot_quiet quiet i

/-- With no active TABLE_FULL the test that follows an end changes nothing (R126). -/
theorem endCondition_of_quiet {s : State} (quiet : s.faults.table[(31 : Fin 32)].Quiet) (e : FaultKind) (o : Nat) :
    endCondition e o s = deriveMode .ended (endedAlone e o s) := by
  unfold endedAlone
  cases found : s.faults.find e o with
  | none => exact endCondition_ignored (.inr found)
  | some i =>
    cases event : e.isEvent with
    | true => exact endCondition_ignored (.inl event)
    | false =>
      rw [endCondition_of_found event found]
      exact congrArg (deriveMode .ended) (tableFullTested_of_quiet (by rw [endAtSlot_quiet quiet]; exact quiet))

/-- Without an active TABLE_FULL an end and a raise in one step are an end and then a raise (R126). -/
theorem endThenRaise_of_quiet {s : State} (unique : RecordsUnique s) (quiet : s.faults.table[(31 : Fin 32)].Quiet)
    {e k : FaultKind} (general : k ≠ .tableFull) (o d : Nat) :
    endThenRaise (some e) k o d s = raise k o d (endCondition e o s) := by
  have slot : (deriveMode .ended (endedAlone e o s)).faults.table[(31 : Fin 32)] = s.faults.table[(31 : Fin 32)] := by
    rw [deriveMode_faults]
    exact endedAlone_quiet quiet e o
  have elsewhere : (deriveMode .ended (endedAlone e o s)).faults.find k o ≠ some 31 := fun found => by
    obtain ⟨r, holds, kind, -⟩ := find_holds found
    rw [slot] at holds
    exact general (kind.symm.trans ((unique.2 31 r holds).2 rfl))
  have derived : (raise k o d (deriveMode .ended (endedAlone e o s))).faults.mode =
      some (raise k o d (deriveMode .ended (endedAlone e o s))).faults.derived := by
    rw [raise_faults]
    rfl
  rw [endThenRaise_told, endCondition_of_quiet quiet, tableFullTested_raise (by rw [slot]; exact quiet) elsewhere,
    deriveMode_of_derived derived]

/-- The slot that an end frees is taken by the raise in the same step, so that TABLE_FULL stands (R114, R126). -/
theorem endThenRaise_takes_freed {s : State} {e k : FaultKind} {o : Nat} {i : Fin 32} {r : FaultRecord} (d : Nat)
    (lasting : e.isEvent = false) (general : i ≠ 31) (found : s.faults.find e o = some i)
    (holds : s.faults.table[i].record = some r) (acked : r.state = .activeAcked) (absent : s.faults.find k o = none)
    (below : ∀ j : Fin 32, j < i → s.faults.Holds j) (few : ¬ 4 ≤ generalFree s) :
    (endThenRaise (some e) k o d s).faults.table =
      s.faults.table.set i ⟨some (FaultRecord.fresh k o d s.now), false, none, false⟩ := by
  have now : (deriveMode .ended (endedAlone e o s)).now = s.now :=
    (((endedAlone_only e o s).trans (deriveMode_only .ended (endedAlone e o s))).clock_eq (by decide)).1
  have freed : (deriveMode .ended (endedAlone e o s)).faults.table = s.faults.table.set i ⟨none, false, none, false⟩ := by
    rw [deriveMode_faults]
    unfold endedAlone
    rw [found, lasting]
    refine (endAtSlot_table i s).trans ?_
    unfold upd
    dsimp only
    rw [FaultSlot.ended_acked holds _ acked]
  rw [endThenRaise_told, ← now]
  generalize deriveMode .ended (endedAlone e o s) = u at freed
  have absent' : u.faults.find k o = none := find_none_iff.2 fun j q held => by
    refine find_none_iff.1 absent j q ?_
    rw [freed] at held
    by_cases here : i = j
    · subst here
      simp at held
    · rwa [getElem_set_other here] at held
  have empty : u.faults.table[i].record = none := by simp [freed]
  have place := place_of_free absent' general empty fun j lower => by
    rw [freed, getElem_set_other lower.ne']
    exact below j lower
  have raised := (raise_of_room_faults d (.inl ⟨place, empty⟩)).1
  rw [freed, Vector.set_set] at raised
  have same : generalFree (raise k o d u) = generalFree s := generalFree_congr fun j _ => by
    rw [raised]
    by_cases here : i = j
    · subst here
      rw [holds]
      simp
    · rw [getElem_set_other here]
  rw [tableFullTested_of_few (by rw [same]; exact few), deriveMode_faults]
  exact raised

/-! ### The slots after an end (R126, R127) -/

section
variable {k : FaultKind} {o : Nat} {i : Fin 32} {s : State} (lasting : k.isEvent = false)
  (found : s.faults.find k o = some i)
include lasting found

theorem endCondition_slot (j : Fin 32) :
    (endCondition k o s).faults.table[j] =
      if 4 ≤ generalFree (endAtSlot i s) ∧ j = 31 then (endAtSlot i s).faults.table[j].ended s.now
      else (endAtSlot i s).faults.table[j] := by
  have now := ((endAtSlot_only i s).clock_eq (by decide)).1
  rw [endCondition_of_found lasting found, deriveMode_faults]
  refine (tableFullTested_table (endAtSlot i s) j).trans ?_
  rw [now]

/-- A general slot is changed by the end of its own condition alone (R127). -/
theorem endCondition_general {j : Fin 32} (general : j ≠ 31) :
    (endCondition k o s).faults.table[j] = if i = j then s.faults.table[j].ended s.now else s.faults.table[j] := by
  rw [endCondition_slot lasting found, if_neg fun h => general h.2, endAtSlot_table, upd_getFin]

/-- TABLE_FULL ends with the fourth general slot that is free (R126). -/
theorem endCondition_tableFull (general : i ≠ 31) :
    (endCondition k o s).faults.table[(31 : Fin 32)] =
      if 4 ≤ generalFree (endCondition k o s) then s.faults.table[(31 : Fin 32)].ended s.now
      else s.faults.table[(31 : Fin 32)] := by
  have free : generalFree (endCondition k o s) = generalFree (endAtSlot i s) := generalFree_congr fun j other => by
    rw [endCondition_slot lasting found, if_neg fun h => other h.2]
  rw [endCondition_slot lasting found, free, endAtSlot_table, upd_getFin, if_neg general]
  simp only [and_true]

theorem endCondition_changes {r : FaultRecord} (general : i ≠ 31) (holds : s.faults.table[i].record = some r) :
    let t := endCondition k o s
    let free := generalFree t
    t.faults.table[i] =
      (match r.state with
        | .activeUnacked => { s.faults.table[i] with
            record := some { r with state := .clearedUnacked, last := s.now }, aged := false }
        | .activeAcked => ⟨none, false, none, false⟩
        | .clearedUnacked => s.faults.table[i]) ∧
    (∀ j : Fin 32, j ≠ i → j ≠ 31 → t.faults.table[j] = s.faults.table[j]) ∧
    t.faults.table[(31 : Fin 32)] =
      (match s.faults.table[(31 : Fin 32)].record with
        | none => s.faults.table[(31 : Fin 32)]
        | some q =>
          if free < 4 then s.faults.table[(31 : Fin 32)]
          else match q.state with
            | .activeUnacked => { s.faults.table[(31 : Fin 32)] with
                record := some { q with state := .clearedUnacked, last := s.now }, aged := false }
            | .activeAcked => ⟨none, false, none, false⟩
            | .clearedUnacked => s.faults.table[(31 : Fin 32)]) ∧
    Only faultBlocks s t := by
  refine ⟨?own, fun j other generalJ => ?others, ?tableFull, (endCondition_only k o s).mono (by decide)⟩
  case own =>
    rw [endCondition_general lasting found general, if_pos rfl]
    cases state : r.state with
    | activeUnacked => exact FaultSlot.ended_unacked holds s.now state
    | activeAcked => exact FaultSlot.ended_acked holds s.now state
    | clearedUnacked => exact FaultSlot.ended_cleared holds s.now state
  case others => rw [endCondition_general lasting found generalJ, if_neg other.symm]
  case tableFull =>
    refine (endCondition_tableFull lasting found general).trans ?_
    cases full : s.faults.table[(31 : Fin 32)].record with
    | none =>
      rw [FaultSlot.ended_empty full]
      exact ite_self _
    | some q =>
      by_cases few : generalFree (endCondition k o s) < 4
      · exact Eq.trans (if_neg (Nat.not_le.2 few)) (if_pos few).symm
      · refine Eq.trans (if_pos (Nat.not_lt.1 few)) (Eq.trans ?_ (if_neg few).symm)
        cases state : q.state with
        | activeUnacked => exact FaultSlot.ended_unacked full s.now state
        | activeAcked => exact FaultSlot.ended_acked full s.now state
        | clearedUnacked => exact FaultSlot.ended_cleared full s.now state

end

/-- Settles O51: each raise and each end is told as the change of one slot, with the mode derived after it. -/
theorem raisesAndEndsChangeOneRecord : Obligations.RaisesAndEndsChangeOneRecord := by
  unfold Obligations.RaisesAndEndsChangeOneRecord
  refine ⟨fun k o d i r s found holds => ?again, fun k o d i s _ absent general room => ?new,
    fun k o d s _ absent full => ?lost, fun k o d s => ?mode, fun cause s => ?change, fun k o s => ?ends,
    fun k o i r s lasting found general holds => endCondition_changes lasting found general holds,
    fun k o s event => ?event, fun e k o d s => ⟨rfl, endThenRaise_told e k o d s, fun unique quiet named _ =>
      endThenRaise_of_quiet unique quiet named o d⟩,
    fun b d i r q s general found holds acked absent below _ _ few =>
      endThenRaise_takes_freed d rfl general found holds acked absent below (Nat.not_le.2 (Nat.lt_succ_of_le few))⟩
  case again =>
    obtain ⟨table, latch⟩ := raise_of_found_faults d found holds
    exact ⟨table, latch, raise_of_found d found holds, raise_only k o d s⟩
  case new =>
    have place : (s.faults.place s.now k o = .free i ∧ s.faults.table[i].record = none) ∨
        (s.faults.place s.now k o = .replaces i ∧ s.faults.table[i].record.isSome = true) :=
      room.imp (fun ⟨free, below⟩ => ⟨place_of_free absent general free below, free⟩)
        fun ⟨full, earliest⟩ => ⟨place_of_cleared absent full earliest, full i general⟩
    obtain ⟨table, latch⟩ := raise_of_room_faults d place
    exact ⟨table, latch, raise_of_room d place, raise_only k o d s⟩
  case lost =>
    have place := place_of_no_room absent full
    obtain ⟨table, latch⟩ := raise_of_lost_faults d place
    refine ⟨table.trans ?_, fun severe => ?_, ⟨s.faults.table[(31 : Fin 32)].full k s.now, Config.freeByte s.free,
      slotRaised 31 (s.faults.table[(31 : Fin 32)].tableFull k s.now) (s.faults.table[(31 : Fin 32)].full k s.now).cls
        s.tookFree,
      rfl, fun empty => FaultSlot.full_of_none empty k s.now, fun r holds => FaultSlot.full_of_some holds k s.now, rfl, rfl,
      rfl, (tookFree_only s).seq (slotRaised_only _ _ _ _) (by decide) (by decide), raise_of_lost d place⟩,
      raise_only k o d s⟩
    · congr 1
      cases holds : s.faults.table[(31 : Fin 32)].record with
      | none => exact FaultSlot.tableFull_of_none holds k s.now
      | some r => exact FaultSlot.tableFull_of_some holds k s.now
    · rw [latch, FaultSlot.full_severe severe]
      exact Bool.or_true _
  case mode =>
    refine ⟨?_, ?_, endCondition_latch k o s⟩
    · rw [raise_faults]; rfl
    · unfold endCondition
      rw [deriveMode_faults]; rfl
  case change =>
    exact ⟨derived_eq s.faults, fun same => deriveMode_of_derived same cause, fun other => deriveMode_of_change other cause⟩
  case ends => exact ⟨endCondition_ignored, fun i lasting found => endCondition_of_found lasting found⟩
  case event =>
    rw [endCondition_ignored (.inl event), deriveMode_faults]

end Sys2Proof.Machine
end

section
/-! PROOFS. The laws of the fault table (R120 to R125): no kind and object has two records, slot 31 alone holds TABLE_FULL, every
record has its kind's class and 1 to 255 occurrences. What a raise, an end and an acknowledge make of them. -/

namespace Sys2Proof.Machine

/-! ### The laws, of one Fault Manager -/

/-- The laws of the table's records (R120 to R122, R125). -/
structure FaultManager.Recorded (f : FaultManager) : Prop where
  unique : ∀ (i j : Fin 32) (r q : FaultRecord), f.table[i].record = some r → f.table[j].record = some q →
    r.kind = q.kind → r.object = q.object → i = j
  full : ∀ (i : Fin 32) (r : FaultRecord), f.table[i].record = some r → (r.kind = .tableFull ↔ i = 31)
  fits : ∀ (i : Fin 32) (r : FaultRecord), f.table[i].record = some r → r.cls = r.kind.cls ∧ 1 ≤ r.count ∧ r.count ≤ 255

theorem recorded_iff (s : State) : s.faults.Recorded ↔ RecordsUnique s ∧ RecordsFit s :=
  ⟨fun ⟨unique, full, fits⟩ => ⟨⟨unique, full⟩, fits⟩, fun ⟨⟨unique, full⟩, fits⟩ => ⟨unique, full, fits⟩⟩

theorem FaultManager.recorded_of_empty {f : FaultManager} (empty : ∀ i : Fin 32, f.table[i].record = none) : f.Recorded := by
  have none_ : ∀ (i : Fin 32) (r : FaultRecord), f.table[i].record ≠ some r := fun i r holds =>
    absurd ((empty i).symm.trans holds) nofun
  exact ⟨fun i _ r _ holds => absurd holds (none_ i r), fun i r holds => absurd holds (none_ i r),
    fun i r holds => absurd holds (none_ i r)⟩

/-! ### Records that continue records -/

/-- A record stands for the same fault as before, with a count in its range if it was in it. -/
structure FaultRecord.Continues (r q : FaultRecord) : Prop where
  kind : q.kind = r.kind
  object : q.object = r.object
  cls : q.cls = r.cls
  count : 1 ≤ r.count → r.count ≤ 255 → 1 ≤ q.count ∧ q.count ≤ 255

theorem FaultRecord.Continues.refl (r : FaultRecord) : r.Continues r := ⟨rfl, rfl, rfl, fun low high => ⟨low, high⟩⟩

theorem FaultRecord.Continues.trans {r q p : FaultRecord} (h : r.Continues q) (h' : q.Continues p) : r.Continues p :=
  ⟨h'.kind.trans h.kind, h'.object.trans h.object, h'.cls.trans h.cls, fun low high =>
    have ⟨low', high'⟩ := h.count low high
    h'.count low' high'⟩

/-- A change that leaves what the laws read of a record. -/
theorem FaultRecord.continues_restated (r : FaultRecord) (st : FaultState) (last : Time) :
    r.Continues { r with state := st, last := last } := ⟨rfl, rfl, rfl, fun low high => ⟨low, high⟩⟩

theorem FaultRecord.continues_again (r : FaultRecord) (d : Nat) (now : Time) : r.Continues (r.again d now) :=
  ⟨rfl, rfl, rfl, fun _ _ => ⟨Nat.le_min.2 ⟨by decide, Nat.le_add_left 1 _⟩, Nat.min_le_left _ _⟩⟩

/-- Every record of a slot continues the one the slot held before: none is new, some may be gone. -/
def FaultSlot.Continues (x y : FaultSlot) : Prop := ∀ q, y.record = some q → ∃ r, x.record = some r ∧ r.Continues q

theorem FaultSlot.continues_of_record {x y : FaultSlot} (same : y.record = x.record) : x.Continues y := fun q holds =>
  ⟨q, same.symm.trans holds, .refl q⟩

theorem FaultSlot.Continues.trans {x y z : FaultSlot} (h : x.Continues y) (h' : y.Continues z) : x.Continues z :=
  fun p holds => by
    obtain ⟨q, holds, further⟩ := h' p holds
    obtain ⟨r, holds, on⟩ := h q holds
    exact ⟨r, holds, on.trans further⟩

/-- A change of the Fault Manager that makes no new record. -/
def FaultManager.Continues (f g : FaultManager) : Prop := ∀ i : Fin 32, f.table[i].Continues g.table[i]

theorem FaultManager.Continues.refl (f : FaultManager) : f.Continues f := fun _ => FaultSlot.continues_of_record rfl

theorem FaultManager.Continues.trans {f g h : FaultManager} (a : f.Continues g) (b : g.Continues h) : f.Continues h :=
  fun i => (a i).trans (b i)

theorem FaultManager.Continues.recorded {f g : FaultManager} (on : f.Continues g) (laws : f.Recorded) : g.Recorded := by
  refine ⟨fun i j r q holds held kind object => ?_, fun i r holds => ?_, fun i r holds => ?_⟩
  · obtain ⟨r', holds', ofR⟩ := on i r holds
    obtain ⟨q', held', ofQ⟩ := on j q held
    exact laws.unique i j r' q' holds' held' (ofR.kind.symm.trans (kind.trans ofQ.kind))
      (ofR.object.symm.trans (object.trans ofQ.object))
  · obtain ⟨r', holds', ofR⟩ := on i r holds
    rw [ofR.kind]
    exact laws.full i r' holds'
  · obtain ⟨r', holds', ofR⟩ := on i r holds
    obtain ⟨cls, low, high⟩ := laws.fits i r' holds'
    exact ⟨ofR.cls.trans (cls.trans (congrArg FaultKind.cls ofR.kind.symm)), ofR.count low high⟩

theorem FaultManager.continues_of_table {f g : FaultManager} (same : g.table = f.table) : f.Continues g := fun i =>
  FaultSlot.continues_of_record (by rw [same])

/-- One slot's entry is replaced. -/
theorem FaultManager.continues_of_set {f g : FaultManager} {i : Fin 32} {x : FaultSlot} (table : g.table = f.table.set i x)
    (here : f.table[i].Continues x) : f.Continues g := fun j => by
  by_cases same : i = j
  · subst same
    rw [table, show (f.table.set i x)[i] = x by simp]
    exact here
  · exact FaultSlot.continues_of_record (by rw [table, getElem_set_other same])

/-- Every slot is remade. -/
theorem FaultManager.continues_of_remake (f : FaultManager) {g : Fin 32 → FaultSlot → FaultSlot}
    (each : ∀ (i : Fin 32) (x : FaultSlot), x.Continues (g i x)) : f.Continues { f with table := remake f.table g } :=
  fun i => by
    have entry : (remake f.table g)[i] = g i f.table[i] := remake_getElem _ _ _ _
    dsimp only
    rw [entry]
    exact each i _

/-! ### Ends and acknowledges (R126 to R129) -/

section
variable (f : FaultManager) (now : Time) (i : Fin 32)

theorem FaultManager.reraise_continues (d : Nat) : f.Continues (f.reraise now i d).1 := by
  unfold FaultManager.reraise
  split
  · exact .refl f
  · next r holds =>
    exact continues_of_set rfl fun q held => ⟨r, holds, Option.some.inj held ▸ r.continues_again d now⟩

theorem FaultManager.remove_continues (req : Requester) : f.Continues (f.remove i req).1 := by
  unfold FaultManager.remove
  split
  · exact .refl f
  · exact continues_of_set rfl nofun

theorem FaultManager.restate_continues (st : FaultState) (act : FaultAction) (req : Requester) :
    f.Continues (f.restate now i st act req).1 := by
  unfold FaultManager.restate
  split
  · exact .refl f
  · next r holds =>
    exact continues_of_set rfl fun q held => ⟨r, holds, Option.some.inj held ▸ r.continues_restated st now⟩

theorem FaultManager.endAt_continues : f.Continues (f.endAt now i).1 := by
  unfold FaultManager.endAt
  split
  · exact .refl f
  · split
    · exact f.restate_continues now i _ _ _
    · exact f.remove_continues i _
    · exact .refl f

theorem FaultManager.ackAt_continues (req : Requester) : f.Continues (f.ackAt now req i).1 := by
  unfold FaultManager.ackAt
  split
  · exact .refl f
  · split
    · split
      · exact f.remove_continues i _
      · exact f.restate_continues now i _ _ _
    · exact .refl f
    · exact f.remove_continues i _

end

section
variable (f : FaultManager) (now : Time)

theorem FaultManager.testTableFull_continues : f.Continues (f.testTableFull now).1 := by
  unfold FaultManager.testTableFull
  split
  · exact f.endAt_continues now 31
  · exact .refl f

theorem FaultManager.endOf_continues (k : FaultKind) (o : Nat) : f.Continues (f.endOf now k o).1 := by
  unfold FaultManager.endOf
  split
  · exact .refl f
  · split
    · exact .refl f
    · exact f.endAt_continues now _

theorem FaultManager.ended_continues (k : FaultKind) (o : Nat) : f.Continues (f.ended now k o).1 := by
  unfold FaultManager.ended
  split
  · exact .refl f
  · split
    · exact .refl f
    · exact (f.endAt_continues now _).trans (FaultManager.testTableFull_continues _ now)

theorem FaultManager.ackPair_continues (req : Requester) (x : AckPair) : f.Continues (f.ackPair now req x).1 := by
  unfold FaultManager.ackPair
  split
  · exact .refl f
  · split
    · exact .refl f
    · exact f.ackAt_continues now _ req

/-- Changes taken one after another. -/
theorem FaultManager.Continues.foldl {α : Type} {f : FaultManager} {g : FaultManager → α → FaultStep}
    (hg : ∀ (f : FaultManager) (a : α), f.Continues (g f a).1) (l : List α) {x : FaultStep} (h : f.Continues x.1) :
    f.Continues (l.foldl (fun x a => x.next fun f => g f a) x).1 := by
  induction l generalizing x with
  | nil => exact h
  | cons a l ih => exact ih (h.trans (hg x.1 a))

theorem FaultManager.acked_continues (req : Requester) (t : AckTarget) : f.Continues (f.acked now req t).1 := by
  unfold FaultManager.acked
  refine FaultManager.Continues.trans ?_ (FaultManager.testTableFull_continues _ now)
  cases t with
  | all => exact .foldl (fun f i => f.ackAt_continues now i req) _ (.refl f)
  | pairs l => exact .foldl (fun f p => f.ackPair_continues now req p) _ (.refl f)

end

/-! ### Raises (R123 to R125) -/

theorem FaultManager.foldl_earlier_mem (f : FaultManager) (now : Time) (l : List (Fin 32)) {best : Option (Fin 32)} {i : Fin 32}
    (chosen : l.foldl (f.earlier now) best = some i) : best = some i ∨ i ∈ l := by
  induction l generalizing best with
  | nil => exact .inl chosen
  | cons a l ih =>
    rcases ih chosen with first | later
    · unfold FaultManager.earlier at first
      split at first
      · cases first; exact .inr List.mem_cons_self
      · split at first
        · cases first; exact .inr List.mem_cons_self
        · exact .inl first
    · exact .inr (List.mem_cons_of_mem a later)

theorem FaultManager.replaceable_general {f : FaultManager} {now : Time} {c : FaultClass} {i : Fin 32}
    (chosen : f.replaceable now c = some i) : i ≠ 31 := by
  rcases f.foldl_earlier_mem now _ chosen with none_ | listed
  · exact nomatch none_
  · exact (mem_allGeneral i).1 (List.mem_filter.1 listed).1

/-- A slot that a raise takes for a new record is a general one, and the fault has no record (R124). -/
theorem FaultManager.place_new {f : FaultManager} {now : Time} {k : FaultKind} {o : Nat} {i : Fin 32}
    (place : f.place now k o = .free i ∨ f.place now k o = .replaces i) : f.find k o = none ∧ i ≠ 31 := by
  unfold FaultManager.place at place
  split at place
  · simp at place
  · next absent =>
    refine ⟨absent, ?_⟩
    split at place
    · next j free =>
      obtain rfl : j = i := by simpa using place
      exact (mem_allGeneral j).1 (List.mem_of_find?_eq_some free)
    · split at place
      · next j chosen =>
        obtain rfl : j = i := by simpa using place
        exact replaceable_general chosen
      · split at place
        · next j chosen =>
          obtain rfl : j = i := by simpa using place
          exact replaceable_general chosen
        · simp at place

/-- A new record joins the table in a slot of its kind, its fault having none. -/
theorem FaultManager.Recorded.create {f : FaultManager} (laws : f.Recorded) {i : Fin 32} {k : FaultKind} {o : Nat}
    (absent : ∀ (j : Fin 32) (r : FaultRecord), j ≠ i → f.table[j].record = some r → ¬(r.kind = k ∧ r.object = o))
    (slot : k = .tableFull ↔ i = 31) (now : Time) (d : Nat) : (f.create now i k o d).1.Recorded := by
  have table : (f.create now i k o d).1.table = f.table.set i ⟨some (FaultRecord.fresh k o d now), false, none, false⟩ := rfl
  have cases_ : ∀ (j : Fin 32) (r : FaultRecord), (f.create now i k o d).1.table[j].record = some r →
      (j = i ∧ r = FaultRecord.fresh k o d now) ∨ (j ≠ i ∧ f.table[j].record = some r) := fun j r holds => by
    rw [table] at holds
    by_cases here : i = j
    · subst here
      simp only [Fin.getElem_fin, Vector.getElem_set_self, Option.some.injEq] at holds
      exact .inl ⟨rfl, holds.symm⟩
    · rw [getElem_set_other here] at holds
      exact .inr ⟨Ne.symm here, holds⟩
  refine ⟨fun j l r q holds held kind object => ?_, fun j r holds => ?_, fun j r holds => ?_⟩
  · rcases cases_ j r holds with ⟨rfl, rfl⟩ | ⟨other, old⟩
    · rcases cases_ l q held with ⟨rfl, -⟩ | ⟨other, old⟩
      · rfl
      · exact absurd ⟨kind.symm, object.symm⟩ (absent l q other old)
    · rcases cases_ l q held with ⟨rfl, rfl⟩ | ⟨-, old'⟩
      · exact absurd ⟨kind, object⟩ (absent j r other old)
      · exact laws.unique j l r q old old' kind object
  · rcases cases_ j r holds with ⟨rfl, rfl⟩ | ⟨-, old⟩
    · exact slot
    · exact laws.full j r old
  · rcases cases_ j r holds with ⟨rfl, rfl⟩ | ⟨-, old⟩
    · exact ⟨rfl, Nat.le_refl 1, show 1 ≤ 255 by decide⟩
    · exact laws.fits j r old

theorem FaultManager.Recorded.raiseTableFull {f : FaultManager} (laws : f.Recorded) (now : Time) (k : FaultKind) :
    (f.raiseTableFull now k).1.Recorded := by
  unfold FaultManager.raiseTableFull
  split
  · exact (f.reraise_continues now 31 _).recorded laws
  · exact laws.create (fun j r other holds named => other ((laws.full j r holds).1 named.1)) (iff_of_true rfl rfl) now _

/-- No block raises TABLE_FULL by its kind: the Fault Manager alone does, for a fault that is lost (R125). -/
theorem FaultManager.Recorded.raised {f : FaultManager} (laws : f.Recorded) {k : FaultKind} (general : k ≠ .tableFull)
    (now : Time) (n : Byte) (o d : Nat) : (f.raised now n k o d).1.Recorded := by
  have created : ∀ i, f.place now k o = .free i ∨ f.place now k o = .replaces i → (f.create now i k o d).1.Recorded :=
    fun i place => by
      obtain ⟨absent, slot⟩ := place_new place
      exact laws.create (fun j r _ => find_none_iff.1 absent j r) (iff_of_false general slot) now d
  unfold FaultManager.raised
  split
  · exact (f.reraise_continues now _ d).recorded laws
  · next i place => exact created i (.inl place)
  · next i place => exact created i (.inr place)
  · exact laws.raiseTableFull now k

end Sys2Proof.Machine
end

section
/-! PROOFS. Every operation within a step keeps the laws of the fault table's records (R120 to R125): the shared operations, then
block by block. -/

namespace Sys2Proof.Machine

/-! ### From one state to another -/

/-- An operation keeps the laws of the table's records. -/
def KeepsRecords (s t : State) : Prop := s.faults.Recorded → t.faults.Recorded

theorem KeepsRecords.refl (s : State) : KeepsRecords s s := id

theorem KeepsRecords.trans {s t u : State} (h : KeepsRecords s t) (h' : KeepsRecords t u) : KeepsRecords s u := h' ∘ h

theorem KeepsRecords.of_continues {s t : State} (h : s.faults.Continues t.faults) : KeepsRecords s t := h.recorded

theorem KeepsRecords.of_eq {s t : State} (same : t.faults = s.faults) : KeepsRecords s t := fun laws => by rwa [same]

theorem KeepsRecords.of_only {bs : List Block} {s t : State} (h : Only bs s t) (off : .faults ∉ bs) : KeepsRecords s t :=
  .of_eq (h.faults_eq off)

theorem KeepsRecords.ite {s t u : State} {c : Prop} [Decidable c] (ht : KeepsRecords s t) (hu : KeepsRecords s u) :
    KeepsRecords s (if c then t else u) := by
  split
  · exact ht
  · exact hu

/-- An operation that is made under a condition. -/
theorem KeepsRecords.when {s t : State} {c : Prop} [Decidable c] (h : KeepsRecords s t) : KeepsRecords s (if c then t else s) :=
  .ite h (.refl s)

theorem KeepsRecords.foldl {α : Type} {f : State → α → State} (hf : ∀ s a, KeepsRecords s (f s a)) (l : List α) (s : State) :
    KeepsRecords s (l.foldl f s) := by
  induction l generalizing s with
  | nil => exact .refl s
  | cons a l ih => exact (hf s a).trans (ih (f s a))

/-! ### The single-entry updates -/

section
variable (s : State)

theorem setPoint_records (p : Fin 12) (f : Point → Point) : KeepsRecords s (s.setPoint p f) := .of_eq rfl

theorem setSect_records (i : Fin 10) (f : Sect → Sect) : KeepsRecords s (s.setSect i f) := .of_eq rfl

theorem setBarrier_records (b : Fin 4) (f : Barrier → Barrier) : KeepsRecords s (s.setBarrier b f) := .of_eq rfl

theorem setLamp_records (c : Fin 10) (f : Lamp → Lamp) : KeepsRecords s (s.setLamp c f) := .of_eq rfl

theorem setSeq_records (f : Sequencer → Sequencer) : KeepsRecords s (s.setSeq f) := .of_eq rfl

theorem setSupply_records (f : Supply → Supply) : KeepsRecords s (s.setSupply f) := .of_eq rfl

theorem setLine_records (f : LineController → LineController) : KeepsRecords s (s.setLine f) := .of_eq rfl

theorem setReports_records (f : ReportScheduler → ReportScheduler) : KeepsRecords s (s.setReports f) := .of_eq rfl

end

/-! ### The shared operations (R123 to R134) -/

theorem emit_records (os : List Output) (s : State) : KeepsRecords s (emit os s) := .of_only (emit_only os s) (by decide)

theorem deriveMode_records (c : ModeCause) (s : State) : KeepsRecords s (deriveMode c s) :=
  .of_continues (FaultManager.continues_of_table (by rw [deriveMode_faults]))

theorem applyFault_records {g : FaultManager → FaultStep} {s : State} (h : s.faults.Continues (g s.faults).1) :
    KeepsRecords s (applyFault g s) := .of_continues (by rwa [applyFault_faults])

theorem raise_records {k : FaultKind} (general : k ≠ .tableFull) (o d : Nat) (s : State) : KeepsRecords s (raise k o d s) :=
  fun laws => by
    have told : (s.faults.raised s.now (Config.freeByte s.free) k o d).1.Continues (raise k o d s).faults :=
      FaultManager.continues_of_table (by rw [raise_faults])
    exact told.recorded (laws.raised general s.now _ o d)

theorem endCondition_records (k : FaultKind) (o : Nat) (s : State) : KeepsRecords s (endCondition k o s) :=
  (applyFault_records (g := fun f => f.ended s.now k o) (s.faults.ended_continues s.now k o)).trans (deriveMode_records _ _)

theorem endThenRaise_records (e : Option FaultKind) {k : FaultKind} (general : k ≠ .tableFull) (o d : Nat) (s : State) :
    KeepsRecords s (endThenRaise e k o d s) := by
  unfold endThenRaise
  split
  · exact raise_records general o d s
  · next e =>
    have ended : KeepsRecords s (applyFault (fun f => f.endOf s.now e o) s) :=
      applyFault_records (s.faults.endOf_continues s.now e o)
    have raised := (ended.trans (deriveMode_records .ended _)).trans (raise_records general o d _)
    exact (raised.trans (applyFault_records (g := fun f => f.testTableFull s.now)
      (FaultManager.testTableFull_continues _ s.now))).trans (deriveMode_records _ _)

theorem acknowledge_records (req : Requester) (t : AckTarget) (s : State) : KeepsRecords s (acknowledge req t s).2 := by
  unfold acknowledge
  split
  · exact (applyFault_records (g := fun f => f.acked s.now req t) (s.faults.acked_continues s.now req t)).trans
      (deriveMode_records _ _)
  · exact .refl s

theorem release_records (s : State) : KeepsRecords s (release s).2 := by
  have unlatched : KeepsRecords s (s.setFaults fun f => { f with latch := false }) :=
    .of_continues (FaultManager.continues_of_table rfl)
  unfold release
  split
  · exact .refl s
  · exact unlatched.trans (deriveMode_records _ _)

/-! ### The Sequencer (R65 to R79) -/

theorem raiseBarrier_records (b : Fin 4) (s : State) : KeepsRecords s (raiseBarrier b s) := by
  have raised := setBarrier_records s b fun x => x.raised s.now
  have ended : ∀ c : Bool, KeepsRecords s
      (if c then endCondition .barrierDisturbed b.val (s.setBarrier b fun x => x.raised s.now)
        else s.setBarrier b fun x => x.raised s.now) :=
    fun c => .ite (raised.trans (endCondition_records _ _ _)) raised
  exact ended _

theorem toBarriers_records {f : Fin 4 → State → State} (h : ∀ b s, KeepsRecords s (f b s)) (p : Barrier → Bool) (s : State) :
    KeepsRecords s (toBarriers p f s) := .foldl (fun s b => .when (h b s)) _ _

theorem enterOpen_records (s : State) : KeepsRecords s (enterOpen s) := by
  have opened : KeepsRecords s (openedRoad s) := .of_only (openedRoad_only s) (by decide)
  rw [enterOpen_eq]
  exact .ite (opened.trans (endCondition_records _ _ _)) opened

theorem testRaising_records (s : State) : KeepsRecords s (testRaising s) := .when (enterOpen_records s)

theorem enterRaising_records (s : State) : KeepsRecords s (enterRaising s) := by
  have moved : KeepsRecords s (lampCommand .redContinue (seqMove .raising .guardPassed s)) :=
    .of_only ((seqMove_only _ _ s).seq (lampCommand_only _ _) (cs := [.seq, .lamps] ++ recordBlocks) (by decide) (by decide))
      (by decide)
  exact (moved.trans (toBarriers_records raiseBarrier_records _ _)).trans (testRaising_records _)

theorem testClosed_records (s : State) : KeepsRecords s (testClosed s) :=
  .when (.ite (.of_only (guardCommit_only _ s) (by decide)) (enterRaising_records s))

theorem moveAndRelease_records (x : SeqState) (c : SeqCause) (l : LampCmd) (p : Barrier → Bool) (s : State) :
    KeepsRecords s (toBarriers p releaseBarrier (lampCommand l (seqMove x c s))) :=
  .of_only (moveAndRelease_only x c l p s) (by decide)

theorem enterClosed_records (s : State) : KeepsRecords s (enterClosed s) :=
  (moveAndRelease_records _ _ _ _ s).trans (testClosed_records _)

theorem testLowerExit_records (s : State) : KeepsRecords s (testLowerExit s) := .when (enterClosed_records s)

theorem enterLowerExit_records (s : State) : KeepsRecords s (enterLowerExit s) :=
  (moveAndRelease_records _ _ _ _ s).trans (testLowerExit_records _)

theorem testLowerEntry_records (s : State) : KeepsRecords s (testLowerEntry s) := by
  have unmarked := setSeq_records s fun q => { q with exitMark := none }
  exact .when (unmarked.trans (.ite (enterLowerExit_records _) (enterClosed_records _)))

theorem setExitMark_records (s : State) : KeepsRecords s (setExitMark s) := .of_eq rfl

theorem enterLowerEntry_records (s : State) : KeepsRecords s (enterLowerEntry s) :=
  ((moveAndRelease_records _ _ _ _ s).trans (setExitMark_records _)).trans (testLowerEntry_records _)

theorem reclose_records (s : State) : KeepsRecords s (reclose s) :=
  ((moveAndRelease_records _ _ _ _ s).trans (setExitMark_records _)).trans (testLowerEntry_records _)

theorem takeDemand_records (s : State) : KeepsRecords s (takeDemand s) := by
  unfold takeDemand
  split
  · exact .when (.of_only (leaveOpen_only _ _ _ s) (by decide))
  · exact .when (reclose_records s)
  · exact testClosed_records s
  · exact .refl s

theorem barrierChanged_records (s : State) : KeepsRecords s (barrierChanged s) := by
  unfold barrierChanged
  split
  · exact testLowerEntry_records s
  · exact testLowerExit_records s
  · exact testClosed_records s
  · exact testRaising_records s
  · exact .refl s

theorem react_records (s : State) : KeepsRecords s (react s) :=
  (takeDemand_records s).trans (.of_only (lineSettle_only _) (by decide))

theorem hold_records (signaller : Bool) (v : Nat) (s : State) : KeepsRecords s (hold signaller v s).2 := by
  have changed : ∀ f : Sequencer → Sequencer, KeepsRecords s (holdChanged (s.setSeq f)) := fun f =>
    ((setSeq_records s f).trans (emit_records _ _)).trans (takeDemand_records _)
  have set : ∀ on, KeepsRecords s (setHold signaller on s) := fun on =>
    .ite (.ite (.refl s) (changed _)) (.ite (.refl s) (changed _))
  unfold hold
  split
  · exact set false
  · exact set true
  · exact .refl s

/-! ### Barriers (R105 to R116) -/

theorem barrierFaultReport_records (s : State) : KeepsRecords s (barrierFaultReport s) :=
  .of_only (barrierFaultReport_only s) (by decide)

theorem barrierFail_general : FaultKind.barrierFail ≠ .tableFull := by decide

theorem barrierFault_records (b : Fin 4) (d : Nat) (s : State) : KeepsRecords s (barrierFault b d s) := by
  have fallen : KeepsRecords s (barrierFallen b d s) :=
    ((setBarrier_records s b _).trans (endThenRaise_records _ barrierFail_general _ _ _)).trans (emit_records _ _)
  have reported : ∀ t : State, KeepsRecords t (takeFaultReport t) := fun t =>
    have free : KeepsRecords t t.tookFree := .of_eq rfl
    .ite ((free.trans (.ite (takeDemand_records _) (.refl _))).trans (barrierFaultReport_records _))
      (barrierFaultReport_records t)
  rw [barrierFault_eq]
  exact ((fallen.trans (reported _)).trans (takeDemand_records _)).trans (barrierChanged_records _)

theorem keepBarrier_records (b : Fin 4) (x : Barrier) (s : State) : KeepsRecords s (keepBarrier b x s) := by
  have set := setBarrier_records s b fun _ => x
  have ended : ∀ c : Bool, KeepsRecords s
      (if c then endCondition .barrierDisturbed b.val (s.setBarrier b fun _ => x) else s.setBarrier b fun _ => x) :=
    fun c => .ite (set.trans (endCondition_records _ _ _)) set
  exact .ite (ended _) ((ended _).trans (barrierChanged_records _))

theorem judgeBarrier_records (b : Fin 4) (s : State) : KeepsRecords s (judgeBarrier b s) := by
  unfold judgeBarrier
  split
  · exact keepBarrier_records b _ s
  · exact barrierFault_records b _ s

theorem takeLimit_records (b : Fin 4) (s : State) : KeepsRecords s (takeLimit b s) := by
  unfold takeLimit
  split
  · exact barrierFault_records b _ s
  · exact judgeBarrier_records b s

theorem acceptContacts_records (b : Fin 4) (up down : Bool) (s : State) : KeepsRecords s (acceptContacts b up down s) :=
  (setBarrier_records s b _).trans (judgeBarrier_records b _)

theorem settleBarrier_records (b : Fin 4) (s : State) : KeepsRecords s (settleBarrier b s) :=
  ((setBarrier_records s b _).trans (endCondition_records _ _ _)).trans (barrierChanged_records _)

/-! ### Sections and trains (R22 to R60) -/

theorem SectEffect.raised_records (e : SectEffect) (s : State) : KeepsRecords s (e.raised s) := by
  unfold SectEffect.raised
  split
  · exact .refl s
  · split
    · exact .refl s
    · exact raise_records (by decide) _ _ s

theorem setEffects_records (es : List SectEffect) (s : State) : KeepsRecords s (setEffects es s) :=
  KeepsRecords.foldl (fun s (e : SectEffect) => setSect_records s e.index fun _ => e.change.new) es s

theorem applyEffects_records (es : List SectEffect) (p : Option (Fin 12)) (s : State) :
    KeepsRecords s (applyEffects es p s) :=
  ((setEffects_records es s).trans (emit_records _ _)).trans (.foldl (fun s e => e.raised_records s) es _)

theorem endRecords_records (l : List (Fin 10)) (s : State) : KeepsRecords s (endRecords l s) :=
  .of_only (endRecords_only l s) (by decide)

theorem carryOutRestore_records (i : Fin 10) (m : RestoreMode) (s : State) : KeepsRecords s (carryOutRestore i m s) := by
  have ended := (applyEffects_records [⟨i, s.sections[i], s.sections[i].restored m⟩] none s).trans
    (endCondition_records .sectionDisturbed i.val _)
  unfold carryOutRestore
  cases m with
  | direct => exact ended.trans (endRecords_records _ _)
  | sweep =>
    exact ((ended.trans (.of_only (sweepCommits_only i _) (by decide))).trans (takeDemand_records _)).trans
      (endRecords_records _ _)

theorem restore_records (n m : Nat) (s : State) : KeepsRecords s (restore n m s).2 := by
  unfold restore
  split
  · split
    · split
      · exact carryOutRestore_records _ _ s
      · exact .refl s
    · exact .refl s
  · exact .refl s

theorem speedChecks_records (k : Fin 4) (p : Fin 12) (n : Option Nat) (s : State) :
    KeepsRecords s (speedChecks k p n s) := by
  unfold speedChecks
  split
  · exact emit_records _ s
  · split
    · exact .refl s
    · exact .when ((emit_records _ s).trans (raise_records (by decide) _ _ _))

theorem commitRecord_records (k : Fin 4) (c : CommitCause) (t : Time) (short : Bool) (s : State) :
    KeepsRecords s (commitRecord k c t short s) := .of_only (commitRecord_only k c t short s) (by decide)

theorem commitTest_records (k : Fin 4) (t : Nat) (s : State) : KeepsRecords s (commitTest k t s) := by
  have commits := commitRecord_records k .prediction s.now
  unfold commitTest
  split
  · exact .refl s
  · refine .ite (.refl s) (.when (.ite ?_ (commits false s)))
    exact ((commits true s).trans (emit_records _ _)).trans (raise_records (by decide) _ _ _)

theorem predict_records (k : Fin 4) (p : Fin 12) (n : Option Nat) (s : State) : KeepsRecords s (predict k p n s) := by
  have set : ∀ t r, KeepsRecords t (t.setRecord k r) := fun t r => .of_eq rfl
  unfold predict
  split
  · exact .refl s
  · exact (((speedChecks_records k p n s).trans (set _ _)).trans (emit_records _ _)).trans (commitTest_records k _ _)

theorem lateClosureTest_records (k : Fin 4) (s : State) : KeepsRecords s (lateClosureTest k s) :=
  .ite (.refl s) ((emit_records _ s).trans (raise_records (by decide) _ _ _))

theorem arrival_records (k : Fin 4) (p : Fin 12) (s : State) : KeepsRecords s (arrival k p s) := by
  have arrived : KeepsRecords s (arriveRecord k p s) := .of_only (arriveRecord_only k p s) (by decide)
  have took : ∀ t : State, KeepsRecords t t.tookFree := fun t => .of_eq rfl
  exact arrived.trans (.ite ((took _).trans (KeepsRecords.trans (.ite (takeDemand_records _) (.refl _))
    (lateClosureTest_records k _))) (lateClosureTest_records k _))

theorem takeAxle_records (p : Fin 12) (d : Dir) (n : Option Nat) (s : State) : KeepsRecords s (takeAxle p d n s) := by
  have created : ∀ k, KeepsRecords s (createRecord k p s) := fun k => .of_only (createRecord_only k p s) (by decide)
  unfold takeAxle
  split
  · exact .refl s
  · dsimp only
    split
    · split
      · exact (created _).trans (arrival_records _ p _)
      · split
        · exact arrival_records _ p s
        · exact .of_only (islandEntry_only _ s) (by decide)
    · refine .when ?_
      split
      · exact ((created _).trans (predict_records _ p n _)).trans (.of_only (testPrepared_only _ _) (by decide))
      · exact .when (predict_records _ p n s)

/-! ### Points (R4 to R15) -/

theorem axleEvent_records (p : Fin 12) (d : Dir) (n : Option Nat) (s : State) : KeepsRecords s (axleEvent p d n s) :=
  (((emit_records [.count (cntAxles p)] s).trans (applyEffects_records _ (some p) _)).trans
    (takeAxle_records p d n _)).trans (endRecords_records _ _)

theorem skewEvent_records (p : Fin 12) (s : State) : KeepsRecords s (skewEvent p s) :=
  ((emit_records [.count cntSequenceErrors] s).trans (applyEffects_records _ (some p) _)).trans (endRecords_records _ _)

theorem pointEvent_records (p : Fin 12) (e : Option PointEvent) (s : State) : KeepsRecords s (pointEvent p e s) := by
  unfold pointEvent
  split
  · exact .refl s
  · exact axleEvent_records p _ _ s
  · exact skewEvent_records p s

theorem pointTick_records (p : Fin 12) (a b expiring : Bool) (s : State) :
    KeepsRecords s (pointTick p a b expiring s) := by
  have told : ∀ (y : Point) (raises : Bool) (d : Nat) (e : Option PointEvent), KeepsRecords s
      (pointEvent p e (if raises then raise .headFault p.val d (s.setPoint p fun _ => y) else s.setPoint p fun _ => y)) :=
    fun y raises d e =>
      have set := setPoint_records s p fun _ => y
      KeepsRecords.trans (.ite (set.trans (raise_records (by decide) _ _ _)) set) (pointEvent_records p e _)
  exact told _ _ _ _

theorem headTick_records (p : Fin 12) (a b : Window) (s : State) : KeepsRecords s (headTick p a b s) :=
  (setPoint_records s p _).trans (pointTick_records p _ _ _ _)

theorem endQuiet_records (p : Fin 12) (s : State) : KeepsRecords s (endQuiet p s) :=
  (setPoint_records s p _).trans (endCondition_records _ _ _)

/-! ### Lamps and supplies (R92 to R96, R136) -/

theorem onChange_records (was is : Bool) {k : FaultKind} (general : k ≠ .tableFull) (o d : Nat) (s : State) :
    KeepsRecords s (onChange was is k o d s) :=
  .ite (raise_records general o d s) (.when (endCondition_records k o s))

theorem litSample_records (c : Fin 10) (mA : Nat) (s : State) : KeepsRecords s (litSample c mA s) := by
  have set := setLamp_records s c
  have failed : ∀ (f : Lamp → Lamp) (good was is : Bool) (d : Nat), KeepsRecords s (onChange was is .lampFail c.val d
      (if good then s.setLamp c f else emit [.count cntLampProofFails] (s.setLamp c f))) :=
    fun f _ _ _ _ => KeepsRecords.trans (.ite (set f) ((set f).trans (emit_records _ _)))
      (onChange_records _ _ (by decide) _ _ _)
  have side := fun (was is : Bool) => onChange_records was is (k := .roadSideDark) (by decide)
  unfold litSample
  exact .ite (failed _ _ _ _ _) (((failed _ _ _ _ _).trans (side _ _ _ _ _)).trans (side _ _ _ _ _))

theorem darkSampleTaken_records (c : Fin 10) (mA : Nat) (s : State) : KeepsRecords s (darkSampleTaken c mA s) :=
  (setLamp_records s c _).trans (onChange_records _ _ (k := .lampStuckOn) (by decide) _ _ _)

theorem lampTestRequest_records (s : State) : KeepsRecords s (lampTestRequest s).2 := by
  unfold lampTestRequest
  split
  · exact .refl s
  · split
    · exact .of_only (testFrom_only _ _ s) (by decide)
    · exact .refl s

theorem supplyFault_general (input : SupplyInput) : supplyFault input ≠ .tableFull := by cases input <;> decide

theorem acceptSupply_records (input : SupplyInput) (ok : Bool) (s : State) : KeepsRecords s (acceptSupply input ok s) := by
  have set := setSupply_records s
  exact .ite (set _) (.ite ((set _).trans (endCondition_records _ _ _))
    ((set _).trans (raise_records (supplyFault_general input) _ _ _)))

/-! ### The signaller line (R143 to R173) -/

/-- Marks beside the records. -/
theorem setMarks_records (s : State) {g : FaultSlot → FaultSlot} (same : ∀ x, (g x).record = x.record) :
    KeepsRecords s (s.setFaults fun f => { f with table := remake f.table fun _ x => g x }) :=
  .of_continues (s.faults.continues_of_remake fun _ x => FaultSlot.continues_of_record (same x))

theorem setMark_records (s : State) (i : Fin 32) {g : FaultSlot → FaultSlot} (same : ∀ x, (g x).record = x.record) :
    KeepsRecords s (s.setFaults fun f => { f with table := upd f.table i g }) :=
  .of_continues (FaultManager.continues_of_set rfl (FaultSlot.continues_of_record (same _)))

theorem freeze_records (c : Content) (s : State) : KeepsRecords s (freeze c s) := by
  unfold freeze
  split
  · exact .of_continues (s.faults.continues_of_remake fun i x => FaultSlot.continues_of_record (by split <;> rfl))
  · split
    · exact .of_eq rfl
    · exact .of_eq rfl

theorem FaultSlot.reported_continues (x : FaultSlot) (now : Time) : x.Continues (x.reported now) := by
  unfold FaultSlot.reported
  split
  · next r _ holds =>
    exact fun q held => ⟨r, holds, Option.some.inj held ▸ ⟨rfl, rfl, rfl, fun low high => ⟨low, high⟩⟩⟩
  · exact FaultSlot.continues_of_record rfl

theorem writeMarks_records (f : TxFrame) (s : State) : KeepsRecords s (writeMarks f s) := by
  unfold writeMarks
  split
  · exact .of_continues (s.faults.continues_of_remake fun _ x => x.reported_continues s.now)
  · split
    · exact .of_eq rfl
    · exact .of_eq rfl

theorem notSent_records (s : State) : KeepsRecords s (notSent s) :=
  (setMarks_records s (g := fun x => { x with carried := none }) fun _ => rfl).trans (setReports_records _ _)

theorem giveUp_records (rx : RxState) (hb : List Bool) (q : Nat) (s : State) : KeepsRecords s (giveUp rx hb q s) :=
  (setLine_records s _).trans (notSent_records _)

theorem abandon_records (s : State) : KeepsRecords s (abandon s) := by
  unfold abandon
  split
  · exact .refl s
  · exact .ite (giveUp_records _ _ _ s) (setLine_records s _)

theorem linkEdges_records (old new : LinkState) (s : State) : KeepsRecords s (linkEdges old new s) := by
  have gone : ∀ t, KeepsRecords t (linkGone t) := fun t =>
    (setMarks_records t (g := fun x => { x with forced := false }) fun _ => rfl).trans (setReports_records _ _)
  have up : ∀ t, KeepsRecords t (linkUp t) := fun t =>
    ((setMarks_records t (g := fun x => { x with forced := x.record.isSome }) fun _ => rfl).trans
      (setReports_records _ _)).trans (setReports_records _ _)
  have edges : KeepsRecords s (if new = .active then linkUp (if old = .active then linkGone (abandon s) else s)
      else if old = .active then linkGone (abandon s) else s) :=
    KeepsRecords.trans (.when ((abandon_records s).trans (gone _))) (.when (up _))
  exact edges

theorem linkGo_records (new : LinkState) (cause : LinkCause) (s : State) : KeepsRecords s (linkGo new cause s) :=
  ((setLine_records s _).trans (emit_records _ _)).trans (linkEdges_records _ _ _)

theorem takeBeacon_records (s : State) : KeepsRecords s (takeBeacon s) := by
  unfold takeBeacon
  split
  · exact (linkGo_records _ _ s).trans (setLine_records _ _)
  · exact ((linkGo_records _ _ s).trans (setLine_records _ _)).trans (endCondition_records _ _ _)
  · exact .ite (setLine_records s _) ((linkGo_records _ _ s).trans (setLine_records _ _))
  · exact setLine_records s _

theorem loseLink_records (s : State) : KeepsRecords s (loseLink s) :=
  (linkGo_records _ _ s).trans (raise_records (by decide) _ _ _)

theorem sigExecute_records (kind : Byte) (payload : List Byte) (s : State) :
    KeepsRecords s (sigExecute kind payload s).2 := by
  have stays := KeepsRecords.refl s
  unfold sigExecute
  split
  · split; exacts [.of_only (statusDue_only s) (by decide), stays]
  · split
    · split; exacts [acknowledge_records _ _ s, stays]
    · split
      · split; exacts [restore_records _ _ s, stays]
      · split
        · split; exacts [hold_records _ _ s, stays]
        · split
          · split; exacts [release_records s, stays]
          · exact stays

theorem takeCommand_records (src : BitVec 6) (kind : Byte) (addr : Addressing) (payload : List Byte) (s : State) :
    KeepsRecords s (takeCommand src kind addr payload s) := by
  have logged := fun r t => KeepsRecords.of_only (sigLog_only src kind addr r payload t) (by decide)
  unfold takeCommand
  split
  · have done := (sigExecute_records kind payload s).trans (logged (some (sigExecute kind payload s).1) _)
    dsimp only
    split
    · exact done.trans (.of_only (fillConfirm_only _ _ _) (by decide))
    · exact done
  · exact logged _ s

theorem completeFrame_records (h : LineHead) (kind : Byte) (payload : List Byte) (s : State) :
    KeepsRecords s (completeFrame h kind payload s) := by
  have lowered := setLine_records s LineController.waitsToBase
  have counted : ∀ t, KeepsRecords t (emit [.count cntLineGood] t) := emit_records _
  have addressed : ∀ addr t, KeepsRecords t (addressedFrame h kind addr payload t) := fun addr t =>
    .ite ((counted t).trans (.when (takeBeacon_records _))) ((counted t).trans (.when (takeCommand_records _ _ _ _ _)))
  unfold completeFrame
  refine .ite (.refl s) ?_
  dsimp only
  split
  · exact lowered
  · exact lowered.trans (addressed _ _)

theorem badFrame_records (rx : RxState) (q : Nat) (s : State) : KeepsRecords s (badFrame rx q s) :=
  .of_only (badFrame_only rx q s) (by decide)

theorem takeLine_records (rx : RxState) (asm : List Byte) (s : State) : KeepsRecords s (takeLine rx asm s) := .of_eq rfl

theorem takeChar_records (s : State) (c : Byte) : KeepsRecords s (takeChar s c) := by
  unfold takeChar
  split
  · dsimp only
    split
    · exact takeLine_records _ _ s
    · exact (takeLine_records _ _ s).trans (badFrame_records _ _ _)
    · exact (takeLine_records _ _ s).trans (badFrame_records _ _ _)
    · exact ((takeLine_records _ _ s).trans (completeFrame_records _ _ _ _)).trans (react_records _)
  · exact .when (setLine_records s _)

theorem takeChars_records (cs : List Byte) (s : State) : KeepsRecords s (takeChars cs s) := .foldl takeChar_records cs s

theorem framingError_records (s : State) : KeepsRecords s (framingError s) :=
  .ite ((takeLine_records _ _ s).trans (badFrame_records _ _ _)) (.when (setLine_records s _))

theorem gapAbort_records (s : State) : KeepsRecords s (gapAbort s) := .of_only (gapAbort_only s) (by decide)

theorem lineSettle_records (s : State) : KeepsRecords s (lineSettle s) := .of_only (lineSettle_only s) (by decide)

theorem frameSent_records (s : State) : KeepsRecords s (frameSent s) := by
  unfold frameSent
  split
  · exact .refl s
  · next f _ =>
    exact ((emit_records _ s).trans (writeMarks_records f _)).trans
      (KeepsRecords.trans (setLine_records _ _) (lineSettle_records _))

theorem loseArbitration_records (s : State) : KeepsRecords s (loseArbitration s) := by
  have counted : KeepsRecords s (emit [.count cntArbLost] (s.setLine LineController.sampledNow)) :=
    (setLine_records s _).trans (emit_records _ _)
  unfold loseArbitration
  split
  · exact .refl s
  · exact .ite (((counted.trans (emit_records _ _)).trans (giveUp_records _ _ _ _)).trans (lineSettle_records _))
      ((counted.trans (giveUp_records _ _ _ _)).trans (lineSettle_records _))

theorem collide_records (s : State) : KeepsRecords s (collide s) := by
  unfold collide
  split
  · exact .refl s
  · exact (((setLine_records s _).trans (emit_records _ _)).trans (giveUp_records _ _ _ _)).trans (lineSettle_records _)

theorem lineTick_records (rate : Nat) (s : State) : KeepsRecords s (lineTick rate s) := by
  have ticked := setLine_records s fun l => l.tick rate
  have begins : ∀ cls t, KeepsRecords t (startBit cls t) := fun cls t => by
    unfold startBit
    split
    · exact KeepsRecords.trans (setLine_records t _) (lineSettle_records _)
    · exact KeepsRecords.trans (setLine_records t _) (freeze_records _ _)
  unfold lineTick
  dsimp only
  split
  · exact .ite (ticked.trans (begins _ _)) ticked
  · exact ticked

/-! ### The start of service (R136, R139, R203, R204) -/

theorem startFaults_recorded (s : State) : (startFaults s).faults.Recorded := by
  have emptied : (s.setFaults fun _ =>
      { table := Vector.replicate 32 FaultSlot.empty, latch := true, mode := some .failed }).faults.Recorded :=
    FaultManager.recorded_of_empty fun i => by simp [FaultSlot.empty]
  exact emit_records _ _ emptied

theorem startBarriers_records (s : State) : KeepsRecords s (startBarriers s) := by
  have set : KeepsRecords s (barriersSet s) := .of_eq rfl
  rw [startBarriers_eq]
  exact set.trans (.foldl (fun s b => .when ((raise_records (by decide) _ _ s).trans (emit_records _ _))) _ _)

theorem startSupply_records (s : State) : KeepsRecords s (startSupply s) := by
  have set := setSupply_records s
  have raises : ∀ (c : Bool) (k : FaultKind) (t : State), k ≠ .tableFull → KeepsRecords t (if c then t else raise k 0 0 t) :=
    fun c k t general => .ite (.refl t) (raise_records general 0 0 t)
  exact (set _).trans ((raises _ .supplyMains _ (by decide)).trans (raises _ .supplyBattery _ (by decide)))

theorem startSections_records (s : State) : KeepsRecords s (startSections s) := applyEffects_records (startEffects s) none s

theorem serviceFromSections_records (s : State) : KeepsRecords s (serviceFromSections s) :=
  (((startSections_records s).trans (startBarriers_records _)).trans (startSupply_records _)).trans (emit_records _ _)

theorem serviceFromLamps_records (s : State) : KeepsRecords s (serviceFromLamps s) := by
  have lamps : KeepsRecords s (startSequencer (startLamps s)) :=
    KeepsRecords.trans (.of_only (startLamps_only s) (by decide)) (.of_only (startSequencer_only _) (by decide))
  have slots : ∀ t, KeepsRecords t (startSlots (startPoints t)) := fun t =>
    KeepsRecords.trans (.of_only (startPoints_only t) (by decide)) (.of_only (startSlots_only _) (by decide))
  exact (lamps.trans (slots _)).trans (serviceFromSections_records _)

/-- The start of service empties the table and raises what it finds (R139). -/
theorem startService_recorded (old : Option LinkState) (s : State) : (startService old s).faults.Recorded := by
  rw [startService_eq]
  unfold serviceFromLine serviceFromFaults
  exact serviceFromLamps_records _ (startFaults_recorded _)

theorem coldStart_recorded (s : State) : (coldStart s).faults.Recorded :=
  FaultManager.recorded_of_empty fun i => by simp [coldStart, State.reset, FaultManager.cold, FaultSlot.empty]

end Sys2Proof.Machine
end

section
/-! PROOFS. Every step keeps the laws of the fault table, the Sequencer's state in RUN alone and the mode the derived one (R84,
R120 to R125, R130 to R132, R139). -/

namespace Sys2Proof.Machine

/-! ### The rules, and what keeps them -/

/-- The rules of the fault table and of the mode, with the one the reaction rests on in CONFIG (R84, R122, R131). -/
structure TableRules (s : State) : Prop where
  recorded : s.faults.Recorded
  sequencer : SequencerInRun s
  mode : ModeDerived s

theorem tableRules_iff (s : State) :
    TableRules s ↔ RecordsUnique s ∧ RecordsFit s ∧ SequencerInRun s ∧ ModeDerived s := by
  rw [← and_assoc, ← recorded_iff]
  exact ⟨fun ⟨recorded, sequencer, mode⟩ => ⟨recorded, sequencer, mode⟩,
    fun ⟨recorded, sequencer, mode⟩ => ⟨recorded, sequencer, mode⟩⟩

/-- A command, or a part of one, keeps the rules. -/
def KeepsTable (s t : State) : Prop := TableRules s → TableRules t

theorem KeepsTable.refl (s : State) : KeepsTable s s := id

theorem KeepsTable.trans {s t u : State} (h : KeepsTable s t) (h' : KeepsTable t u) : KeepsTable s u := h' ∘ h

theorem KeepsTable.ite {s t u : State} {c : Prop} [Decidable c] (ht : c → KeepsTable s t) (hu : ¬c → KeepsTable s u) :
    KeepsTable s (if c then t else u) := by
  split
  · next holds => exact ht holds
  · next fails => exact hu fails

/-- A command that takes effect only when it is due. -/
theorem KeepsTable.due {s t : State} {c : Prop} [Decidable c] (h : c → KeepsTable s t) : KeepsTable s (if c then t else s) :=
  .ite h fun _ => .refl s

theorem KeepsTable.foldl {α : Type} {f : State → α → State} (hf : ∀ s a, KeepsTable s (f s a)) (l : List α) (s : State) :
    KeepsTable s (l.foldl f s) := by
  induction l generalizing s with
  | nil => exact .refl s
  | cons a l ih => exact (hf s a).trans (ih (f s a))

theorem SequencerInRun.of_live {s t : State} (h : SequencerInRun s) (part : t.part = s.part)
    (live : t.seq.state.isSome = s.seq.state.isSome) : SequencerInRun t := by
  unfold SequencerInRun
  rw [live, part]
  exact h

/-- Within RUN: what an operation carries over of the latch and the mode, with the laws of the records. -/
theorem KeepsTable.of_carries {s t : State} (run : s.part = .run) (h : CarriesUp s t) (records : KeepsRecords s t) :
    KeepsTable s t := fun ⟨recorded, sequencer, derives, latched, _⟩ =>
  ⟨records recorded, sequencer.of_live h.part h.live, fun _ => h.faults.derives (derives run), h.faults.latched latched,
    fun config => absurd ((h.part.trans run).symm.trans config) (by decide)⟩

/-- Within RUN, with the demand taken afterwards (R64). -/
theorem KeepsTable.reacted {s u : State} (run : s.part = .run) (h : CarriesUp s u) (records : KeepsRecords s u) :
    KeepsTable s (react u) := .of_carries run (h.trans (react_carries u)) (records.trans (react_records u))

/-- In CONFIG as in RUN: a change that leaves the Sequencer's state and, of the Fault Manager, what neither latch nor mode
reads. -/
theorem KeepsTable.of_alike {s t : State} (part : t.part = s.part) (state : t.seq.state = s.seq.state)
    (alike : s.faults.Alike t.faults) (records : KeepsRecords s t) : KeepsTable s t :=
  fun ⟨recorded, sequencer, derives, latched, config⟩ =>
    ⟨records recorded, sequencer.of_live part (by rw [state]), fun run => alike.follows.derives (derives (part.symm.trans run)),
      alike.follows.latched latched, fun off => by rw [alike.mode, alike.latch]; exact config (part.symm.trans off)⟩

theorem KeepsTable.of_eq {s t : State} (part : t.part = s.part) (state : t.seq.state = s.seq.state)
    (faults : t.faults = s.faults) : KeepsTable s t :=
  .of_alike part state (by rw [faults]; exact .refl _) (.of_eq faults)

section
variable {bs : List Block} {s t : State} (h : Only bs s t)
include h

theorem KeepsTable.of_only (off : ∀ b ∈ [Block.part, .seq, .faults], b ∉ bs) : KeepsTable s t :=
  .of_eq (h.part_eq (off _ (by decide))) (h.state_eq (off _ (by decide))) (h.faults_eq (off _ (by decide)))

/-- A change of marks beside the records, on the signaller line. -/
theorem KeepsTable.of_marks (off : ∀ b ∈ [Block.part, .seq], b ∉ bs) (alike : s.faults.Alike t.faults)
    (records : KeepsRecords s t) : KeepsTable s t :=
  .of_alike (h.part_eq (off _ (by decide))) (h.state_eq (off _ (by decide))) alike records

end

theorem emit_keepsTable (os : List Output) (s : State) : KeepsTable s (emit os s) := .of_only (emit_only os s) (by decide)

theorem setHost_keepsTable (s : State) (f : HostPort → HostPort) : KeepsTable s (s.setHost f) :=
  .of_only (setHost_only s f) (by decide)

theorem setMemory_keepsTable (s : State) (f : RecordMemory → RecordMemory) : KeepsTable s (s.setMemory f) := .of_eq rfl rfl rfl

theorem setLine_keepsTable (s : State) (f : LineController → LineController) : KeepsTable s (s.setLine f) := .of_eq rfl rfl rfl

/-- A mark beside a fault record (R166, R167). -/
theorem setMark_keepsTable (s : State) (i : Fin 32) {g : FaultSlot → FaultSlot} (same : ∀ x, (g x).record = x.record) :
    KeepsTable s (s.setFaults fun f => { f with table := upd f.table i g }) :=
  .of_marks (setFaults_only s _) (by decide) (s.faults.upd_alike i same) (setMark_records s i same)

theorem lineSettle_keepsTable (s : State) : KeepsTable s (lineSettle s) := .of_only (lineSettle_only s) (by decide)

theorem setPins_keepsTable (s : State) (f : Pins → Pins) : KeepsTable s (s.setPins f) := .of_only (setPins_only s f) (by decide)

/-- In CONFIG the Sequencer has no state, and the reaction changes nothing (R84). -/
theorem react_of_config {s : State} (config : s.part = .config) (sequencer : SequencerInRun s) : react s = s := by
  have none_ : s.seq.state = none := by
    cases state : s.seq.state with
    | none => rfl
    | some x => exact absurd (config.symm.trans (sequencer.1 (by rw [state]; rfl))) (by decide)
  unfold react
  rw [takeDemand_closing (.inl none_)]
  exact if_neg (by rw [config]; decide)

theorem react_keepsTable (s : State) : KeepsTable s (react s) := fun rules => by
  cases part : s.part with
  | run => exact KeepsTable.reacted part (.refl s) (.refl s) rules
  | config => rwa [react_of_config part rules.sequencer]

/-! ### Resets and the start of service (R203 to R205) -/

theorem coldStart_keepsTable (s t : State) : KeepsTable s (coldStart t) := fun _ =>
  ⟨coldStart_recorded t, (coldStart_rules t).2.sequencer, (coldStart_rules t).2.mode⟩

theorem startService_tableRules (old : Option LinkState) {s : State} (run : s.part = .run) : TableRules (startService old s) :=
  have road := startService_road old run
  ⟨startService_recorded old s, road.sequencer, road.mode⟩

theorem commitStart_keepsTable (s : State) : KeepsTable s (commitStart s) := fun _ => by
  rw [commitStart_eq]
  exact startService_tableRules none rfl

theorem warmStart_keepsTable {s : State} (run : s.part = .run) : KeepsTable s (warmStart s) := fun _ => by
  have started : TableRules (startService (some s.line.link) (s.setMemory fun m => { m with armed := true })) :=
    startService_tableRules _ run
  have tested : ∀ t : State, KeepsTable t (levelTest t) := fun t => .due fun _ =>
    (setMemory_keepsTable t _).trans (.of_only (queueNotice_only _ _) (by decide))
  exact tested _ started

/-! ### Host requests (R195 to R205) -/

theorem hostLog_keepsTable (q : Request) (r : Result) (items : List Byte) (s : State) : KeepsTable s (hostLog q r items s) :=
  emit_keepsTable _ s

/-- A run-time action: its effect, then the demand, then its record (R198). -/
theorem acted_keepsTable {q : Request} {items : List Byte} {x : Result × State} {s : State} (run : s.part = .run)
    (h : CarriesUp s x.2) (records : KeepsRecords s x.2) : KeepsTable s (acted q items x).state := by
  rw [acted_state]
  exact (KeepsTable.reacted run h records).trans (hostLog_keepsTable _ _ _ _)

theorem restartRequest_keepsTable (mode : Nat) (s : State) : KeepsTable s (restartRequest mode s).state := by
  unfold restartRequest
  split
  · exact coldStart_keepsTable s s
  · split
    · exact (hostLog_keepsTable .restart .ok [byte 1] s).trans (setHost_keepsTable _ fun h => { h with warmPending := true })
    · exact .refl s
  · rw [answer_state]
    exact hostLog_keepsTable .restart .outOfRange [byte mode] s

/-- A configuration request leaves the Sequencer's state and the Fault Manager. -/
theorem configured_keepsTable {s : State} {new : Option State} (h : ∀ t, new = some t → ConfigStands s t) :
    KeepsTable s (configured new s).state := by
  cases new with
  | none => exact .refl s
  | some t =>
    obtain ⟨part, state, faults, -, -⟩ := h t rfl
    exact .of_eq part state faults

theorem commitRequest_keepsTable (s : State) : KeepsTable s (commitRequest s).state := by
  unfold commitRequest
  split
  · exact .refl s
  · rw [answer_state]
    exact commitStart_keepsTable s

theorem clearCounters_keepsTable (first count : Nat) (s : State) : KeepsTable s (clearCounters first count s) := by
  unfold clearCounters
  exact .of_eq rfl rfl rfl

theorem readCountersRequest_keepsTable (first count clear : Nat) (s : State) :
    KeepsTable s (readCountersRequest first count clear s).state := by
  unfold readCountersRequest
  split
  · rw [answer_state]
    exact .due fun _ => clearCounters_keepsTable first count s
  · exact .refl s

theorem readLogRequest_keepsTable (n : Nat) (s : State) : KeepsTable s (readLogRequest n s).state := by
  unfold readLogRequest
  split
  · rw [answer_state]
    exact setMemory_keepsTable s _
  · exact .refl s

theorem readPassageRequest_keepsTable (n : Nat) (s : State) : KeepsTable s (readPassageRequest n s).state := by
  unfold readPassageRequest
  split
  · rw [answer_state]
    exact setMemory_keepsTable s _
  · exact .refl s

theorem hostRestoreRequest_records (n m : Nat) (s : State) : KeepsRecords s (hostRestoreRequest n m s).2 := by
  unfold hostRestoreRequest
  split
  · exact .refl s
  · exact restore_records n m s

theorem whileLinkDown_records {f : State → Result × State} {s : State} (h : KeepsRecords s (f s).2) :
    KeepsRecords s (whileLinkDown f s).2 := by
  unfold whileLinkDown
  split
  · exact .refl s
  · exact h

theorem ackTaken_records (payload : List Byte) (s : State) : KeepsRecords s (ackTaken payload s) := .ite (.refl s) (.of_eq rfl)

/-- A request is served in the part that allows it: run-time actions in RUN (R195). -/
theorem serve_keepsTable {q : Request} (payload : List Byte) {s : State} (allowed : q.allowedIn s.part = true) :
    KeepsTable s (serve q payload s).state := by
  have run : ∀ {p : Part}, (p == .run) = true → p = .run := fun h => by simpa using h
  cases q with
  | identify | readTime | readState | readSections | readRecords => exact .refl s
  | configPoint => exact configured_keepsTable fun _ => setPointConfig_stands
  | configSection => exact configured_keepsTable fun _ => setSectionConfig_stands
  | configTrack => exact configured_keepsTable fun _ => setTrackConfig_stands
  | configTiming => exact configured_keepsTable fun _ => setTimingConfig_stands
  | configFlash => exact configured_keepsTable fun _ => setFlashConfig_stands
  | configLamp => exact configured_keepsTable fun _ => setLampConfig_stands
  | configBarrier => exact configured_keepsTable fun _ => setBarrierConfig_stands
  | configLink => exact configured_keepsTable fun _ => setLinkConfig_stands
  | configMemory => exact configured_keepsTable fun _ => setMemoryConfig_stands
  | commit => exact commitRequest_keepsTable s
  | restart => exact restartRequest_keepsTable _ s
  | readFaults =>
    rw [serve, readFaultsRequest_state]
    exact .refl s
  | readCounters => exact readCountersRequest_keepsTable _ _ _ s
  | readLog => exact readLogRequest_keepsTable _ s
  | readPassage => exact readPassageRequest_keepsTable _ s
  | localHold => exact acted_keepsTable (run allowed) (hold_carries _ _ s) (hold_records _ _ s)
  | lampTest => exact acted_keepsTable (run allowed) (lampTestRequest_carries s) (lampTestRequest_records s)
  | restore => exact acted_keepsTable (run allowed) (hostRestoreRequest_carries _ _ s) (hostRestoreRequest_records _ _ s)
  | faultAck =>
    exact acted_keepsTable (run allowed)
      ((ackTaken_carries payload s).trans (whileLinkDown_carries (acknowledge_carries _ _ _)))
      ((ackTaken_records payload s).trans (whileLinkDown_records (acknowledge_records _ _ _)))
  | release =>
    exact acted_keepsTable (run allowed) (whileLinkDown_carries (release_carries s))
      (whileLinkDown_records (release_records s))

theorem testRequest_keepsTable (kind : Byte) (payload : List Byte) (s : State) :
    KeepsTable s (testRequest kind payload s).state := by
  unfold testRequest
  split
  · exact .refl s
  · split
    · exact .refl s
    · split
      · exact .refl s
      · next allowed => exact serve_keepsTable payload (by simpa using allowed)

theorem placeReply_keepsTable {x : Served} {s : State} (h : KeepsTable s x.state) (kind tag : Byte) :
    KeepsTable s (placeReply kind tag x) := by
  unfold placeReply
  split
  · exact h
  · exact h.trans (setHost_keepsTable _ _)

theorem hostBad_keepsTable (s : State) : KeepsTable s (hostBad s) := emit_keepsTable _ s

theorem takeRequest_keepsTable (kind tag : Byte) (payload : List Byte) (s : State) :
    KeepsTable s (takeRequest kind tag payload s) :=
  .ite (fun _ => .ite (fun _ => hostBad_keepsTable s) fun _ => setHost_keepsTable s _) fun _ =>
    .ite (fun _ => setHost_keepsTable s _) fun _ => placeReply_keepsTable (testRequest_keepsTable kind payload s) kind tag

theorem takeFrame_keepsTable (kind tag : Byte) (payload : List Byte) (s : State) :
    KeepsTable s (takeFrame kind tag payload s) :=
  .due fun _ => (setHost_keepsTable s _).trans (takeRequest_keepsTable _ _ _ _)

theorem receiveBytes_keepsTable (bytes : List Byte) (s : State) : KeepsTable s (receiveBytes bytes s) := by
  have event : ∀ (t : State) (e : HostEvent), KeepsTable t (hostEvent t e) := fun t e => by
    cases e with
    | bad => exact hostBad_keepsTable t
    | frame kind tag payload => exact takeRequest_keepsTable kind tag payload t
  unfold receiveBytes
  exact (KeepsTable.foldl event _ s).trans (setHost_keepsTable _ _)

theorem dropAssembly_keepsTable (s : State) : KeepsTable s (dropAssembly s) :=
  .ite (fun _ => .refl s) fun _ => (setHost_keepsTable s _).trans (hostBad_keepsTable _)

theorem startTx_keepsTable (s : State) : KeepsTable s (startTx s) := by
  have sends := fun f kind tag p w => (setHost_keepsTable s f).trans (setHost_keepsTable (s.setHost f)
    fun h => { h with tx := some ⟨hostFrame kind tag p, w, 0⟩ })
  unfold startTx
  split
  · exact sends _ _ _ _ _
  · split
    · exact sends _ _ _ _ _
    · split
      · exact (sends _ _ _ _ _).trans (.due fun _ => setHost_keepsTable _ _)
      · exact .refl s

theorem endTx_keepsTable (s : State) : KeepsTable s (endTx s) := by
  unfold endTx
  split
  · exact .refl s
  · exact (setHost_keepsTable s _).trans (.due fun warm => warmStart_keepsTable warm.2)

/-! ### The signaller line (R141, R143) -/

theorem receiveFrame_keepsTable (h : LineHead) (kind : Byte) (payload : List Byte) (s : State) :
    KeepsTable s (receiveFrame h kind payload s) := by
  refine .ite (fun _ => .refl s) fun _ => .ite (fun idle => ?_) fun _ => .due fun receives => ?_
  · have run := receives_run (.inl (left_of_and idle))
    exact .reacted run ((takeLine_carries _ _ s).trans (completeFrame_carries _ _ _ _))
      ((takeLine_records _ _ s).trans (completeFrame_records _ _ _ _))
  · have run := receives_run (by simpa using receives)
    exact .reacted run (takeChars_carries _ s) (takeChars_records _ s)

theorem lineFrameBad_keepsTable (cs : List Byte) (framing : Bool) (s : State) :
    KeepsTable s (react (if framing then framingError (takeChars cs s) else takeChars cs s)) := by
  cases part : s.part with
  | run =>
    have heard := takeChars_carries cs s
    have kept := takeChars_records cs s
    exact .reacted part (.ite (heard.trans (framingError_carries _)) heard) (.ite (kept.trans (framingError_records _)) kept)
  | config =>
    obtain ⟨deaf, noSkip⟩ := deaf_of_config part
    have same : framingError s = s := by
      unfold framingError
      simp only [deaf, noSkip, Bool.false_eq_true, if_false]
    rw [takeChars_config part, same, ite_self]
    exact react_keepsTable s

theorem lineGapAbort_keepsTable (cs : List Byte) (s : State) : KeepsTable s (react (gapAbort (takeChars cs s))) := by
  cases part : s.part with
  | run =>
    exact .reacted part ((takeChars_carries cs s).trans (gapAbort_carries _))
      ((takeChars_records cs s).trans (gapAbort_records _))
  | config =>
    obtain ⟨deaf, -⟩ := deaf_of_config part
    have same : gapAbort s = s := by
      unfold gapAbort
      simp only [deaf, Bool.false_and, Bool.false_eq_true, if_false]
    rw [takeChars_config part, same]
    exact react_keepsTable s

/-! ### Every command -/

theorem KeepsTable.of_next {s t u : State} {o : Out} (h : o = .next t) (next : o = .next u) (k : KeepsTable s u) :
    KeepsTable s t := by
  cases next.symm.trans h
  exact k

/-- An operation that is due in RUN, with the demand taken after it. -/
theorem KeepsTable.due_reacted {s u : State} {c : Prop} [Decidable c] (run : c → s.part = .run) (h : c → CarriesUp s u)
    (records : KeepsRecords s u) : KeepsTable s (if c then react u else s) :=
  .due fun due => .reacted (run due) (h due) records

/-- The same of a command that sets an input first. -/
theorem KeepsTable.input_reacted {s u : State} {f : Pins → Pins} {c : Prop} [Decidable c]
    (run : c → (s.setPins f).part = .run) (h : CarriesUp (s.setPins f) u) (records : KeepsRecords (s.setPins f) u) :
    KeepsTable s (if c then react u else s.setPins f) :=
  (setPins_keepsTable s f).trans (.due_reacted run (fun _ => h) records)

theorem exec_keepsTable (c : Instr) {s t : State} (h : exec c s = .next t) : KeepsTable s t := by
  cases c with
  | coldReset l r => exact .of_next h rfl (coldStart_keepsTable s _)
  | hostReady r => exact .of_next h rfl (setPins_keepsTable s _)
  | hostFrameDiscarded bytes e =>
    have received := receiveBytes_keepsTable bytes s
    exact .of_next h rfl (.ite (fun _ => received.trans (dropAssembly_keepsTable _)) fun _ => received)
  | hostGap bytes => exact .of_next h rfl ((receiveBytes_keepsTable bytes s).trans (dropAssembly_keepsTable _))
  | hostOverrun kind tag payload => exact .of_next h rfl (.due fun _ => takeFrame_keepsTable kind tag payload s)
  | hostUnknownKind kind tag payload => exact .of_next h rfl (takeFrame_keepsTable kind tag payload s)
  | identify tag payload | readTime tag payload | configPoint tag payload | configSection tag payload
  | configTrack tag payload | configTiming tag payload | configFlash tag payload | configLamp tag payload
  | configBarrier tag payload | configLink tag payload | configMemory tag payload | commit tag payload
  | restartCold tag payload | restartWarm tag payload | readState tag payload | readSections tag payload
  | readRecords tag payload | readFaults tag payload | readCounters tag payload | readLog tag payload
  | readPassage tag payload | localHold tag payload | lampTest tag payload | hostRestore tag payload
  | faultAck tag payload | hostRelease tag payload => exact .of_next h rfl (takeFrame_keepsTable _ tag payload s)
  | hostTxStart => exact .of_next h rfl (.due fun _ => startTx_keepsTable s)
  | hostTxDone => exact .of_next h rfl (.due fun _ => endTx_keepsTable s)
  | headChange p a b =>
    exact .of_next h rfl (.input_reacted sampled_run (headTick_carries p a b _) (headTick_records p a b _))
  | stuckTimeout p =>
    exact .of_next h rfl (.due_reacted stuckDue_run (fun _ => pointTick_carries p _ _ _ s) (pointTick_records p _ _ _ s))
  | quietPeriodEnd p =>
    exact .of_next h rfl (.due_reacted (fun due => run_of_and (left_of_and due)) (fun _ => endQuiet_carries p s)
      (endQuiet_records p s))
  | quietMark p => exact .of_next h rfl (.due fun _ => .of_eq rfl rfl rfl)
  | startTimerExpiry k =>
    exact .of_next h rfl (.due_reacted run_of_and (fun _ => commitRecord_carries k _ _ _ s) (commitRecord_records k _ _ _ s))
  | longWarningMark k => exact .of_next h rfl (.due fun _ => .of_eq rfl rfl rfl)
  | openMark => exact .of_next h rfl (.due fun _ => .of_eq rfl rfl rfl)
  | tAmberExpiry =>
    exact .of_next h rfl (.due_reacted (fun due => inSeq_run (left_of_and due))
      (fun due => move_carries (inSeq_live (left_of_and due)) (by decide) (.inl rfl) .timer)
      (.of_only ((seqMove_only .redWait .timer s).seq (lampCommand_only .redStart _) (cs := [.seq, .lamps] ++ recordBlocks)
        (by decide) (by decide)) (by decide)))
  | tPrelowerExpiry =>
    exact .of_next h rfl (.due_reacted (fun due => inSeq_run (left_of_and due))
      (fun due => enterLowerEntry_carries (inSeq_live (left_of_and due))) (enterLowerEntry_records s))
  | exitDelayMark =>
    exact .of_next h rfl (.due_reacted (fun due => inSeq_run (left_of_and (left_of_and due)))
      (fun _ => testLowerEntry_carries s) (testLowerEntry_records s))
  | longClosureTimer =>
    exact .of_next h rfl (.due_reacted (fun due => closing_run (left_of_and (left_of_and due)))
      (fun _ => CarriesUp.trans (setSeq_carries rfl) (raise_carries _ _ _ _))
      ((setSeq_records s _).trans (raise_records (by decide) 0 0 _)))
  | longBinMark => exact .of_next h rfl (.due fun _ => .of_eq rfl rfl rfl)
  | flashPartEnd => exact .of_next h rfl (.due fun _ => .of_only (nextFlashPart_only s) (by decide))
  | litProof c mA =>
    exact .of_next h rfl (.input_reacted (fun due => lampDue_run (.inl due)) (litSample_carries c _ _)
      (litSample_records c _ _))
  | darkSample c mA =>
    exact .of_next h rfl (.input_reacted (fun due => lampDue_run (.inr due)) (darkSampleTaken_carries c _ _)
      (darkSampleTaken_records c _ _))
  | startUpFlashHalf => exact .of_next h rfl (.due fun _ => .of_only (nextStartUpHalf_only s) (by decide))
  | lampTestSample mA => exact .of_next h rfl (.due fun _ => .of_only (testSample_only _ s) (by decide))
  | lampTestChannelEnd => exact .of_next h rfl (.due fun _ => .of_only (testChannelEnd_only s) (by decide))
  | barrierContactChange b up down =>
    exact .of_next h rfl (.input_reacted run_of_and (acceptContacts_carries b up down _) (acceptContacts_records b up down _))
  | barrierLimit b =>
    exact .of_next h rfl (.due_reacted limitDue_run (fun _ => takeLimit_carries b s) (takeLimit_records b s))
  | barrierDropped b =>
    exact .of_next h rfl (.due_reacted run_of_and (fun _ => barrierFault_carries b _ s) (barrierFault_records b _ s))
  | barrierSettled b =>
    exact .of_next h rfl (.due_reacted run_of_and
      (fun due => settleBarrier_carries (settledDue_fault (right_of_and due))) (settleBarrier_records b s))
  | barrierLostDown b =>
    exact .of_next h rfl (.due_reacted run_of_and (fun _ => lostDown_carries b s)
      ((setBarrier_records s b _).trans (raise_records (by decide) b.val 0 _)))
  | supplyInputChange input ok =>
    exact .of_next h rfl (.input_reacted id (acceptSupply_carries input ok _) (acceptSupply_records input ok _))
  | beacon hd payload | poll hd payload | sigAck hd payload | sigRestore hd payload | sigHold hd payload
  | sigRelease hd payload => exact .of_next h rfl (receiveFrame_keepsTable hd _ payload s)
  | sigCmdUnknownKind hd kind payload | sigCmdRefusedSource hd kind payload | foreignFrame hd kind payload
  | ownAddressFrame hd kind payload | addressedFrameLinkNotActive hd kind payload =>
    exact .of_next h rfl (receiveFrame_keepsTable hd kind payload s)
  | beaconTimeout =>
    exact .of_next h rfl (.due_reacted (fun due => run_of_and (left_of_and due)) (fun _ => loseLink_carries s)
      (loseLink_records s))
  | lineFrameBad chars e => exact .of_next h rfl (lineFrameBad_keepsTable chars e s)
  | lineGapAbort chars => exact .of_next h rfl (lineGapAbort_keepsTable chars s)
  | skipEnd => exact .of_next h rfl (.due fun _ => (setLine_keepsTable s _).trans (lineSettle_keepsTable _))
  | accessWaitQuiet => exact .of_next h rfl (.due fun _ => .of_only (startFrame_only s) (by decide))
  | lineFrameSent =>
    exact .of_next h rfl (.due fun _ => .of_marks (frameSent_only s) (by decide) (frameSent_alike s) (frameSent_records s))
  | arbitrationLost =>
    exact .of_next h rfl (.due fun _ => .of_marks (loseArbitration_only s) (by decide) (loseArbitration_alike s)
      (loseArbitration_records s))
  | collision =>
    exact .of_next h rfl (.due fun _ => .of_marks (collide_only s) (by decide) (collide_alike s) (collide_records s))
  | healthTimerExpiry =>
    exact .of_next h rfl (.due fun _ => KeepsTable.trans (.of_only (setReports_only s _) (by decide)) (lineSettle_keepsTable _))
  | repeatInterval i =>
    exact .of_next h rfl (.due fun _ => KeepsTable.trans
      (setMark_keepsTable s i (g := fun x => { x with forced := true }) fun _ => rfl) (lineSettle_keepsTable _))
  | agedMark i => exact .of_next h rfl (.due fun _ => setMark_keepsTable s i fun _ => rfl)

/-! ### The passage of time, and the statement -/

theorem tick_keepsTable (s : State) : KeepsTable s (tick s) := by
  have clock : KeepsTable s (tickBase s) := .of_only (tickBase_only s) (by decide)
  cases part : s.part with
  | config =>
    rw [tick_of_config part]
    exact clock
  | run =>
    rw [tick_of_run part]
    exact (clock.trans (.of_only (tickSamples_only _) (by decide))).trans
      (.of_marks (lineTick_only _ _) (by decide) (lineTick_alike _ _) (lineTick_records _ _))

theorem step_keepsTable {s t : State} (h : step s = .next t) : KeepsTable s t := by
  unfold step at h
  split at h
  · next c rest _ =>
    have queue : KeepsTable s { s with pending := rest } := .of_eq rfl rfl rfl
    exact queue.trans (exec_keepsTable c h)
  · unfold idleStep at h
    split at h
    · exact .of_next h rfl (tick_keepsTable s)
    · exact exec_keepsTable _ h
    · exact KeepsTable.trans (.of_only (tookFree_only s) (by decide)) (exec_keepsTable _ h)

/-- Settles O57: every step keeps the four rules, and a SEVERE record that is active has the latch set, from which the mode is
derived as FAILED. -/
theorem faultTableKeepsItsLaws : Obligations.FaultTableKeepsItsLaws := by
  unfold Obligations.FaultTableKeepsItsLaws
  refine ⟨fun s t rules h => ?_, fun s ⟨derives, latched, _⟩ run active => ?_⟩
  · exact (tableRules_iff t).1 (step_keepsTable h ((tableRules_iff s).2 rules))
  · exact FaultManager.Derives.failed_iff (derives run) |>.2 (latched active)

end Sys2Proof.Machine
end

section
/-! PROOFS. The reply to READ_FAULTS (R138): the occupied slots from the one named on, ten at most, and the slot to go on from. -/

namespace Sys2Proof.Machine

/-! ### The occupied slots -/

/-- The slots from a slot upward that hold a record. -/
def FaultManager.occupied (f : FaultManager) (first : Nat) : List (Fin 32) :=
  allFaultSlots.filter fun i => decide (first ≤ i.val) && f.table[i].record.isSome

/-- A slot with its record, as READ_FAULTS takes it; an empty slot stands for a record that is not read. -/
def FaultManager.entry (f : FaultManager) (i : Fin 32) : Nat × FaultRecord :=
  (i.val, f.table[i].record.getD (FaultRecord.fresh .tableFull 0 0 0))

/-- Of some slots those that hold a record, each with its record. -/
theorem filterMap_records (record : Fin 32 → Option FaultRecord) (p : Fin 32 → Bool) (d : FaultRecord) (l : List (Fin 32)) :
    ((l.filter p).filterMap fun i => (record i).map fun r => (i.val, r)) =
      (l.filter fun i => p i && (record i).isSome).map fun i => (i.val, (record i).getD d) := by
  induction l with
  | nil => rfl
  | cons i l ih =>
    cases named : p i with
    | false => simp [named, ih]
    | true => cases holds : record i <;> simp [named, holds, ih]

section
variable (f : FaultManager) (first : Nat)

theorem FaultManager.occupiedFrom_eq : f.occupiedFrom first = (f.occupied first).map f.entry :=
  filterMap_records (fun i => f.table[i].record) _ _ _

/-- The row of an occupied slot (R138). -/
theorem FaultManager.entry_bytes (s : State) {i : Fin 32} (occupied : i ∈ s.faults.occupied first) :
    (s.faults.entry i).2.bytes (s.faults.entry i).1 = faultRow s i := by
  have holds : s.faults.table[i].record.isSome = true := by
    have taken := (List.mem_filter.1 occupied).2
    rw [Bool.and_eq_true] at taken
    exact taken.2
  obtain ⟨r, record⟩ := Option.isSome_iff_exists.1 holds
  unfold FaultManager.entry faultRow
  rw [record]
  rfl

/-- The slot after the tenth is given when an eleventh is occupied (R138). -/
theorem FaultManager.nextSlot_eq :
    nextSlot ((f.occupied first).map f.entry) (((f.occupied first).map f.entry).take 10) =
      if 10 < (f.occupied first).length then byte (((f.occupied first).getD 9 0).val + 1) else 0xFF := by
  unfold nextSlot
  generalize f.occupied first = occ
  by_cases more : 10 < occ.length
  · have nine : 9 < occ.length := by omega
    have last : ((occ.map f.entry).take 10).getLast? = some (f.entry occ[9]) := by
      rw [List.getLast?_eq_getElem?, List.length_take, List.length_map, Nat.min_eq_left more.le, List.getElem?_take_of_lt
        (by decide), List.getElem?_map, List.getElem?_eq_getElem nine]
      rfl
    have chosen : occ.getD 9 0 = occ[9] := by
      rw [List.getD_eq_getElem?_getD, List.getElem?_eq_getElem nine]
      rfl
    rw [last, if_pos more, chosen]
    exact if_pos (by rw [List.length_take, List.length_map]; omega)
  · rw [if_neg more]
    split
    · exact if_neg (by rw [List.length_take, List.length_map]; omega)
    · rfl

end

/-! ### The reply -/

theorem faultsReply_eq (s : State) (first : Nat) :
    s.faultsReply first =
      [codeOrFF (s.faults.mode.map Mode.code), byte (flag s.faults.latch), byte (s.faults.countActive .severe),
          byte (s.faults.countActive .minor), byte (s.faults.countActive .notice),
          byte (min 10 (s.faults.occupied first).length)] ++
        (((s.faults.occupied first).take 10).map (faultRow s)).flatten ++
        [if 10 < (s.faults.occupied first).length then byte (((s.faults.occupied first).getD 9 0).val + 1) else 0xFF] := by
  have rows : (((s.faults.occupied first).map s.faults.entry).take 10).map (fun x => x.2.bytes x.1) =
      ((s.faults.occupied first).take 10).map (faultRow s) := by
    rw [← List.map_take, List.map_map]
    exact List.map_congr_left fun i listed => FaultManager.entry_bytes first s (List.mem_of_mem_take listed)
  unfold State.faultsReply
  dsimp only
  rw [FaultManager.occupiedFrom_eq, FaultManager.nextSlot_eq, rows, List.length_take, List.length_map]
  rfl

/-- Settles O21: the reply is built from the occupied slots, or the slot is out of range and nothing is read. -/
theorem readFaultsReplies : Obligations.ReadFaultsReplies := by
  unfold Obligations.ReadFaultsReplies
  intro first tag s run free
  have allowed : Request.readFaults.allowedIn s.part = true := by rw [run]; rfl
  have request : serve .readFaults [first] s.frameIn = readFaultsRequest first.toNat s.frameIn := rfl
  split
  · next inRange =>
    have served : serve .readFaults [first] s.frameIn = answer .ok (s.faultsReply first.toNat) s.frameIn :=
      request.trans (if_pos inRange)
    rw [faultsReply_eq] at served
    exact ⟨_, accepts_of_serve (q := .readFaults) rfl free (by simp) rfl allowed served (Only.refl _ _) (by decide)⟩
  · next outOfRange =>
    exact refuses_of_serve (q := .readFaults) rfl free (by simp) rfl allowed (request.trans (if_neg outOfRange))

end Sys2Proof.Machine
end

section
/-! PROOFS. The supply inputs (R136): the fault that an accepted level raises or ends. -/

namespace Sys2Proof.Machine

/-! ### The filter of an input -/

theorem Supply.filter_setFilter (x : Supply) (i : SupplyInput) (f : Filter) : (x.setFilter i f).filter i = f := by
  cases i <;> rfl

theorem Supply.filter_setFilter_other (x : Supply) {i j : SupplyInput} (other : j ≠ i) (f : Filter) :
    (x.setFilter i f).filter j = x.filter j := by
  cases i with
  | mains =>
    cases j with
    | mains => exact absurd rfl other
    | batt => rfl
  | batt =>
    cases j with
    | mains => rfl
    | batt => exact absurd rfl other

theorem Supply.setFilter_filter (x : Supply) (i : SupplyInput) : x.setFilter i (x.filter i) = x := by
  cases i <;> rfl

/-! ### An input accepted -/

/-- The state in which an input's change is judged: the level presented and accepted (R136). -/
def supplyTaken (i : SupplyInput) (ok : Bool) (s : State) : State :=
  (setSupplyPin i ok s).setSupply fun x => x.setFilter i ((s.supply.filter i).accept ok)

section
variable {i : SupplyInput} {ok : Bool} {s : State}

theorem exec_supplyInputChange_config (config : s.part = .config) :
    exec (.supplyInputChange i ok) s = .next (setSupplyPin i ok s) :=
  congrArg Host.Outcome.next (if_neg (show ¬s.part = .run by rw [config]; decide))

theorem exec_supplyInputChange_run (run : s.part = .run) :
    exec (.supplyInputChange i ok) s = .next (react (if (s.supply.filter i).accepted = ok then supplyTaken i ok s
      else if ok then endCondition (supplyFault i) 0 (supplyTaken i ok s) else raise (supplyFault i) 0 0 (supplyTaken i ok s))) :=
  congrArg Host.Outcome.next (if_pos run)

/-- An input that shows the value accepted already leaves its filter. -/
theorem supplyTaken_of_accepted (same : (s.supply.filter i).accepted = ok) : supplyTaken i ok s = setSupplyPin i ok s := by
  have accepts : (s.supply.filter i).accept ok = s.supply.filter i := if_pos same
  have supply : s.supply.setFilter i ((s.supply.filter i).accept ok) = s.supply := by
    rw [accepts, Supply.setFilter_filter]
  exact congrArg (fun x => { setSupplyPin i ok s with supply := x }) supply

end

/-- Settles O42: in CONFIG the level alone is set; in RUN the accepted value is compared with the one presented. -/
theorem supplyInputsRaiseAndEnd : Obligations.SupplyInputsRaiseAndEnd := by
  unfold Obligations.SupplyInputsRaiseAndEnd
  intro i ok s
  have pins : Only [.pins] s (setSupplyPin i ok s) := setPins_only s _
  refine ⟨fun config => ⟨_, exec_supplyInputChange_config config, pins, ?_, ?_⟩, fun run same => ?_, fun run other => ?_⟩
  · rintro rfl; rfl
  · rintro rfl; rfl
  · refine ⟨setSupplyPin i ok s, ?_, pins⟩
    rw [exec_supplyInputChange_run run, if_pos same, supplyTaken_of_accepted same]
  · have differs : (s.supply.filter i).accepted ≠ ok := by rw [other]; cases ok <;> decide
    refine ⟨supplyTaken i ok s, ?_, ?_, fun j apart => Supply.filter_setFilter_other _ apart _,
      pins.seq (setSupply_only _ _) (by decide) (by decide)⟩
    · rw [exec_supplyInputChange_run run, if_neg differs]
      cases i <;> rfl
    · exact (congrArg Filter.accepted (Supply.filter_setFilter _ i _)).trans (Filter.accept_accepted _ _)

end Sys2Proof.Machine
end

section
/-! PROOFS. Releases, by the host and by the signaller (R131, R133 to R135, R160 to R163). -/

namespace Sys2Proof.Machine

/-! ### A run-time action of the host (R135, R195) -/

theorem whileLinkDown_of_active {s : State} (active : s.line.link = .active) (f : State → Result × State) :
    whileLinkDown f s = (.wrongState, s) := if_pos active

theorem whileLinkDown_of_down {s : State} (down : s.line.link ≠ .active) (f : State → Result × State) :
    whileLinkDown f s = f s := if_neg down

/-- A run-time action that the tests of R195 let through is answered with its result, its record after the reaction. -/
theorem actedReply_of_serve {c : Instr} {q : Request} {tag : Byte} {payload items : List Byte} {r : Result} {s u : State}
    (row : exec c s = .next (takeFrame q.code tag payload s)) (free : HostFree s) (fits : payload.length ≤ 248)
    (length : q.lengthOk payload = true) (allowed : q.allowedIn s.part = true)
    (served : serve q payload s.frameIn = acted q items (r, u)) : ActedReply c q tag r s u :=
  ⟨items, by rw [row, takeFrame_eq_placeReply free fits length allowed, served, acted_eq]⟩

/-! ### The release (R134) -/

/-- The latch cleared, the mode still to be derived. -/
def unlatched (s : State) : State := s.setFaults fun f => { f with latch := false }

section
variable {s : State}

theorem release_refused (severe : s.faults.anyActive .severe = true) : release s = (.severeActive, s) := if_pos severe

theorem release_accepted (calm : s.faults.anyActive .severe = false) :
    release s = (.ok, deriveMode .release (unlatched s)) := if_neg (by rw [calm]; decide)

theorem release_result : (release s).1 = if s.faults.anyActive .severe then .severeActive else .ok := by
  cases severe : s.faults.anyActive .severe with
  | true => rw [release_refused severe]; rfl
  | false => rw [release_accepted severe]; rfl

/-- With the latch cleared the mode is that of the MINOR records (R131). -/
theorem release_faults (calm : s.faults.anyActive .severe = false) :
    (release s).2.faults =
      { s.faults with latch := false, mode := some (if s.faults.anyActive .minor then .degraded else .auto) } := by
  rw [release_accepted calm, deriveMode_faults]
  rfl

theorem release_table : (release s).2.faults.table = s.faults.table := by
  cases severe : s.faults.anyActive .severe with
  | true => rw [release_refused severe]
  | false => rw [release_faults severe]

theorem release_latch : (release s).2.faults.latch = if s.faults.anyActive .severe then s.faults.latch else false := by
  cases severe : s.faults.anyActive .severe with
  | true => rw [release_refused severe]; rfl
  | false => rw [release_faults severe]; rfl

/-- With the latch clear already and the mode the derived one a release changes nothing. -/
theorem release_of_unlatched (calm : s.faults.anyActive .severe = false) (clear : s.faults.latch = false)
    (derived : s.faults.mode = some s.faults.derived) : release s = (.ok, s) := by
  have same : unlatched s = s := by
    have faults : { s.faults with latch := false } = s.faults := by rw [← clear]
    exact congrArg (fun f => { s with faults := f }) faults
  rw [release_accepted calm, same, deriveMode_of_derived derived]

/-- A release that is refused, or finds nothing to change, leaves the state as it is. -/
theorem release_idle (idle : s.faults.anyActive .severe = true ∨ (s.faults.latch = false ∧ s.faults.mode = some s.faults.derived)) :
    (release s).2 = s := by
  cases severe : s.faults.anyActive .severe with
  | true => rw [release_refused severe]
  | false =>
    obtain ⟨clear, derived⟩ := idle.resolve_left (by rw [severe]; decide)
    rw [release_of_unlatched severe clear derived]

end

/-! ### The host's release (R135) -/

section
variable {s : State} (tag : Byte) (run : s.part = .run) (free : HostFree s)
include run free

theorem hostRelease_acted {r : Result} {u : State} (released : whileLinkDown release s.frameIn = (r, u)) :
    ActedReply (.hostRelease tag []) .release tag r s u :=
  actedReply_of_serve (q := .release) (items := []) rfl free (by decide) rfl (by rw [run]; rfl)
    (congrArg (acted .release []) released)

theorem hostRelease_refused {r : Result} (refused : whileLinkDown release s.frameIn = (r, s.frameIn)) :
    ∃ u, ActedReply (.hostRelease tag []) .release tag r s u ∧ Only [.port] s u :=
  ⟨s.frameIn, hostRelease_acted tag run free refused, frameIn_only s⟩

theorem hostRelease_accepted (down : s.line.link ≠ .active) (calm : s.faults.anyActive .severe = false) :
    ∃ u, ActedReply (.hostRelease tag []) .release tag .ok s u ∧ u.faults.latch = false ∧
      u.faults.table = s.faults.table ∧
      u.faults.mode = some (if s.faults.anyActive .minor then .degraded else .auto) ∧
      (∃ w, Only [.port] s w ∧ u = deriveMode .release { w with faults := { w.faults with latch := false } }) ∧
      Only ([.faults, .port] ++ recordBlocks) s u := by
  have released : release s.frameIn = (.ok, deriveMode .release (unlatched s.frameIn)) := release_accepted calm
  have faults : (deriveMode .release (unlatched s.frameIn)).faults = { s.faults with
      latch := false, mode := some (if s.faults.anyActive .minor then .degraded else .auto) } := by
    have taken := release_faults (s := s.frameIn) calm
    rwa [released] at taken
  have frame : Only (.faults :: recordBlocks) s.frameIn (deriveMode .release (unlatched s.frameIn)) :=
    ((setFaults_only s.frameIn _).mono (by decide)).trans (deriveMode_only _ _)
  refine ⟨_, hostRelease_acted tag run free ((whileLinkDown_of_down (s := s.frameIn) down release).trans released),
    ?latch, ?table, ?mode, ⟨s.frameIn, frameIn_only s, rfl⟩, (frameIn_only s).seq frame (by decide) (by decide)⟩
  case latch => rw [faults]
  case table => rw [faults]
  case mode => rw [faults]

end

/-! ### The signaller's release (R160 to R163) -/

theorem deriveMode_confirm (c : ModeCause) (s : State) : ConfirmKept s (deriveMode c s) := by
  unfold deriveMode
  split
  · exact .refl s
  · exact ConfirmKept.trans (.of_only (setFaults_only s _) (by decide)) (emit_confirm _ _)

theorem release_confirm (s : State) : ConfirmKept s (release s).2 := by
  cases severe : s.faults.anyActive .severe with
  | true => rw [release_refused severe]; exact .refl s
  | false =>
    rw [release_accepted severe]
    exact ConfirmKept.trans (.of_only (setFaults_only s _) (by decide)) (deriveMode_confirm _ _)

theorem takeCommand_release (addr : Addressing) (s : State) :
    takeCommand 0 kindRelease addr [] s = commandReported kindRelease addr (release s).1 [] (release s).2 := by
  cases addr <;> exact if_pos rfl

/-- The record and the confirmation of a command leave the state-status mark. -/
theorem commandReported_stateMark (kind : Byte) (addr : Addressing) (r : Result) (payload : List Byte) (s : State) :
    (commandReported kind addr r payload s).reports.stateMark = s.reports.stateMark := by
  have logged := congrArg ReportScheduler.stateMark ((sigLog_blocks kind addr (some r) payload s).reports_eq (by decide))
  cases addr <;> exact logged

/-- A frame taken touches neither the log nor the passage store. -/
theorem frameTaken_memory (s : State) : (frameTaken s).memory = s.memory :=
  (frameTaken_only s).memory_eq (by decide)

section
variable {h : LineHead} {addr : Addressing} {s : State} (ready : LineReady s) (active : s.line.link = .active)
  (box : FromBox s h addr)
include ready active box

theorem exec_sigRelease_eq :
    exec (.sigRelease h []) s = .next (react (commandReported kindRelease addr (release (frameTaken s)).1 []
      (release (frameTaken s)).2)) := by
  have row : exec (.sigRelease h []) s = .next (receiveFrame h kindRelease [] s) := rfl
  rw [row, receiveFrame_fromBox ready active box (by decide) (by simp), takeCommand_release]

theorem sigRelease_effect :
    ∃ u, exec (.sigRelease h []) s = .next (react u) ∧
      u.reports.confirm = confirmOf s addr 0x06 (if s.faults.anyActive .severe then .severeActive else .ok) ∧
      u.faults.latch = (if s.faults.anyActive .severe then s.faults.latch else false) ∧
      u.faults.table = s.faults.table ∧
      (s.faults.anyActive .severe = false →
        u.faults.mode = some (if s.faults.anyActive .minor then .degraded else .auto) ∧
        ∃ w, Only [.line, .counters, .notices] s w ∧
          let v := deriveMode .release { w with faults := { w.faults with latch := false } }
          Wrote .sigCmd 0 [0x06, byte addr.code, 0, 0] v u ∧ Only [.log, .notices, .reports] v u) ∧
      Only ([.faults, .line] ++ recordBlocks) s u ∧
      (s.faults.anyActive .severe = true ∨ (s.faults.latch = false ∧ s.faults.mode = some s.faults.derived) →
        u.faults = s.faults ∧ u.reports.stateMark = s.reports.stateMark ∧
        Wrote .sigCmd 0 [0x06, byte addr.code, if s.faults.anyActive .severe then 10 else 0, 0] s u ∧
        Only [.line, .log, .notices, .counters, .reports] s u) := by
  have taken := frameTaken_only s
  have faults : (frameTaken s).faults = s.faults := taken.faults_eq (by decide)
  have frame := release_only (frameTaken s)
  have reported := commandReported_only kindRelease addr (release (frameTaken s)).1 [] (release (frameTaken s)).2
  have run : (release (frameTaken s)).2.part = .run :=
    (frame.part_eq (by decide)).trans ((taken.part_eq (by decide)).trans ready.1)
  have written := commandReported_memory kindRelease addr (release (frameTaken s)).1 [] run
  have kept : ConfirmKept s (release (frameTaken s)).2 :=
    ConfirmKept.trans (.of_only taken (by decide)) (release_confirm _)
  refine ⟨_, exec_sigRelease_eq ready active box, ?confirm, ?latch, ?table, fun calm => ?accepted, ?blocks, fun idle => ?idle⟩
  case confirm =>
    rw [commandReported_confirm, release_result, faults, confirmOf, confirmOf, kept]
    rfl
  case latch => rw [reported.faults_eq (by decide), release_latch, faults]
  case table => rw [reported.faults_eq (by decide), release_table, faults]
  case accepted =>
    have calm' : (frameTaken s).faults.anyActive .severe = false := by rw [faults]; exact calm
    refine ⟨?_, frameTaken s, taken, ?_, ?_⟩
    · rw [reported.faults_eq (by decide), release_faults calm', faults]
    · rw [release_accepted calm'] at written ⊢
      exact written
    · rw [release_accepted calm'] at reported ⊢
      exact reported
  case blocks => exact (taken.mono (by decide)).trans ((frame.mono (by decide)).trans (reported.mono (by decide)))
  case idle =>
    have stands : (release (frameTaken s)).2 = frameTaken s := release_idle (by rw [faults]; exact idle)
    rw [stands] at reported written ⊢
    refine ⟨(reported.faults_eq (by decide)).trans faults, ?_, ?_, (taken.mono (by decide)).trans (reported.mono (by decide))⟩
    · rw [commandReported_stateMark, taken.reports_eq (by decide)]
    · rw [frameTaken_memory, (taken.clock_eq (by decide)).1, release_result, faults] at written
      rw [release_result, faults]
      unfold Wrote
      rw [written]
      cases s.faults.anyActive .severe <;> rfl

end

/-- Settles O28: both commands reach `release`, which clears the latch or leaves the state as it is. -/
theorem releasesClearTheLatch : Obligations.ReleasesClearTheLatch := by
  unfold Obligations.ReleasesClearTheLatch
  refine ⟨fun tag s run free => ⟨fun active => ?_, fun down severe => ?_, fun down calm => hostRelease_accepted tag run free down calm,
    fun down calm clear derived => ?_⟩, fun h addr s ready active box => sigRelease_effect ready active box⟩
  · exact hostRelease_refused tag run free (whileLinkDown_of_active (s := s.frameIn) active release)
  · exact hostRelease_refused tag run free
      ((whileLinkDown_of_down (s := s.frameIn) down release).trans (release_refused (s := s.frameIn) severe))
  · exact hostRelease_acted tag run free ((whileLinkDown_of_down (s := s.frameIn) down release).trans
      (release_of_unlatched (s := s.frameIn) calm clear derived))

end Sys2Proof.Machine
end

section
/-! PROOFS. What an acknowledge does to the table (R128, R129): each record that it names, by ALL or by a pair, is settled by
its state and nature, and no other slot changes. -/

namespace Sys2Proof.Machine

/-! ### The pairs a command names (R122, R129) -/

theorem FaultKind.ofCode_code (k : FaultKind) : FaultKind.ofCode k.code = some k := by cases k <;> decide

theorem FaultKind.code_of_ofCode {n : Nat} {k : FaultKind} (named : FaultKind.ofCode n = some k) : k.code = n := by
  unfold FaultKind.ofCode at named
  simpa using List.find?_some named

theorem AckPair.ok_iff (x : AckPair) : x.ok = true ↔ ∃ k : FaultKind, k.code = x.1 ∧ k.objectOk x.2 = true := by
  unfold AckPair.ok
  constructor
  · intro ok
    split at ok
    · next k named => exact ⟨k, FaultKind.code_of_ofCode named, ok⟩
    · cases ok
  · rintro ⟨k, code, ok⟩
    rw [← code, FaultKind.ofCode_code]
    exact ok

theorem AckTarget.pairs_ok_iff (l : List AckPair) :
    (AckTarget.pairs l).ok = true ↔
      1 ≤ l.length ∧ l.length ≤ 6 ∧ ∀ x ∈ l, ∃ k : FaultKind, k.code = x.1 ∧ k.objectOk x.2 = true := by
  simp only [AckTarget.ok, Bool.and_eq_true, decide_eq_true_eq, List.all_eq_true, AckPair.ok_iff, and_assoc]

/-- An acknowledge payload is in range when it names ALL or 1 to 6 pairs in range (R129). -/
theorem ackTarget_ok_iff (payload : List Byte) :
    (ackTarget payload).ok = true ↔
      (payload = [] ∨ payload.head? = some 0 ∨
        (1 ≤ (pairsOf (payload.drop 1)).length ∧ (pairsOf (payload.drop 1)).length ≤ 6 ∧
          ∀ x ∈ pairsOf (payload.drop 1), ∃ k : FaultKind, k.code = x.1 ∧ k.objectOk x.2 = true)) := by
  cases payload with
  | nil => exact ⟨fun _ => .inl rfl, fun _ => rfl⟩
  | cons c rest =>
    by_cases zero : c = 0
    · subst zero
      exact ⟨fun _ => .inr (.inl rfl), fun _ => rfl⟩
    · have target : ackTarget (c :: rest) = .pairs (pairsOf rest) := if_neg zero
      rw [target, AckTarget.pairs_ok_iff]
      refine ⟨fun ok => .inr (.inr ok), ?_⟩
      rintro (empty | head | ok)
      · cases empty
      · exact absurd (Option.some.inj head) zero
      · exact ok

/-- The slot of the record that a pair names. -/
def FaultManager.namedSlot (f : FaultManager) (x : AckPair) : Option (Fin 32) :=
  (FaultKind.ofCode x.1).bind fun k => f.find k x.2

section
variable {f : FaultManager} {now : Time} {req : Requester} {x : AckPair} {i : Fin 32}

theorem FaultManager.ackPair_unnamed (unnamed : f.namedSlot x = none) : f.ackPair now req x = (f, []) := by
  unfold FaultManager.namedSlot at unnamed
  unfold FaultManager.ackPair
  cases kind : FaultKind.ofCode x.1 with
  | none => rfl
  | some k =>
    have absent : f.find k x.2 = none := by rwa [kind] at unnamed
    dsimp only
    rw [absent]

theorem FaultManager.ackPair_named (named : f.namedSlot x = some i) : f.ackPair now req x = f.ackAt now req i := by
  obtain ⟨k, kind, found⟩ := Option.bind_eq_some_iff.1 named
  unfold FaultManager.ackPair
  rw [kind]
  dsimp only
  rw [found]

theorem FaultManager.namedSlot_holds (named : f.namedSlot x = some i) :
    ∃ r, f.table[i].record = some r ∧ (r.kind.code, r.object) = x := by
  obtain ⟨k, kind, found⟩ := Option.bind_eq_some_iff.1 named
  obtain ⟨r, holds, rfl, object⟩ := find_holds found
  exact ⟨r, holds, Prod.ext (FaultKind.code_of_ofCode kind) object⟩

/-- With no two records of a kind and object, a record's own pair names its slot (R122). -/
theorem FaultManager.namedSlot_own (unique : OneRecordEach f) {r : FaultRecord} (holds : f.table[i].record = some r) :
    f.namedSlot (r.kind.code, r.object) = some i := by
  have named : f.namedSlot (r.kind.code, r.object) = f.find r.kind r.object := by
    unfold FaultManager.namedSlot
    rw [FaultKind.ofCode_code]
    rfl
  rw [named]
  cases found : f.find r.kind r.object with
  | none => exact absurd ⟨rfl, rfl⟩ (find_none_iff.1 found i r holds)
  | some j =>
    obtain ⟨q, held, kind, object⟩ := find_holds found
    rw [unique j i q r held holds kind object]

end

theorem FaultManager.Continues.oneRecordEach {f g : FaultManager} (on : f.Continues g) (unique : OneRecordEach f) :
    OneRecordEach g := fun i j r q holds held kind object => by
  obtain ⟨r', holds', ofR⟩ := on i r holds
  obtain ⟨q', held', ofQ⟩ := on j q held
  exact unique i j r' q' holds' held' (ofR.kind.symm.trans (kind.trans ofQ.kind))
    (ofR.object.symm.trans (object.trans ofQ.object))

/-! ### One slot (R128) -/

/-- What an acknowledge has left of a record, a further one leaves as it is. -/
theorem ackedRecord_settled {now : Time} {r q : FaultRecord} (settled : ackedRecord now r = some q) :
    ackedRecord now q = some q := by
  unfold ackedRecord at settled
  split at settled
  · split at settled
    · cases settled
    · cases settled
      rfl
  · next acked =>
    cases settled
    simp only [ackedRecord, acked]
  · cases settled

/-- A slot is settled: an acknowledge changes nothing of its record. -/
def FaultSlot.Settled (now : Time) (x : FaultSlot) : Prop := x.record.bind (ackedRecord now) = x.record

section
variable (f : FaultManager) (now : Time) (req : Requester) (i : Fin 32)

theorem FaultManager.ackAt_record :
    (f.ackAt now req i).1.table[i].record = f.table[i].record.bind (ackedRecord now) := by
  unfold FaultManager.ackAt FaultManager.remove FaultManager.restate
  cases holds : f.table[i].record with
  | none => exact holds
  | some r =>
    dsimp only [Option.bind_some, ackedRecord]
    cases r.state with
    | activeUnacked => cases r.kind.isEvent <;> simp [FaultSlot.empty]
    | activeAcked => exact holds
    | clearedUnacked => simp [FaultSlot.empty]

theorem FaultManager.ackAt_settles : FaultSlot.Settled now (f.ackAt now req i).1.table[i] := by
  unfold FaultSlot.Settled
  rw [FaultManager.ackAt_record, Option.bind_assoc]
  exact Option.bind_congr fun r _ => by
    cases left : ackedRecord now r with
    | none => rfl
    | some q => exact ackedRecord_settled left

variable {i}

theorem FaultManager.ackAt_other {j : Fin 32} (other : i ≠ j) : (f.ackAt now req i).1.table[j] = f.table[j] := by
  unfold FaultManager.ackAt FaultManager.remove FaultManager.restate
  cases f.table[i].record with
  | none => rfl
  | some r =>
    dsimp only
    cases r.state with
    | activeUnacked => cases r.kind.isEvent <;> exact getElem_set_other other _ _
    | activeAcked => rfl
    | clearedUnacked => exact getElem_set_other other _ _

theorem FaultManager.ackAt_sameLatch (i : Fin 32) : f.SameLatch (f.ackAt now req i) := by
  unfold FaultManager.ackAt FaultManager.remove FaultManager.restate
  cases f.table[i].record with
  | none => rfl
  | some r =>
    dsimp only
    cases r.state with
    | activeUnacked => cases r.kind.isEvent <;> rfl
    | activeAcked => rfl
    | clearedUnacked => rfl

theorem FaultManager.ackAt_keepsSettled (i j : Fin 32) (settled : FaultSlot.Settled now f.table[j]) :
    (f.ackAt now req i).1.table[j].record = f.table[j].record := by
  by_cases same : i = j
  · subst same
    exact (f.ackAt_record now req i).trans settled
  · rw [f.ackAt_other now req same]

theorem FaultManager.endAt_other {i j : Fin 32} (other : i ≠ j) : (f.endAt now i).1.table[j] = f.table[j] := by
  unfold FaultManager.endAt FaultManager.remove FaultManager.restate
  cases f.table[i].record with
  | none => rfl
  | some r =>
    dsimp only
    cases r.state with
    | activeUnacked => exact getElem_set_other other _ _
    | activeAcked => exact getElem_set_other other _ _
    | clearedUnacked => rfl

/-- The test of TABLE_FULL changes slot 31 alone (R126). -/
theorem FaultManager.testTableFull_other {j : Fin 32} (general : j ≠ 31) :
    (f.testTableFull now).1.table[j] = f.table[j] := by
  unfold FaultManager.testTableFull
  split
  · exact f.endAt_other now general.symm
  · rfl

end

/-! ### Every slot of a list, and every pair (R129) -/

theorem FaultStep.next_fst (x : FaultStep) (g : FaultManager → FaultStep) : (x.next g).1 = (g x.1).1 := rfl

/-- The slots of a list acknowledged, one after another. -/
def ackSlots (now : Time) (req : Requester) (l : List (Fin 32)) (x : FaultStep) : FaultStep :=
  l.foldl (fun x i => x.next fun f => f.ackAt now req i) x

/-- The pairs of a list acknowledged, one after another. -/
def ackPairs (now : Time) (req : Requester) (l : List AckPair) (x : FaultStep) : FaultStep :=
  l.foldl (fun x p => x.next fun f => f.ackPair now req p) x

section
variable (f : FaultManager) (now : Time) (req : Requester)

theorem FaultManager.acked_all :
    f.acked now req .all = (ackSlots now req allFaultSlots (f, [])).next fun f => f.testTableFull now := rfl

theorem FaultManager.acked_pairs (l : List AckPair) :
    f.acked now req (.pairs l) = (ackPairs now req l (f, [])).next fun f => f.testTableFull now := rfl

end

section
variable {now : Time} {req : Requester} {j : Fin 32}

theorem ackSlots_settled (l : List (Fin 32)) {x : FaultStep} (settled : FaultSlot.Settled now x.1.table[j]) :
    (ackSlots now req l x).1.table[j].record = x.1.table[j].record := by
  induction l generalizing x with
  | nil => rfl
  | cons i l ih =>
    have kept : (x.next fun f => f.ackAt now req i).1.table[j].record = x.1.table[j].record :=
      x.1.ackAt_keepsSettled now req i j settled
    exact (ih (x := x.next fun f => f.ackAt now req i)
      (by unfold FaultSlot.Settled; rw [kept]; exact settled)).trans kept

theorem ackSlots_record {l : List (Fin 32)} (listed : j ∈ l) (x : FaultStep) :
    (ackSlots now req l x).1.table[j].record = x.1.table[j].record.bind (ackedRecord now) := by
  induction l generalizing x with
  | nil => cases listed
  | cons i l ih =>
    by_cases same : i = j
    · subst same
      exact (ackSlots_settled l (x := x.next fun f => f.ackAt now req i) (x.1.ackAt_settles now req i)).trans
        (x.1.ackAt_record now req i)
    · have other : (x.next fun f => f.ackAt now req i).1.table[j] = x.1.table[j] := x.1.ackAt_other now req same
      refine (ih ((List.mem_cons.1 listed).resolve_left (Ne.symm same)) (x.next fun f => f.ackAt now req i)).trans ?_
      rw [other]

/-- A pair that is not that of the slot's record leaves the slot. -/
theorem FaultManager.ackPair_other (f : FaultManager) {p : AckPair}
    (unnamed : ∀ r, f.table[j].record = some r → (r.kind.code, r.object) ≠ p) :
    (f.ackPair now req p).1.table[j] = f.table[j] := by
  cases named : f.namedSlot p with
  | none => rw [FaultManager.ackPair_unnamed named]
  | some i =>
    obtain ⟨r, holds, own⟩ := FaultManager.namedSlot_holds named
    have other : i ≠ j := fun same => unnamed r (same ▸ holds) own
    rw [FaultManager.ackPair_named named, f.ackAt_other now req other]

theorem FaultManager.ackPair_keepsSettled (f : FaultManager) (p : AckPair) (settled : FaultSlot.Settled now f.table[j]) :
    (f.ackPair now req p).1.table[j].record = f.table[j].record := by
  cases named : f.namedSlot p with
  | none => rw [FaultManager.ackPair_unnamed named]
  | some i => rw [FaultManager.ackPair_named named, f.ackAt_keepsSettled now req i j settled]

theorem ackPairs_settled (l : List AckPair) {x : FaultStep} (settled : FaultSlot.Settled now x.1.table[j]) :
    (ackPairs now req l x).1.table[j].record = x.1.table[j].record := by
  induction l generalizing x with
  | nil => rfl
  | cons p l ih =>
    have kept : (x.next fun f => f.ackPair now req p).1.table[j].record = x.1.table[j].record :=
      x.1.ackPair_keepsSettled p settled
    exact (ih (x := x.next fun f => f.ackPair now req p)
      (by unfold FaultSlot.Settled; rw [kept]; exact settled)).trans kept

theorem ackPairs_unnamed (l : List AckPair) {x : FaultStep}
    (unnamed : ∀ r, x.1.table[j].record = some r → (r.kind.code, r.object) ∉ l) :
    (ackPairs now req l x).1.table[j] = x.1.table[j] := by
  induction l generalizing x with
  | nil => rfl
  | cons p l ih =>
    have other : (x.next fun f => f.ackPair now req p).1.table[j] = x.1.table[j] :=
      x.1.ackPair_other fun r holds => (fun same => unnamed r holds (same ▸ List.mem_cons_self))
    refine (ih (x := x.next fun f => f.ackPair now req p) fun r holds => ?_).trans other
    rw [other] at holds
    exact fun listed => unnamed r holds (List.mem_cons_of_mem p listed)

theorem ackPairs_named {l : List AckPair} {x : FaultStep} (unique : OneRecordEach x.1) {r : FaultRecord}
    (holds : x.1.table[j].record = some r) (named : (r.kind.code, r.object) ∈ l) :
    (ackPairs now req l x).1.table[j].record = ackedRecord now r := by
  induction l generalizing x with
  | nil => cases named
  | cons p l ih =>
    by_cases own : (r.kind.code, r.object) = p
    · have slot : x.1.namedSlot p = some j := own ▸ FaultManager.namedSlot_own unique holds
      have here : (x.next fun f => f.ackPair now req p).1 = (x.1.ackAt now req j).1 := by
        rw [FaultStep.next_fst, FaultManager.ackPair_named slot]
      refine (ackPairs_settled l (x := x.next fun f => f.ackPair now req p)
        (by rw [here]; exact x.1.ackAt_settles now req j)).trans ?_
      rw [here, x.1.ackAt_record, holds]
      rfl
    · have other : (x.next fun f => f.ackPair now req p).1.table[j] = x.1.table[j] :=
        x.1.ackPair_other fun q held => Option.some.inj (holds.symm.trans held) ▸ own
      exact ih (x := x.next fun f => f.ackPair now req p) ((x.1.ackPair_continues now req p).oneRecordEach unique)
        (by rw [other]; exact holds) ((List.mem_cons.1 named).resolve_left own)

end

/-! ### A whole command (R129) -/

section
variable (f : FaultManager) (now : Time) (req : Requester) {i : Fin 32} (general : i ≠ 31)
include general

theorem FaultManager.acked_all_record :
    (f.acked now req .all).1.table[i].record = f.table[i].record.bind (ackedRecord now) := by
  rw [FaultManager.acked_all, FaultStep.next_fst, FaultManager.testTableFull_other _ now general]
  exact ackSlots_record (mem_allFaultSlots i) (f, [])

theorem FaultManager.acked_pairs_named (unique : OneRecordEach f) {l : List AckPair} {r : FaultRecord}
    (holds : f.table[i].record = some r) (named : (r.kind.code, r.object) ∈ l) :
    (f.acked now req (.pairs l)).1.table[i].record = ackedRecord now r := by
  rw [FaultManager.acked_pairs, FaultStep.next_fst, FaultManager.testTableFull_other _ now general]
  exact ackPairs_named (x := (f, [])) unique holds named

theorem FaultManager.acked_pairs_unnamed {l : List AckPair}
    (unnamed : ∀ r, f.table[i].record = some r → (r.kind.code, r.object) ∉ l) :
    (f.acked now req (.pairs l)).1.table[i] = f.table[i] := by
  rw [FaultManager.acked_pairs, FaultStep.next_fst, FaultManager.testTableFull_other _ now general]
  exact ackPairs_unnamed l (x := (f, [])) unnamed

end

section
variable (f : FaultManager) (now : Time) (req : Requester)

theorem FaultManager.ackPair_sameLatch (p : AckPair) : f.SameLatch (f.ackPair now req p) := by
  cases named : f.namedSlot p with
  | none => rw [FaultManager.ackPair_unnamed named]; rfl
  | some i => rw [FaultManager.ackPair_named named]; exact f.ackAt_sameLatch now req i

/-- Changes taken one after another. -/
theorem FaultManager.SameLatch.foldl {α : Type} {f : FaultManager} {g : FaultManager → α → FaultStep}
    (hg : ∀ (f : FaultManager) (a : α), f.SameLatch (g f a)) (l : List α) {x : FaultStep} (h : f.SameLatch x) :
    f.SameLatch (l.foldl (fun x a => x.next fun f => g f a) x) := by
  induction l generalizing x with
  | nil => exact h
  | cons a l ih => exact ih ((hg x.1 a).trans h)

theorem FaultManager.SameLatch.tested {f : FaultManager} {x : FaultStep} (h : f.SameLatch x) (now : Time) :
    f.SameLatch (x.next fun f => f.testTableFull now) := (x.1.testTableFull_sameLatch now).trans h

/-- An acknowledge leaves the latch. -/
theorem FaultManager.acked_sameLatch (t : AckTarget) : f.SameLatch (f.acked now req t) := by
  cases t with
  | all =>
    have slots : f.SameLatch (ackSlots now req allFaultSlots (f, [])) := .foldl (fun f i => f.ackAt_sameLatch now req i) _ rfl
    exact slots.tested now
  | pairs l =>
    have pairs : f.SameLatch (ackPairs now req l (f, [])) := .foldl (fun f p => f.ackPair_sameLatch now req p) l rfl
    exact pairs.tested now

end

end Sys2Proof.Machine
end

section
/-! PROOFS. An acknowledge on the whole state: each record that changes is told (R137), the test of TABLE_FULL comes once (R126)
and the mode after it (R131, R133); by the host (R135) and by the signaller (R160 to R163). -/

namespace Sys2Proof.Machine

/-! ### One change after another, on the whole state -/

theorem FaultStep.next_assoc (x : FaultStep) (g h : FaultManager → FaultStep) :
    (x.next g).next h = x.next fun f => (g f).next h := Prod.ext rfl (List.append_assoc _ _ _)

theorem FaultStep.Aside.next {x : FaultStep} {g : FaultManager → FaultStep} (hx : x.Aside) (hg : (g x.1).Aside) :
    (x.next g).Aside := fun m s => by
  have append : ∀ t, emit (x.next g).2 t = emit (g x.1).2 (emit x.2 t) := fun _ => List.foldl_append
  rw [append, append, hx, hg]

section
variable {α : Type} {g : FaultManager → α → FaultStep}

theorem FaultStep.Aside.foldl (hg : ∀ (f : FaultManager) (a : α), (g f a).Aside) (l : List α) {x : FaultStep} (h : x.Aside) :
    FaultStep.Aside (l.foldl (fun x a => x.next fun f => g f a) x) := by
  induction l generalizing x with
  | nil => exact h
  | cons a l ih => exact ih (h.next (hg x.1 a))

/-- Changes after a change are that change, then the changes alone. -/
theorem foldl_next (l : List α) (x : FaultStep) :
    l.foldl (fun (x : FaultStep) a => x.next fun f => g f a) x =
      x.next fun f => l.foldl (fun (x : FaultStep) a => x.next fun f => g f a) (f, []) := by
  induction l generalizing x with
  | nil => exact Prod.ext rfl (List.append_nil _).symm
  | cons a l ih =>
    refine (ih (x.next fun f => g f a)).trans ((FaultStep.next_assoc _ _ _).trans ?_)
    exact congrArg x.next (funext fun f => (ih (g f a)).symm)

variable (g) in
/-- A list of changes, one after another. -/
def changesInTurn (l : List α) (f : FaultManager) : FaultStep :=
  l.foldl (fun (x : FaultStep) a => x.next fun f => g f a) (f, [])

theorem changesInTurn_cons (a : α) (l : List α) (f : FaultManager) :
    changesInTurn g (a :: l) f = (g f a).next (changesInTurn g l) := foldl_next l (g f a)

/-- A list of changes takes effect one change at a time. -/
theorem applyFault_changesInTurn (aside : ∀ (f : FaultManager) (a : α), (g f a).Aside) (l : List α) (s : State) :
    applyFault (changesInTurn g l) s = l.foldl (fun s a => applyFault (fun f => g f a) s) s := by
  induction l generalizing s with
  | nil => exact applyFault_idle rfl
  | cons a l ih =>
    have first : applyFault (changesInTurn g (a :: l)) s = applyFault (fun f => (g f a).next (changesInTurn g l)) s :=
      applyFault_congr (changesInTurn_cons a l s.faults)
    rw [first, applyFault_next (aside s.faults a), ih]
    rfl

end

/-- Turns that agree at a time agree in a row while the time stands. -/
theorem foldl_congr_now {α : Type} {g h : State → α → State} {now : Time} (same : ∀ s a, s.now = now → g s a = h s a)
    (still : ∀ s a, (h s a).now = s.now) (l : List α) {s : State} (at_ : s.now = now) : l.foldl g s = l.foldl h s := by
  induction l generalizing s with
  | nil => rfl
  | cons a l ih =>
    rw [List.foldl_cons, List.foldl_cons, same s a at_]
    exact ih ((still s a).trans at_)

theorem foldl_now {α : Type} {h : State → α → State} (still : ∀ s a, (h s a).now = s.now) (l : List α) (s : State) :
    (l.foldl h s).now = s.now := by
  induction l generalizing s with
  | nil => rfl
  | cons a l ih => exact (ih (h s a)).trans (still s a)

/-! ### The acknowledge of a slot and of a pair (R128, R137) -/

section
variable (f : FaultManager) (now : Time) (req : Requester)

theorem FaultManager.ackAt_aside (i : Fin 32) : (f.ackAt now req i).Aside := by
  unfold FaultManager.ackAt FaultManager.restate FaultManager.remove
  cases f.table[i].record with
  | none => exact FaultStep.aside_silent _
  | some r =>
    dsimp only
    cases r.state with
    | activeUnacked => cases r.kind.isEvent <;> exact FaultStep.aside_faultOuts _ _ _ _ _ _ _
    | activeAcked => exact FaultStep.aside_silent _
    | clearedUnacked => exact FaultStep.aside_faultOuts _ _ _ _ _ _ _

theorem FaultManager.ackPair_aside (p : AckPair) : (f.ackPair now req p).Aside := by
  cases named : f.namedSlot p with
  | none => rw [FaultManager.ackPair_unnamed named]; exact FaultStep.aside_silent _
  | some i => rw [FaultManager.ackPair_named named]; exact f.ackAt_aside now req i

end

theorem applyFault_ackAt (req : Requester) (i : Fin 32) (s : State) :
    applyFault (fun f => f.ackAt s.now req i) s = ackAtSlot req.code i s := by
  unfold applyFault ackAtSlot FaultManager.ackAt FaultManager.restate FaultManager.remove
  dsimp only
  cases s.faults.table[i].record with
  | none => rfl
  | some r =>
    dsimp only
    cases r.state with
    | activeUnacked => cases r.kind.isEvent <;> rfl
    | activeAcked => rfl
    | clearedUnacked => rfl

theorem applyFault_ackPair (req : Requester) (p : AckPair) (s : State) :
    applyFault (fun f => f.ackPair s.now req p) s = ackNamed req.code s p := by
  have told : ackNamed req.code s p = match s.faults.namedSlot p with
    | some i => ackAtSlot req.code i s
    | none => s := rfl
  rw [told]
  cases named : s.faults.namedSlot p with
  | none => exact applyFault_idle (FaultManager.ackPair_unnamed named)
  | some i =>
    exact (applyFault_congr (h := fun f => f.ackAt s.now req i) (FaultManager.ackPair_named named)).trans
      (applyFault_ackAt req i s)

theorem ackAtSlot_now (req : Requester) (s : State) (i : Fin 32) : (ackAtSlot req.code i s).now = s.now := by
  rw [← applyFault_ackAt]
  exact ((applyFault_only _ s).clock_eq (by decide)).1

theorem ackNamed_now (req : Requester) (s : State) (p : AckPair) : (ackNamed req.code s p).now = s.now := by
  rw [← applyFault_ackPair]
  exact ((applyFault_only _ s).clock_eq (by decide)).1

/-! ### A whole command (R129) -/

section
variable (req : Requester) (s : State)

theorem applyFault_ackSlots (l : List (Fin 32)) :
    applyFault (fun f => ackSlots s.now req l (f, [])) s = l.foldl (fun s i => ackAtSlot req.code i s) s := by
  have told : ∀ (t : State) (i : Fin 32), t.now = s.now →
      applyFault (fun f => f.ackAt s.now req i) t = ackAtSlot req.code i t := fun t i same => by
    rw [← same]
    exact applyFault_ackAt req i t
  exact (applyFault_changesInTurn (fun f i => f.ackAt_aside s.now req i) l s).trans
    (foldl_congr_now told (ackAtSlot_now req) l rfl)

theorem applyFault_ackPairs (l : List AckPair) :
    applyFault (fun f => ackPairs s.now req l (f, [])) s = l.foldl (ackNamed req.code) s := by
  have told : ∀ (t : State) (p : AckPair), t.now = s.now →
      applyFault (fun f => f.ackPair s.now req p) t = ackNamed req.code t p := fun t p same => by
    rw [← same]
    exact applyFault_ackPair req p t
  exact (applyFault_changesInTurn (fun f p => f.ackPair_aside s.now req p) l s).trans
    (foldl_congr_now told (ackNamed_now req) l rfl)

/-- A command's changes take effect one by one, each told, before the test of TABLE_FULL (R126, R137). -/
theorem applyFault_acked (t : AckTarget) :
    applyFault (fun f => f.acked s.now req t) s = tableFullTested (match t with
      | .all => allFaultSlots.foldl (fun s i => ackAtSlot req.code i s) s
      | .pairs l => l.foldl (ackNamed req.code) s) := by
  cases t with
  | all =>
    have aside : (ackSlots s.now req allFaultSlots (s.faults, [])).Aside :=
      .foldl (fun f i => f.ackAt_aside s.now req i) _ (FaultStep.aside_silent _)
    simp only [FaultManager.acked_all]
    rw [applyFault_next (g := fun f => ackSlots s.now req allFaultSlots (f, [])) aside, applyFault_ackSlots]
    exact applyFault_testTableFull_at (foldl_now (ackAtSlot_now req) _ s)
  | pairs l =>
    have aside : (ackPairs s.now req l (s.faults, [])).Aside :=
      .foldl (fun f p => f.ackPair_aside s.now req p) _ (FaultStep.aside_silent _)
    simp only [FaultManager.acked_pairs]
    rw [applyFault_next (g := fun f => ackPairs s.now req l (f, [])) aside, applyFault_ackPairs]
    exact applyFault_testTableFull_at (foldl_now (ackNamed_now req) _ s)

variable {t : AckTarget}

theorem acknowledge_accepted (ok : t.ok = true) : acknowledge req t s = (.ok, acknowledged req.code t s) :=
  (if_pos ok).trans (congrArg (fun x => (Result.ok, deriveMode .ack x)) (applyFault_acked req s t))

theorem acknowledge_refused (bad : t.ok = false) : acknowledge req t s = (.outOfRange, s) :=
  if_neg (by rw [bad]; decide)

theorem acknowledge_result : (acknowledge req t s).1 = if t.ok then .ok else .outOfRange := by
  cases ok : t.ok with
  | true => rw [acknowledge_accepted req s ok]; rfl
  | false => rw [acknowledge_refused req s ok]; rfl

theorem acknowledge_state : (acknowledge req t s).2 = if t.ok then acknowledged req.code t s else s := by
  cases ok : t.ok with
  | true => rw [acknowledge_accepted req s ok]; rfl
  | false => rw [acknowledge_refused req s ok]; rfl

theorem acknowledged_faults (t : AckTarget) : (acknowledged req.code t s).faults =
    { (s.faults.acked s.now req t).1 with mode := some (s.faults.acked s.now req t).1.derived } := by
  have told : acknowledged req.code t s = deriveMode .ack (applyFault (fun f => f.acked s.now req t) s) :=
    (congrArg (deriveMode .ack) (applyFault_acked req s t)).symm
  rw [told, deriveMode_faults, applyFault_faults]

theorem acknowledge_table : (acknowledge req t s).2.faults.table =
    if t.ok then (s.faults.acked s.now req t).1.table else s.faults.table := by
  rw [acknowledge_state]
  split
  · rw [acknowledged_faults]
  · rfl

theorem acknowledge_confirm : ConfirmKept s (acknowledge req t s).2 := by
  cases ok : t.ok with
  | true =>
    have applied : ConfirmKept s (applyFault (fun f => f.acked s.now req t) s) :=
      ConfirmKept.trans (.of_only (setFaults_only s fun f => (f.acked s.now req t).1) (by decide)) (emit_confirm _ _)
    have command : acknowledge req t s = (.ok, deriveMode .ack (applyFault (fun f => f.acked s.now req t) s)) := if_pos ok
    rw [command]
    exact applied.trans (deriveMode_confirm .ack _)
  | false => rw [acknowledge_refused req s ok]; exact .refl s

end

/-! ### The host's acknowledge (R135) -/

theorem ackTaken_only (payload : List Byte) (s : State) : Only [.free] s (ackTaken payload s) := by
  unfold ackTaken
  split
  · exact Only.refl _ _
  · exact fun b other => by cases b <;> simp_all [Same, State.configuration]

section
variable {s : State} (tag : Byte) {payload : List Byte} (run : s.part = .run) (free : HostFree s)
  (counted : countFits payload = true) (fits : payload.length ≤ 248)

theorem ackTaken_frameIn (payload : List Byte) (s : State) : Only [.port, .free] s (ackTaken payload s.frameIn) :=
  (frameIn_only s).seq (ackTaken_only payload s.frameIn) (by decide) (by decide)

theorem ackTaken_link (payload : List Byte) (s : State) : (ackTaken payload s.frameIn).line.link = s.line.link := by
  unfold ackTaken
  split <;> rfl

include run free counted fits

theorem faultAck_acted {r : Result} {u : State}
    (taken : whileLinkDown (acknowledge .host (ackTarget payload)) (ackTaken payload s.frameIn) = (r, u)) :
    ActedReply (.faultAck tag payload) .faultAck tag r s u :=
  actedReply_of_serve (q := .faultAck) rfl free fits counted (by rw [run]; rfl)
    (congrArg (acted .faultAck (ackItems s.frameIn.free payload)) taken)

theorem faultAck_refused {r : Result}
    (refused : whileLinkDown (acknowledge .host (ackTarget payload)) (ackTaken payload s.frameIn) =
      (r, ackTaken payload s.frameIn)) :
    ∃ u, ActedReply (.faultAck tag payload) .faultAck tag r s u ∧ Only [.port, .free] s u :=
  ⟨_, faultAck_acted tag run free counted fits refused, ackTaken_frameIn payload s⟩

theorem faultAck_accepted (down : s.line.link ≠ .active) (ok : (ackTarget payload).ok = true) :
    ∃ u, ActedReply (.faultAck tag payload) .faultAck tag .ok s u ∧
      u.faults.table = (s.faults.acked s.now .host (ackTarget payload)).1.table ∧
      u.faults.latch = s.faults.latch ∧ u.faults.mode = some u.faults.derived ∧
      (∃ w, Only [.port, .free] s w ∧ u = acknowledged 2 (ackTarget payload) w) ∧
      Only (.port :: faultBlocks) s u := by
  have before := ackTaken_frameIn payload s
  have quiet : (ackTaken payload s.frameIn).line.link ≠ .active := by rw [ackTaken_link]; exact down
  have accepted := acknowledge_accepted .host (ackTaken payload s.frameIn) ok
  have faults := acknowledged_faults .host (ackTaken payload s.frameIn) (ackTarget payload)
  rw [before.faults_eq (by decide), (before.clock_eq (by decide)).1] at faults
  have frame := acknowledge_only .host (ackTarget payload) (ackTaken payload s.frameIn)
  rw [accepted] at frame
  refine ⟨_, faultAck_acted tag run free counted fits ((whileLinkDown_of_down quiet _).trans accepted), ?table, ?latch, ?mode,
    ⟨_, before, rfl⟩, (before.mono (by decide)).trans (frame.mono (by decide))⟩
  case table => rw [faults]
  case latch => rw [faults]; exact s.faults.acked_sameLatch s.now .host _
  case mode => rw [faults]; rfl

end

/-! ### The signaller's acknowledge (R160 to R163) -/

theorem takeCommand_ack (addr : Addressing) {payload : List Byte} (counted : countFits payload = true) (s : State) :
    takeCommand 0 kindAck addr payload s =
      commandReported kindAck addr (acknowledge .signaller (ackTarget payload) s).1 payload
        (acknowledge .signaller (ackTarget payload) s).2 := by
  have carried : sigExecute kindAck payload s = acknowledge .signaller (ackTarget payload) s :=
    (if_neg (by decide)).trans ((if_pos rfl).trans (if_pos counted))
  unfold takeCommand
  rw [if_pos rfl, carried]
  cases addr <;> rfl

section
variable {h : LineHead} {addr : Addressing} {s : State} {payload : List Byte} (ready : LineReady s)
  (active : s.line.link = .active) (box : FromBox s h addr) (counted : countFits payload = true) (fits : payload.length ≤ 24)
include ready active box counted fits

theorem exec_sigAck_eq :
    exec (.sigAck h payload) s = .next (react (commandReported kindAck addr
      (acknowledge .signaller (ackTarget payload) (frameTaken s)).1 payload
      (acknowledge .signaller (ackTarget payload) (frameTaken s)).2)) := by
  have row : exec (.sigAck h payload) s = .next (receiveFrame h kindAck payload s) := rfl
  rw [row, receiveFrame_fromBox ready active box (by decide) fits, takeCommand_ack addr counted]

theorem sigAck_effect :
    ∃ u, exec (.sigAck h payload) s = .next (react u) ∧
      u.reports.confirm = confirmOf s addr 0x03 (if (ackTarget payload).ok then .ok else .outOfRange) ∧
      u.faults.table =
        (if (ackTarget payload).ok then (s.faults.acked s.now .signaller (ackTarget payload)).1.table
        else s.faults.table) ∧
      (∃ w, Only [.line, .counters, .notices] s w ∧
        let v := if (ackTarget payload).ok then acknowledged 1 (ackTarget payload) w else w
        Wrote .sigCmd 0 ([0x03, byte addr.code, if (ackTarget payload).ok then 0 else 3, 0] ++ payload.take 4) v u ∧
        u.faults = v.faults ∧ Only [.log, .notices, .reports] v u) ∧
      Only (.line :: faultBlocks) s u := by
  have taken := frameTaken_only s
  have faults : (frameTaken s).faults = s.faults := taken.faults_eq (by decide)
  have now : (frameTaken s).now = s.now := (taken.clock_eq (by decide)).1
  have frame := acknowledge_only .signaller (ackTarget payload) (frameTaken s)
  have reported := commandReported_only kindAck addr (acknowledge .signaller (ackTarget payload) (frameTaken s)).1 payload
    (acknowledge .signaller (ackTarget payload) (frameTaken s)).2
  have run : (acknowledge .signaller (ackTarget payload) (frameTaken s)).2.part = .run :=
    (frame.part_eq (by decide)).trans ((taken.part_eq (by decide)).trans ready.1)
  have written := commandReported_memory kindAck addr (acknowledge .signaller (ackTarget payload) (frameTaken s)).1 payload run
  have kept : ConfirmKept s (acknowledge .signaller (ackTarget payload) (frameTaken s)).2 :=
    ConfirmKept.trans (.of_only taken (by decide)) (acknowledge_confirm .signaller _)
  refine ⟨_, exec_sigAck_eq ready active box counted fits, ?confirm, ?table, ⟨frameTaken s, taken, ?told⟩, ?blocks⟩
  case confirm =>
    rw [commandReported_confirm, acknowledge_result, confirmOf, confirmOf, kept]
    rfl
  case table => rw [reported.faults_eq (by decide), acknowledge_table, faults, now]
  case told =>
    rw [acknowledge_result, acknowledge_state] at written reported ⊢
    refine ⟨?_, reported.faults_eq (by decide), reported⟩
    unfold Wrote
    refine written.trans ?_
    cases (ackTarget payload).ok <;> rfl
  case blocks => exact (taken.mono (by decide)).trans ((frame.mono (by decide)).trans (reported.mono (by decide)))

end

/-- Settles O27: both commands reach `acknowledge`, whose changes of the table are told one by one. -/
theorem acknowledgesSettleTheTable : Obligations.AcknowledgesSettleTheTable := by
  unfold Obligations.AcknowledgesSettleTheTable
  refine ⟨fun tag payload s run free counted fits => ⟨fun active => ?active, fun down bad => ?outOfRange,
      faultAck_accepted tag run free counted fits⟩,
    fun h addr payload s ready active box counted fits => sigAck_effect ready active box counted fits,
    fun f now req i general => f.acked_all_record now req general,
    fun f now req l i unique general => ⟨fun r => f.acked_pairs_named now req general unique,
      f.acked_pairs_unnamed now req general⟩,
    ackTarget_ok_iff⟩
  case active =>
    exact faultAck_refused tag run free counted fits
      (whileLinkDown_of_active ((ackTaken_link payload s).trans active) _)
  case outOfRange =>
    have quiet : (ackTaken payload s.frameIn).line.link ≠ .active := by rw [ackTaken_link]; exact down
    exact faultAck_refused tag run free counted fits
      ((whileLinkDown_of_down quiet _).trans (acknowledge_refused .host _ bad))

end Sys2Proof.Machine
end

section
/-! PROOFS. The access wait (R150, R151, R168). -/

namespace Sys2Proof.Machine

/-! ### The access wait (R150, R151, R168) -/

theorem lineSettle_of_config {s : State} (config : s.part = .config) : lineSettle s = s := by simp [lineSettle, config]

theorem mayWait_iff (l : LineController) :
    l.mayWait = true ↔ l.link = .active ∧ l.rx = .idle ∧ l.inFlight = none ∧ l.wait = none := by
  simp [LineController.mayWait, and_assoc]

/-- The line in RUN once the waits have followed the content. -/
theorem lineSettle_line {s : State} (run : s.part = .run) :
    (lineSettle s).line = { s.line with
      raisedAlarm := s.line.raisedAlarm && s.holdsContent .alarm
      raisedState := s.line.raisedState && s.holdsContent .state
      raisedRoutine := s.line.raisedRoutine && s.holdsContent .routine
      wait := if s.line.mayWait then s.highestContent else s.line.wait
      waitTest := s.line.waitTest || (s.line.mayWait && s.highestContent.isSome) } := by
  have same : (lowerWaits s).highestContent = s.highestContent := highestContent_congr rfl rfl
  have may : (lowerWaits s).line.mayWait = s.line.mayWait := rfl
  unfold lineSettle beginWait
  rw [if_pos run, same, may]
  cases s.line.mayWait <;> simp [lowerWaits]

/-- Settles O50: in RUN the settled line field by field, in CONFIG the line left alone. -/
theorem accessWaitFollowsTheContent : Obligations.AccessWaitFollowsTheContent := by
  unfold Obligations.AccessWaitFollowsTheContent
  refine fun s => ⟨lineSettle_only s, lineSettle_of_config, fun run => ?_⟩
  rw [lineSettle_line run]
  have top : s.highestContent.isSome = decide (s.highestContent ≠ none) := by cases s.highestContent <;> rfl
  by_cases begins : s.line.mayWait = true
  · have parts := (mayWait_iff _).1 begins
    simp only [begins, Bool.true_and, parts, true_and, top]
    rfl
  · have parts := mt (mayWait_iff _).2 begins
    simp only [begins, parts, false_and, Bool.false_and, decide_false, Bool.false_eq_true, if_false]

end Sys2Proof.Machine
end

section
/-! PROOFS. Every step keeps the line silent unless the link is ACTIVE (R149, R151 to R153). -/

namespace Sys2Proof.Machine

/-! ### What keeps the law -/

/-- An operation within a step keeps the law of R153. -/
def KeepsSilence (s t : State) : Prop := SilentUnlessActive s → SilentUnlessActive t

theorem silent_iff (s : State) :
    SilentUnlessActive s ↔ (s.line.link ≠ .active → s.line.inFlight = none ∧ s.line.wait = none) := by
  unfold SilentUnlessActive
  cases s.line.inFlight <;> cases s.line.wait <;> simp

theorem silent_of_idle {s : State} (flight : s.line.inFlight = none) (wait : s.line.wait = none) : SilentUnlessActive s :=
  (silent_iff s).2 fun _ => ⟨flight, wait⟩

theorem KeepsSilence.refl (s : State) : KeepsSilence s s := id

theorem KeepsSilence.trans {s t u : State} (h : KeepsSilence s t) (h' : KeepsSilence t u) : KeepsSilence s u := h' ∘ h

theorem KeepsSilence.ite {s t u : State} {c : Prop} [Decidable c] (ht : KeepsSilence s t) (hu : KeepsSilence s u) :
    KeepsSilence s (if c then t else u) := by
  split
  · exact ht
  · exact hu

/-- A command that takes effect only when it is due. -/
theorem KeepsSilence.due {s t : State} {c : Prop} [Decidable c] (h : KeepsSilence s t) : KeepsSilence s (if c then t else s) :=
  .ite h (.refl s)

theorem KeepsSilence.foldl {α : Type} {f : State → α → State} (hf : ∀ s a, KeepsSilence s (f s a)) (l : List α) (s : State) :
    KeepsSilence s (l.foldl f s) := by
  induction l generalizing s with
  | nil => exact .refl s
  | cons a l ih => exact (hf s a).trans (ih (f s a))

theorem KeepsSilence.of_line {s t : State} (line : t.line = s.line) : KeepsSilence s t := by
  unfold KeepsSilence SilentUnlessActive
  rw [line]
  exact id

theorem KeepsSilence.after {s t u : State} (h : KeepsSilence t u) (same : t.line = s.line) : KeepsSilence s u :=
  (KeepsSilence.of_line same).trans h

theorem KeepsSilence.of_only {bs : List Block} {s t : State} (h : Only bs s t) (off : Block.link ∉ bs ∧ Block.line ∉ bs) :
    KeepsSilence s t := .of_line (h.line_eq off.1 off.2)

theorem Only.link_eq {bs : List Block} {s t : State} (h : Only bs s t) (off : .link ∉ bs) : t.line.link = s.line.link :=
  congrArg Prod.fst (h .link off)

/-- An operation that leaves the link keeps the law when it neither sends nor waits where the part was idle. -/
theorem KeepsSilence.of_idle {s t : State} (link : t.line.link = s.line.link)
    (idle : s.line.inFlight = none → s.line.wait = none → s.line.link ≠ .active →
      t.line.inFlight = none ∧ t.line.wait = none) : KeepsSilence s t := fun silent =>
  (silent_iff t).2 fun inactive => by
    rw [link] at inactive
    obtain ⟨flight, wait⟩ := (silent_iff s).1 silent inactive
    exact idle flight wait inactive

theorem setLine_silence {s : State} {f : LineController → LineController} (link : (f s.line).link = s.line.link)
    (idle : s.line.inFlight = none → s.line.wait = none → (f s.line).inFlight = none ∧ (f s.line).wait = none) :
    KeepsSilence s (s.setLine f) := .of_idle link fun flight wait _ => idle flight wait

/-! ### Access and the part's frame (R150 to R156) -/

theorem lineSettle_silence (s : State) : KeepsSilence s (lineSettle s) := by
  refine .of_idle ((lineSettle_only s).link_eq (by decide)) fun flight wait inactive => ?_
  cases part : s.part with
  | config => rw [lineSettle_of_config part]; exact ⟨flight, wait⟩
  | run =>
    rw [lineSettle_line part]
    have held : s.line.mayWait = false := by simp [LineController.mayWait, inactive]
    simp [held, flight, wait]

theorem react_silence (s : State) : KeepsSilence s (react s) :=
  (KeepsSilence.of_only (takeDemand_only s) (by decide)).trans (lineSettle_silence _)

/-- A frame is asked for only as a wait ends. -/
theorem startFrame_silence (s : State) : KeepsSilence s (startFrame s) :=
  .of_idle ((startFrame_only s).link_eq (by decide)) fun flight wait _ => by simp [startFrame, flight, wait]

theorem frameSent_silence (s : State) : KeepsSilence s (frameSent s) :=
  .of_idle ((frameSent_only s).link_eq (by decide)) fun flight wait _ => by simp [frameSent, flight, wait]

theorem loseArbitration_silence (s : State) : KeepsSilence s (loseArbitration s) :=
  .of_idle ((loseArbitration_only s).link_eq (by decide)) fun flight wait _ => by simp [loseArbitration, flight, wait]

theorem collide_silence (s : State) : KeepsSilence s (collide s) :=
  .of_idle ((collide_only s).link_eq (by decide)) fun flight wait _ => by simp [collide, flight, wait]

/-- A sample with no frame in flight begins none, and leaves the waits (R141). -/
theorem LineController.quietSample_idle (l : LineController) :
    l.quietSample.inFlight = l.inFlight ∧ l.quietSample.wait = l.wait := by
  unfold LineController.quietSample
  split
  · exact ⟨rfl, rfl⟩
  · split <;> exact ⟨rfl, rfl⟩

theorem LineController.tick_idle {l : LineController} (flight : l.inFlight = none) (rate : Nat) :
    (l.tick rate).inFlight = none ∧ (l.tick rate).wait = l.wait := by
  rcases Nat.lt_or_ge (l.bitAcc + 50 * rate) 1000000 with lt | le
  · rw [LineController.tick_of_lt lt]
    exact ⟨flight, rfl⟩
  · have unbegun : NoFrameBegun l := fun f some_ => by simp [flight] at some_
    rw [LineController.tick_of_le le, LineController.bitTime_of_noFrameBegun _ unbegun]
    exact ⟨l.quietSample_idle.1.trans flight, l.quietSample_idle.2⟩

/-- A start bit begins only of a frame asked for, so that a tick of an idle line is the bit clock's. -/
theorem lineTick_silence (rate : Nat) (s : State) : KeepsSilence s (lineTick rate s) :=
  .of_idle ((lineTick_only rate s).link_eq (by decide)) fun flight wait _ => by
    rw [lineTick_of_not_begins fun f some_ => by simp [flight] at some_]
    exact ⟨(LineController.tick_idle flight rate).1, (LineController.tick_idle flight rate).2.trans wait⟩

/-! ### The link (R147 to R149) -/

/-- The line once the part has given up its frame, as the link leaves ACTIVE (R152, R156). -/
def LineController.abandoned (l : LineController) : LineController :=
  match l.inFlight with
  | none => l
  | some f =>
    if f.begun then { l with inFlight := none, rx := .skipping, assembly := [], headBits := [] } else { l with inFlight := none }

theorem LineController.abandoned_of_none {l : LineController} (flight : l.inFlight = none) : l.abandoned = l := by
  unfold LineController.abandoned
  rw [flight]

theorem LineController.abandoned_of_some {l : LineController} {f : TxFrame} (flight : l.inFlight = some f) :
    l.abandoned = if f.begun then { l with inFlight := none, rx := .skipping, assembly := [], headBits := [] }
      else { l with inFlight := none } := by
  unfold LineController.abandoned
  rw [flight]

theorem abandon_of_none {s : State} (flight : s.line.inFlight = none) : abandon s = s := by
  unfold abandon
  rw [flight]

theorem abandon_of_some {s : State} {f : TxFrame} (flight : s.line.inFlight = some f) :
    abandon s = if f.begun then giveUp .skipping [] s.line.quiet s else s.setLine LineController.dropUnbegun := by
  unfold abandon
  rw [flight]

theorem abandon_line (s : State) : (abandon s).line = s.line.abandoned := by
  cases flight : s.line.inFlight with
  | none => rw [abandon_of_none flight, LineController.abandoned_of_none flight]
  | some f =>
    rw [abandon_of_some flight, LineController.abandoned_of_some flight]
    split
    · rfl
    · next unbegun => exact dropUnbegun_of_unbegun flight (by simpa using unbegun)

/-- A change of link state, recorded and told, before the Report Scheduler takes its edges (R149). -/
def linkTold (new : LinkState) (cause : LinkCause) (s : State) : State :=
  emit [.log .link 0 (linkData (some s.line.link) new cause), .notice ⟨.link, [byte new.code]⟩]
    (s.setLine fun l => { l.waitsToBase with link := new, wait := none })

theorem linkGo_eq (new : LinkState) (cause : LinkCause) (s : State) :
    linkGo new cause s = linkEdges s.line.link new (linkTold new cause s) := rfl

/-- A record and a notice leave the line. -/
theorem tell_line (k : LogKind) (o : Nat) (d : List Byte) (n : Notice) (s : State) :
    (emit [.log k o d, .notice n] s).line = s.line := by
  have told := (writeLog_only k o d s).seq (queueNotice_only n _) (cs := [.log, .notices]) (by decide) (by decide)
  exact told.line_eq (by decide) (by decide)

theorem linkTold_line (new : LinkState) (cause : LinkCause) (s : State) :
    (linkTold new cause s).line = { s.line.waitsToBase with link := new, wait := none } :=
  tell_line _ _ _ _ _

theorem linkEdges_line (old new : LinkState) (s : State) :
    (linkEdges old new s).line = if old = .active then s.line.abandoned else s.line := by
  have up := fun t => (linkUp_only t).line_eq (by decide) (by decide)
  have gone := fun t => (linkGone_only t).line_eq (by decide) (by decide)
  unfold linkEdges
  dsimp only
  split <;> split <;> simp only [up, gone, abandon_line]

theorem linkGo_line (new : LinkState) (cause : LinkCause) (s : State) :
    (linkGo new cause s).line =
      let l := { s.line.waitsToBase with link := new, wait := none }
      if s.line.link = .active then l.abandoned else l := by
  rw [linkGo_eq, linkEdges_line, linkTold_line]

theorem LineController.abandoned_idle (l : LineController) : l.abandoned.inFlight = none ∧ l.abandoned.wait = l.wait := by
  unfold LineController.abandoned
  split
  · next none_ => exact ⟨none_, rfl⟩
  · split <;> exact ⟨rfl, rfl⟩

/-- A change of link state leaves neither a frame nor a wait: one that leaves ACTIVE gives them up, and elsewhere there is
none. -/
theorem linkGo_idle (new : LinkState) (cause : LinkCause) {s : State} (silent : SilentUnlessActive s) :
    (linkGo new cause s).line.inFlight = none ∧ (linkGo new cause s).line.wait = none := by
  rw [linkGo_line]
  dsimp only
  split
  · exact LineController.abandoned_idle _
  · next inactive => exact ⟨((silent_iff s).1 silent inactive).1, rfl⟩

theorem linkGo_silence (new : LinkState) (cause : LinkCause) (s : State) : KeepsSilence s (linkGo new cause s) :=
  fun silent => silent_of_idle (linkGo_idle new cause silent).1 (linkGo_idle new cause silent).2

theorem beaconTime_silence (s : State) (first last : Option Time) :
    KeepsSilence s (s.setLine fun l => { l with firstBeacon := first, lastBeacon := last }) := setLine_silence rfl fun f w => ⟨f, w⟩

theorem takeBeacon_silence (s : State) : KeepsSilence s (takeBeacon s) := by
  have go := fun new => linkGo_silence new .beacon s
  unfold takeBeacon
  split
  · exact (go _).trans (beaconTime_silence _ _ _)
  · exact ((go _).trans (beaconTime_silence _ _ _)).trans (.of_only (endCondition_only _ _ _) (by decide))
  · exact .ite (beaconTime_silence _ _ _) ((go _).trans (beaconTime_silence _ _ _))
  · exact beaconTime_silence _ _ _

theorem loseLink_silence (s : State) : KeepsSilence s (loseLink s) :=
  (linkGo_silence _ _ s).trans (.of_only (raise_only _ _ _ _) (by decide))

/-! ### Receiving (R143 to R146) -/

theorem takeLine_silence (rx : RxState) (asm : List Byte) (s : State) : KeepsSilence s (takeLine rx asm s) :=
  .of_idle rfl fun flight _ _ => ⟨by simp [takeLine, LineController.lineTaken, dropUnbegun_of_none flight, flight], rfl⟩

theorem badFrame_silence (rx : RxState) (q : Nat) (s : State) : KeepsSilence s (badFrame rx q s) :=
  (setLine_silence (f := fun l => { l with rx := rx, assembly := [], headBits := [], quiet := q }) rfl fun f w => ⟨f, w⟩).trans
    (.of_only (emit_only _ _) (by decide))

theorem setQuiet_silence (q : Nat) (s : State) : KeepsSilence s (s.setLine fun l => { l with quiet := q }) :=
  setLine_silence rfl fun f w => ⟨f, w⟩

theorem completeFrame_silence (h : LineHead) (kind : Byte) (payload : List Byte) (s : State) :
    KeepsSilence s (completeFrame h kind payload s) := by
  have lowered : KeepsSilence s (s.setLine LineController.waitsToBase) := setLine_silence rfl fun f w => ⟨f, w⟩
  have counted := fun t => KeepsSilence.of_only (emit_only [.count cntLineGood] t) (by decide)
  unfold completeFrame
  split
  · exact .refl s
  · dsimp only
    split
    · exact lowered
    · refine (lowered.trans (counted _)).trans ?_
      exact .ite (.ite (takeBeacon_silence _) (.refl _))
        (.ite (.of_only (takeCommand_only _ _ _ _ _) (by decide)) (.refl _))

theorem takeChar_silence (s : State) (c : Byte) : KeepsSilence s (takeChar s c) := by
  unfold takeChar
  split
  · dsimp only
    split
    · exact takeLine_silence _ _ s
    · exact (takeLine_silence _ _ s).trans (badFrame_silence _ _ _)
    · exact (takeLine_silence _ _ s).trans (badFrame_silence _ _ _)
    · exact ((takeLine_silence _ _ s).trans (completeFrame_silence _ _ _ _)).trans (react_silence _)
  · exact .due (setQuiet_silence _ s)

theorem takeChars_silence (cs : List Byte) (s : State) : KeepsSilence s (takeChars cs s) := .foldl takeChar_silence cs s

theorem receiveFrame_silence (h : LineHead) (kind : Byte) (payload : List Byte) (s : State) :
    KeepsSilence s (receiveFrame h kind payload s) := by
  unfold receiveFrame
  refine .ite (.refl s) (.ite ?_ (.due ?_))
  · exact ((takeLine_silence _ _ s).trans (completeFrame_silence _ _ _ _)).trans (react_silence _)
  · exact (takeChars_silence _ s).trans (react_silence _)

theorem framingError_silence (s : State) : KeepsSilence s (framingError s) :=
  .ite ((takeLine_silence _ _ s).trans (badFrame_silence _ _ _)) (.due (setQuiet_silence _ s))

theorem gapAbort_silence (s : State) : KeepsSilence s (gapAbort s) := .due (badFrame_silence _ _ s)

/-! ### Resets and the start of service (R159, R203 to R205) -/

theorem coldStart_silent (s : State) : SilentUnlessActive (coldStart s) := by
  simp [SilentUnlessActive, coldStart, State.reset, LineController.cold]

theorem startService_silent (old : Option LinkState) (s : State) : SilentUnlessActive (startService old s) := by
  have line : (startService old s).line = (startReports (startHost s)).line.started := by
    rw [startService_eq, serviceFromLine, (serviceFromFaults_only _).line_eq (by decide) (by decide), startLine_line]
  refine silent_of_idle ?_ ?_ <;> rw [line] <;> rfl

theorem commitStart_silent (s : State) : SilentUnlessActive (commitStart s) := by
  rw [commitStart_eq]
  exact startService_silent none _

theorem warmStart_silent (s : State) : SilentUnlessActive (warmStart s) := by
  have tested : ∀ t : State, (levelTest t).line = t.line := fun t => by
    unfold levelTest
    split
    · exact (queueNotice_only _ (t.setMemory fun m => { m with armed := false })).line_eq (by decide) (by decide)
    · rfl
  exact KeepsSilence.of_line (tested _) (startService_silent _ _)

/-! ### Host requests (R195) -/

theorem setHost_silence (s : State) (f : HostPort → HostPort) : KeepsSilence s (s.setHost f) := .of_line rfl

theorem acted_silence {q : Request} {items : List Byte} {x : Result × State} {s : State} (h : KeepsSilence s x.2) :
    KeepsSilence s (acted q items x).state :=
  (h.trans (react_silence _)).trans (.of_only (emit_only _ _) (by decide))

/-- A configuration request leaves the link, the wait and the frame in flight. -/
theorem configured_silence {f : List Byte → State → Option State}
    (config : f ∈ [setPointConfig, setSectionConfig, setTrackConfig, setTimingConfig, setFlashConfig, setLampConfig,
      setBarrierConfig, setLinkConfig, setMemoryConfig]) (payload : List Byte) (s : State) :
    KeepsSilence s (configured (f payload s) s).state := by
  have kept : ∀ t, f payload s = some t →
      t.line.link = s.line.link ∧ t.line.inFlight = s.line.inFlight ∧ t.line.wait = s.line.wait := fun t set => by
    simp only [List.mem_cons, List.not_mem_nil, or_false] at config
    rcases config with rfl | rfl | rfl | rfl | rfl | rfl | rfl | rfl | rfl <;>
      simp only [setPointConfig, setSectionConfig, setTrackConfig, setTimingConfig, setFlashConfig, setLampConfig,
        setBarrierConfig, setLinkConfig, setMemoryConfig] at set <;>
      (repeat' split at set) <;> cases set <;> exact ⟨rfl, rfl, rfl⟩
  unfold configured
  split
  · next t set =>
    obtain ⟨link, flight, wait⟩ := kept t set
    exact .of_idle link fun f w _ => ⟨flight.trans f, wait.trans w⟩
  · exact .refl s

theorem restartRequest_silence (mode : Nat) (s : State) : KeepsSilence s (restartRequest mode s).state := by
  have logged := fun r items => KeepsSilence.of_only (emit_only [.log .hostCmd 0 ([Request.restart.code, r] ++ items)] s) (by decide)
  unfold restartRequest
  split
  · exact fun _ => coldStart_silent s
  · split
    · exact (logged _ _).trans (setHost_silence _ _)
    · exact .refl s
  · exact logged _ _

theorem commitRequest_silence (s : State) : KeepsSilence s (commitRequest s).state := by
  unfold commitRequest
  split
  · exact .refl s
  · rw [answer_state]
    exact fun _ => commitStart_silent s

theorem lampTestRequest_silence (s : State) : KeepsSilence s (lampTestRequest s).2 := by
  unfold lampTestRequest
  split
  · exact .refl s
  · split
    · exact .of_only (startTest_only s) (by decide)
    · exact .refl s

theorem whileLinkDown_silence {f : State → Result × State} {s t : State} (same : t.line = s.line)
    (h : KeepsSilence t (f t).2) : KeepsSilence s (whileLinkDown f t).2 := by
  unfold whileLinkDown
  split
  · exact .of_line same
  · exact h.after same

theorem readCountersRequest_line (first count clear : Nat) (s : State) :
    (readCountersRequest first count clear s).state.line = s.line := by
  unfold readCountersRequest
  split
  · rw [answer_state]
    split
    · unfold clearCounters
      rfl
    · rfl
  · rfl

theorem readLogRequest_line (n : Nat) (s : State) : (readLogRequest n s).state.line = s.line := by
  unfold readLogRequest
  split <;> rfl

theorem readPassageRequest_line (n : Nat) (s : State) : (readPassageRequest n s).state.line = s.line := by
  unfold readPassageRequest
  split <;> rfl

theorem serve_silence (q : Request) (payload : List Byte) (s : State) : KeepsSilence s (serve q payload s).state := by
  cases q with
  | identify | readTime | readState | readSections | readRecords => exact .refl s
  | configPoint | configSection | configTrack | configTiming | configFlash | configLamp | configBarrier | configLink
  | configMemory => exact configured_silence (by simp) payload s
  | commit => exact commitRequest_silence s
  | restart => exact restartRequest_silence _ s
  | readFaults => exact .of_line (by rw [serve, readFaultsRequest_state])
  | readCounters => exact .of_line (readCountersRequest_line _ _ _ s)
  | readLog => exact .of_line (readLogRequest_line _ s)
  | readPassage => exact .of_line (readPassageRequest_line _ s)
  | localHold => exact acted_silence (.of_only (hold_only _ _ s) (by decide))
  | lampTest => exact acted_silence (lampTestRequest_silence s)
  | restore =>
    refine acted_silence ?_
    unfold hostRestoreRequest
    split
    · exact .refl s
    · exact .of_only (restore_only _ _ s) (by decide)
  | faultAck =>
    exact acted_silence (whileLinkDown_silence ((ackTaken_only payload s).line_eq (by decide) (by decide))
      (.of_only (acknowledge_only _ _ _) (by decide)))
  | release => exact acted_silence (whileLinkDown_silence rfl (.of_only (release_only s) (by decide)))

theorem testRequest_silence (kind : Byte) (payload : List Byte) (s : State) :
    KeepsSilence s (testRequest kind payload s).state := by
  unfold testRequest
  split
  · exact .refl s
  · split
    · exact .refl s
    · split
      · exact .refl s
      · exact serve_silence _ _ s

theorem takeRequest_silence (kind tag : Byte) (payload : List Byte) (s : State) :
    KeepsSilence s (takeRequest kind tag payload s) := by
  have placed : KeepsSilence s (placeReply kind tag (testRequest kind payload s)) := by
    unfold placeReply
    split
    · exact testRequest_silence kind payload s
    · exact (testRequest_silence kind payload s).trans (setHost_silence _ _)
  unfold takeRequest
  exact .ite (.ite (.of_only (emit_only _ s) (by decide)) (setHost_silence s _)) (.ite (setHost_silence s _) placed)

theorem takeFrame_silence (kind tag : Byte) (payload : List Byte) (s : State) :
    KeepsSilence s (takeFrame kind tag payload s) :=
  .due ((setHost_silence s _).trans (takeRequest_silence _ _ _ _))

theorem receiveBytes_silence (bytes : List Byte) (s : State) : KeepsSilence s (receiveBytes bytes s) := by
  have event : ∀ (t : State) (e : HostEvent), KeepsSilence t (hostEvent t e) := fun t e => by
    cases e with
    | bad => exact .of_only (emit_only [.count cntHostBad] t) (by decide)
    | frame kind tag payload => exact takeRequest_silence kind tag payload t
  exact (KeepsSilence.foldl event _ s).trans (setHost_silence _ _)

theorem dropAssembly_silence (s : State) : KeepsSilence s (dropAssembly s) :=
  .ite (.refl s) ((setHost_silence s _).trans (.of_only (emit_only _ _) (by decide)))

theorem startTx_silence (s : State) : KeepsSilence s (startTx s) := by
  have tested : ∀ t : State, KeepsSilence t (resyncTest t) := fun t => .due (setHost_silence t _)
  unfold startTx
  split
  · exact .of_line rfl
  · split
    · exact .of_line rfl
    · split
      · exact (tested _).after rfl
      · exact .refl s

theorem endTx_silence (s : State) : KeepsSilence s (endTx s) := by
  unfold endTx
  split
  · exact .refl s
  · exact (setHost_silence s _).trans (.due fun _ => warmStart_silent _)

/-! ### Every command -/

theorem KeepsSilence.of_next {s t u : State} {o : Out} (h : o = .next t) (next : o = .next u) (k : KeepsSilence s u) :
    KeepsSilence s t := by
  cases next.symm.trans h
  exact k

/-- A command outside the Line Controller changes nothing of it but the access wait. -/
theorem KeepsSilence.due_react {bs : List Block} {s t : State} {c : Prop} [Decidable c] (h : Only bs s t)
    (off : Block.link ∉ bs ∧ Block.line ∉ bs) : KeepsSilence s (if c then react t else s) :=
  .due ((KeepsSilence.of_only h off).trans (react_silence t))

/-- The same of a command that sets an input first. -/
theorem KeepsSilence.input_react {bs : List Block} {s t : State} {f : Pins → Pins} {c : Prop} [Decidable c]
    (h : Only bs (s.setPins f) t) (off : Block.link ∉ bs ∧ Block.line ∉ bs) :
    KeepsSilence s (if c then react t else s.setPins f) :=
  (KeepsSilence.due_react h off).after rfl

theorem acceptContacts_only (b : Fin 4) (up down : Bool) (s : State) : Only (.free :: seqBlocks) s (acceptContacts b up down s) :=
  (setBarrier_only s b (fun x => { x with up := x.up.accept up, down := x.down.accept down }) rfl).seq (judgeBarrier_only b _)
    (by decide) (by decide)

theorem settleBarrier_only (b : Fin 4) (s : State) : Only seqBlocks s (settleBarrier b s) :=
  ((setBarrier_only s b (fun x => { x.enter .down with settled := none }) rfl).seq (endCondition_only .barrierFail b.val _)
    (cs := seqBlocks) (by decide) (by decide)).trans (barrierChanged_only _)

theorem acceptSupply_only (input : SupplyInput) (ok : Bool) (s : State) :
    Only (.supply :: faultBlocks) s (acceptSupply input ok s) := by
  have set := (setSupply_only s fun x => x.setFilter input ((s.supply.filter input).accept ok)).mono
    (bs := .supply :: faultBlocks) (by decide)
  exact .ite set (.ite (set.trans ((endCondition_only _ _ _).mono (by decide)))
    (set.trans ((raise_only _ _ _ _).mono (by decide))))

theorem exec_silence (c : Instr) {s t : State} (h : exec c s = .next t) : KeepsSilence s t := by
  cases c with
  | coldReset l r => exact .of_next h rfl fun _ => coldStart_silent _
  | hostReady r => exact .of_next h rfl (.of_line rfl)
  | hostFrameDiscarded bytes e =>
    have received := receiveBytes_silence bytes s
    exact .of_next h rfl (.ite (received.trans (dropAssembly_silence _)) received)
  | hostGap bytes => exact .of_next h rfl ((receiveBytes_silence bytes s).trans (dropAssembly_silence _))
  | hostOverrun kind tag payload => exact .of_next h rfl (.due (takeFrame_silence kind tag payload s))
  | hostUnknownKind kind tag payload => exact .of_next h rfl (takeFrame_silence kind tag payload s)
  | identify tag payload | readTime tag payload | configPoint tag payload | configSection tag payload
  | configTrack tag payload | configTiming tag payload | configFlash tag payload | configLamp tag payload
  | configBarrier tag payload | configLink tag payload | configMemory tag payload | commit tag payload
  | restartCold tag payload | restartWarm tag payload | readState tag payload | readSections tag payload
  | readRecords tag payload | readFaults tag payload | readCounters tag payload | readLog tag payload
  | readPassage tag payload | localHold tag payload | lampTest tag payload | hostRestore tag payload
  | faultAck tag payload | hostRelease tag payload => exact .of_next h rfl (takeFrame_silence _ tag payload s)
  | hostTxStart => exact .of_next h rfl (.due (startTx_silence s))
  | hostTxDone => exact .of_next h rfl (.due (endTx_silence s))
  | headChange p a b => exact .of_next h rfl (.input_react (headTick_only p a b _) (by decide))
  | stuckTimeout p => exact .of_next h rfl (.due_react (pointTick_only p _ _ _ s) (by decide))
  | quietPeriodEnd p => exact .of_next h rfl (.due_react (endQuiet_only p s) (by decide))
  | startTimerExpiry k => exact .of_next h rfl (.due_react (commitRecord_only k _ _ _ s) (by decide))
  | quietMark p | longWarningMark k | openMark | longBinMark | agedMark i => exact .of_next h rfl (.due (.of_line rfl))
  | tAmberExpiry =>
    exact .of_next h rfl (.due_react ((seqMove_only .redWait .timer s).seq (lampCommand_only .redStart _)
      (cs := .seq :: .lamps :: recordBlocks) (by decide) (by decide)) (by decide))
  | tPrelowerExpiry => exact .of_next h rfl (.due_react (enterLowerEntry_only s) (by decide))
  | exitDelayMark => exact .of_next h rfl (.due_react (testLowerEntry_only s) (by decide))
  | longClosureTimer =>
    exact .of_next h rfl (.due_react ((setSeq_only s (fun q => { q with longFlag := true }) rfl rfl rfl).seq
      (raise_only .longClosure 0 0 _) (cs := .seq :: faultBlocks) (by decide) (by decide)) (by decide))
  | flashPartEnd => exact .of_next h rfl (.due (.of_only (nextFlashPart_only s) (by decide)))
  | litProof c mA => exact .of_next h rfl (.input_react (litSample_only c _ _) (by decide))
  | darkSample c mA => exact .of_next h rfl (.input_react (darkSampleTaken_only c _ _) (by decide))
  | startUpFlashHalf => exact .of_next h rfl (.due (.of_only (nextStartUpHalf_only s) (by decide)))
  | lampTestSample mA => exact .of_next h rfl (.due (.of_only (testSample_only _ s) (by decide)))
  | lampTestChannelEnd => exact .of_next h rfl (.due (.of_only (testChannelEnd_only s) (by decide)))
  | barrierContactChange b up down => exact .of_next h rfl (.input_react (acceptContacts_only b up down _) (by decide))
  | barrierLimit b => exact .of_next h rfl (.due_react (takeLimit_only b s) (by decide))
  | barrierDropped b => exact .of_next h rfl (.due_react (barrierFault_only b _ s) (by decide))
  | barrierSettled b => exact .of_next h rfl (.due_react (settleBarrier_only b s) (by decide))
  | barrierLostDown b =>
    exact .of_next h rfl (.due_react ((setBarrier_only s b (fun x => { x with disturbed := true }) rfl).seq
      (raise_only .barrierDisturbed b.val 0 _) (cs := .barriers :: faultBlocks) (by decide) (by decide)) (by decide))
  | supplyInputChange input ok => exact .of_next h rfl (.input_react (acceptSupply_only input ok _) (by decide))
  | beacon hd payload | poll hd payload | sigAck hd payload | sigRestore hd payload | sigHold hd payload
  | sigRelease hd payload => exact .of_next h rfl (receiveFrame_silence hd _ payload s)
  | sigCmdUnknownKind hd kind payload | sigCmdRefusedSource hd kind payload | foreignFrame hd kind payload
  | ownAddressFrame hd kind payload | addressedFrameLinkNotActive hd kind payload =>
    exact .of_next h rfl (receiveFrame_silence hd kind payload s)
  | beaconTimeout => exact .of_next h rfl (.due ((loseLink_silence s).trans (react_silence _)))
  | lineFrameBad chars e =>
    have taken := takeChars_silence chars s
    exact .of_next h rfl (KeepsSilence.trans (.ite (taken.trans (framingError_silence _)) taken) (react_silence _))
  | lineGapAbort chars =>
    exact .of_next h rfl (((takeChars_silence chars s).trans (gapAbort_silence _)).trans (react_silence _))
  | skipEnd =>
    exact .of_next h rfl (.due (KeepsSilence.trans (setLine_silence rfl fun f w => ⟨f, w⟩) (lineSettle_silence _)))
  | accessWaitQuiet => exact .of_next h rfl (.due (startFrame_silence s))
  | lineFrameSent => exact .of_next h rfl (.due (frameSent_silence s))
  | arbitrationLost => exact .of_next h rfl (.due (loseArbitration_silence s))
  | collision => exact .of_next h rfl (.due (collide_silence s))
  | healthTimerExpiry | repeatInterval i =>
    exact .of_next h rfl (.due ((lineSettle_silence _).after rfl))

/-! ### The passage of time, and the statement -/

theorem tick_silence (s : State) : KeepsSilence s (tick s) := by
  have clock : KeepsSilence s (tickBase s) := .of_only (tickBase_only s) (by decide)
  cases part : s.part with
  | config =>
    rw [tick_of_config part]
    exact clock
  | run =>
    rw [tick_of_run part]
    exact (clock.trans (.of_only (tickSamples_only _) (by decide))).trans (lineTick_silence _ _)

theorem step_silence {s t : State} (h : step s = .next t) : KeepsSilence s t := by
  unfold step at h
  split at h
  · next c rest _ => exact (exec_silence c h).after rfl
  · unfold idleStep at h
    split at h
    · exact .of_next h rfl (tick_silence s)
    · exact exec_silence _ h
    · exact (exec_silence _ h).after rfl

/-- Settles O55: a wait begins only with the link ACTIVE, a frame only of a wait, and a change of link state ends both. -/
theorem lineIsSilentUnlessActive : Obligations.LineIsSilentUnlessActive := fun _ _ silent h => step_silence h silent

end Sys2Proof.Machine
end

section
/-! PROOFS. CONFIG_LINK and CONFIG_MEMORY (R142, R176): the line's addresses and intervals, and the configured counts. -/

namespace Sys2Proof.Machine

/-! ### CONFIG_LINK (R142) -/

theorem byte_eq_zero_iff {n : Nat} (h : n < 256) : byte n = 0 ↔ n = 0 := by
  rw [← BitVec.toNat_inj, byte_toNat, Nat.mod_eq_of_lt h]
  rfl

theorem fieldGroup_byte {g : Nat} (h : g < 256) : fieldGroup (byte g) = if GroupOk g then some (groupOfCode g) else none := by
  unfold fieldGroup
  simp only [byte_eq_zero_iff h, byte_toNat, Nat.mod_eq_of_lt h, within, groupOfCode, decide_eq_true_eq]
  by_cases unused : g = 0
  · simp [unused]
  · by_cases group : 48 ≤ g ∧ g ≤ 62
    · simp [unused, group]
    · simp [unused, group]

/-- The addresses and intervals of a CONFIG_LINK lie in their ranges. -/
abbrev LinkOk (o g0 g1 g2 g3 b h r : Nat) : Prop :=
  (1 ≤ o ∧ o ≤ 47) ∧ GroupOk g0 ∧ GroupOk g1 ∧ GroupOk g2 ∧ GroupOk g3 ∧ (1000 ≤ b ∧ b ≤ 10000) ∧ (10 ≤ h ∧ h ≤ 300) ∧
    (10 ≤ r ∧ r ≤ 600)

/-- The line with its configuration set. -/
def LineController.configure (l : LineController) (o g0 g1 g2 g3 b h r : Nat) : LineController :=
  { l with
    own := some (BitVec.ofNat 6 o)
    groups := #v[groupOfCode g0, groupOfCode g1, groupOfCode g2, groupOfCode g3]
    beaconMs := b, tHealth := h, tRepeat := r }

theorem setLine_config_only (s : State) (f : LineController → LineController)
    (supervision : (f s.line).supervision = s.line.supervision) : Only [.line, .config] s (s.setLine f) := by
  intro b hb; cases b <;> simp_all [Same]

/-- CONFIG_LINK's payload as its fields spell it. -/
theorem setLinkConfig_bytes {o g0 g1 g2 g3 b h r : Nat} (s : State) (ho : o < 256) (h0 : g0 < 256) (h1 : g1 < 256)
    (h2 : g2 < 256) (h3 : g3 < 256) (hb : b < 65536) (hh : h < 65536) (hr : r < 65536) :
    setLinkConfig ([byte o, byte g0, byte g1, byte g2, byte g3] ++ be16 b ++ be16 h ++ be16 r) s =
      if LinkOk o g0 g1 g2 g3 b h r then some (s.setLine fun l => l.configure o g0 g1 g2 g3 b h r) else none := by
  simp only [be16, List.cons_append, List.nil_append, setLinkConfig]
  rw [rd16_be16 b hb, rd16_be16 h hh, rd16_be16 r hr, fieldGroup_byte h0, fieldGroup_byte h1, fieldGroup_byte h2,
    fieldGroup_byte h3, byte_toNat, Nat.mod_eq_of_lt ho]
  by_cases groups : GroupOk g0 ∧ GroupOk g1 ∧ GroupOk g2 ∧ GroupOk g3
  · obtain ⟨ok0, ok1, ok2, ok3⟩ := groups
    simp [LinkOk, ok0, ok1, ok2, ok3, within, and_assoc, LineController.configure]
  · have bad : ¬LinkOk o g0 g1 g2 g3 b h r := fun ⟨_, ok0, ok1, ok2, ok3, _⟩ => groups ⟨ok0, ok1, ok2, ok3⟩
    rw [if_neg bad]
    split
    · next a0 a1 a2 a3 =>
      simp only [Option.ite_none_right_eq_some] at a0 a1 a2 a3
      exact absurd ⟨a0.1, a1.1, a2.1, a3.1⟩ groups
    · rfl

/-! ### CONFIG_MEMORY (R176) -/

theorem setConfigured_only (s : State) (c : Layout) :
    Only [.counts, .config] s (s.setMemory fun m => { m with configured := c }) := by
  intro b hb; cases b <;> simp_all [Same]

theorem setMemoryConfig_bytes {l p h : Nat} (s : State) (hl : l < 256) (hp : p < 256) (hh : h < 256) :
    setMemoryConfig [byte l, byte p, byte h] s =
      if l ≤ 128 ∧ p ≤ 128 ∧ h ≤ 128 then some (s.setMemory fun m => { m with configured := ⟨l, p, h⟩ }) else none := by
  simp only [setMemoryConfig, byte_toNat, Nat.mod_eq_of_lt hl, Nat.mod_eq_of_lt hp, Nat.mod_eq_of_lt hh, within, Nat.zero_le,
    true_and, Bool.and_eq_true, decide_eq_true_eq, and_assoc]

/-- Settles O14: the fields are read back and tested together; the layout in use is another field of the memory. -/
theorem configLinkAndMemorySetTheirValues : Obligations.ConfigLinkAndMemorySetTheirValues := by
  unfold Obligations.ConfigLinkAndMemorySetTheirValues
  refine ⟨fun o g0 g1 g2 g3 b h r tag s ho h0 h1 h2 h3 hb hh hr config free => ?_,
    fun l p h tag s hl hp hh config free => ?_⟩
  · have allowed : Request.configLink.allowedIn s.part = true := by rw [config]; rfl
    have bytes := setLinkConfig_bytes s.frameIn ho h0 h1 h2 h3 hb hh hr
    dsimp only
    split
    · next ok =>
      rw [if_pos ok] at bytes
      exact ⟨_, accepts_of_serve (q := .configLink) rfl free (by simp [be16]) rfl allowed
        (congrArg (configured · s.frameIn) bytes) (setLine_config_only _ _ rfl) (by decide), rfl⟩
    · next bad =>
      rw [if_neg bad] at bytes
      exact refuses_of_serve (q := .configLink) rfl free (by simp [be16]) rfl allowed
        (congrArg (configured · s.frameIn) bytes)
  · have allowed : Request.configMemory.allowedIn s.part = true := by rw [config]; rfl
    have bytes := setMemoryConfig_bytes s.frameIn hl hp hh
    dsimp only
    split
    · next ok =>
      rw [if_pos ok] at bytes
      exact ⟨_, accepts_of_serve (q := .configMemory) rfl free (by simp) rfl allowed
        (congrArg (configured · s.frameIn) bytes) (setConfigured_only _ _) (by decide), rfl⟩
    · next bad =>
      rw [if_neg bad] at bytes
      exact refuses_of_serve (q := .configMemory) rfl free (by simp) rfl allowed
        (congrArg (configured · s.frameIn) bytes)

end Sys2Proof.Machine
end

section
/-! PROOFS. The frames of both ports and their check code (R140, R145, R191, R192, R206): the receiver reads back what a
transmitter forms, and nothing before its last byte. -/

namespace Sys2Proof.Machine

/-! ### The check code (R206) -/

theorem crcBit_eq_checkBit (c : BitVec 16) (b : Bool) : crcBit c b = checkBit c b := by
  unfold crcBit checkBit
  rw [BitVec.msb_eq_getLsbD_last]
  change (if (c.getLsbD 15 != b) = true then _ else _) = _
  by_cases same : c.getLsbD 15 = b
  · rw [if_pos same, if_neg (by rw [same, bne_self_eq_false]; decide)]
    exact (BitVec.xor_zero).symm
  · rw [if_neg same, if_pos (bne_iff_ne.2 same)]

theorem crcByte_eq (c : BitVec 16) (b : Byte) :
    crcByte c b = ((List.range 8).map fun i => b.getLsbD (7 - i)).foldl checkBit c := by
  have bits : crcBit = checkBit := funext₂ crcBit_eq_checkBit
  unfold crcByte
  rw [bits]
  rfl

theorem crc16_eq (l : List Byte) : crc16 l = (messageBits l).foldl checkBit 0xFFFF := by
  unfold crc16 messageBits
  rw [List.foldl_flatMap]
  exact congrArg (l.foldl · _) (funext₂ crcByte_eq)

theorem be16_toNat (c : BitVec 16) : be16 c.toNat = [c.extractLsb' 8 8, c.extractLsb' 0 8] := by
  unfold be16 byte
  have high : BitVec.ofNat 8 (c.toNat / 256) = c.extractLsb' 8 8 := BitVec.eq_of_toNat_eq (by simp [Nat.shiftRight_eq_div_pow])
  have low : BitVec.ofNat 8 c.toNat = c.extractLsb' 0 8 := BitVec.eq_of_toNat_eq (by simp)
  rw [high, low]

/-! ### The host's frame (R191, R192) -/

/-- The bytes of a host frame after its START and its LEN. -/
def hostRest (kind tag : Byte) (payload : List Byte) : List Byte :=
  kind :: tag :: (payload ++ crcBytes ([byte (payload.length + 2), kind, tag] ++ payload))

theorem hostFrame_eq (kind tag : Byte) (payload : List Byte) :
    hostFrame kind tag payload = 0x5A :: byte (payload.length + 2) :: hostRest kind tag payload := by
  simp [hostFrame, hostRest]

theorem hostRest_length (kind tag : Byte) (payload : List Byte) :
    (hostRest kind tag payload).length = payload.length + 4 := by
  simp [hostRest, crcBytes_length]

/-- An assembly with a LEN in range and fewer bytes than LEN and the check code ask for is kept (R192). -/
theorem scanHost_short (n : Nat) {len : Byte} {rest : List Byte} (range : 2 ≤ len.toNat ∧ len.toNat ≤ 250)
    (short : rest.length < len.toNat + 2) : scanHost (n + 1) (0x5A :: len :: rest) = ([], 0x5A :: len :: rest) := by
  obtain ⟨low, high⟩ := range
  have inRange : ¬(len.toNat < 2 ∨ 250 < len.toNat) := by omega
  have few : (len :: rest).length < len.toNat + 3 := by simp; omega
  rw [scanHost]
  simp only [ne_eq, not_true_eq_false, if_false, inRange, few, if_true]

/-- An assembly that is as long as its LEN asks for is checked (R192). -/
theorem scanHost_whole (n : Nat) {len kind tag : Byte} {rest payload : List Byte} (range : 2 ≤ len.toNat ∧ len.toNat ≤ 250)
    (whole : rest.length = len.toNat + 2)
    (good : checkHost (0x5A :: len :: rest) = .frame kind tag payload) :
    scanHost (n + 2) (0x5A :: len :: rest) = ([.frame kind tag payload], []) := by
  obtain ⟨low, high⟩ := range
  have inRange : ¬(len.toNat < 2 ∨ 250 < len.toNat) := by omega
  have enough : ¬(len :: rest).length < len.toNat + 3 := by simp; omega
  have all : (0x5A :: len :: rest).take (len.toNat + 4) = 0x5A :: len :: rest :=
    List.take_of_length_le (by simp; omega)
  have none_ : (len :: rest).drop (len.toNat + 3) = [] := List.drop_of_length_le (by simp; omega)
  rw [scanHost]
  simp only [ne_eq, not_true_eq_false, if_false, inRange, enough, all, good, none_]
  rfl

theorem checkHost_hostFrame {kind tag : Byte} {payload : List Byte} (fits : payload.length ≤ 248) :
    checkHost (hostFrame kind tag payload) = .frame kind tag payload := by
  have len : (byte (payload.length + 2)).toNat - 2 = payload.length := by rw [byte_toNat]; omega
  simp [checkHost, hostFrame_eq, hostRest, len]

theorem scanHost_hostFrame (kind tag : Byte) {payload : List Byte} (fits : payload.length ≤ 248) :
    scanHost (hostFrame kind tag payload).length (hostFrame kind tag payload) = ([.frame kind tag payload], []) ∧
      ∀ n, n < (hostFrame kind tag payload).length →
        scanHost n ((hostFrame kind tag payload).take n) = ([], (hostFrame kind tag payload).take n) := by
  have len : (byte (payload.length + 2)).toNat = payload.length + 2 := by rw [byte_toNat]; omega
  have range : 2 ≤ (byte (payload.length + 2)).toNat ∧ (byte (payload.length + 2)).toNat ≤ 250 := by omega
  have rest := hostRest_length kind tag payload
  have good := checkHost_hostFrame (kind := kind) (tag := tag) fits
  rw [hostFrame_eq] at good ⊢
  refine ⟨scanHost_whole _ range (by omega) good, fun n short => ?_⟩
  match n with
  | 0 => rfl
  | 1 => rfl
  | n + 2 =>
    simp only [List.length_cons] at short
    exact scanHost_short _ range (by rw [List.length_take]; omega)

/-! ### A line frame (R143 to R145, R153) -/

theorem lineHead_of_bytes (h : LineHead) : lineHead (byte (64 * h.cls.toNat + h.src.toNat)) (byte h.dest.toNat) = h := by
  have cls := h.cls.isLt
  have src := h.src.isLt
  have dest := h.dest.isLt
  obtain ⟨c, x, d⟩ := h
  simp only [lineHead, LineHead.mk.injEq]
  refine ⟨BitVec.eq_of_toNat_eq ?_, BitVec.eq_of_toNat_eq ?_, BitVec.eq_of_toNat_eq ?_⟩ <;>
    simp only [BitVec.extractLsb'_toNat, byte_toNat, Nat.shiftRight_eq_div_pow] at * <;> omega

/-- An assembly of four characters and more is complete with two more than its LEN asks for (R145). -/
theorem judgeChars_four (hd dest len kind : Byte) (rest : List Byte) :
    judgeChars (hd :: dest :: len :: kind :: rest) =
      if rest.length = len.toNat + 2 then checkFrame (hd :: dest :: len :: kind :: rest) else .more := by
  simp [judgeChars]

/-- A complete assembly's check code covers HEAD through the payload (R145, R206). -/
theorem checkFrame_eq (hd dest len kind : Byte) (rest : List Byte) :
    checkFrame (hd :: dest :: len :: kind :: rest) =
      if crcBytes ([hd, dest, len, kind] ++ rest.take len.toNat) = rest.drop len.toNat then
        .frame (lineHead hd dest) kind (rest.take len.toNat)
      else .badCrc := by
  simp [checkFrame]

/-- An assembly whose DEST and LEN are in range grows until it has as many characters as its LEN asks for (R144, R145). -/
theorem judgeChars_take {hd dest len kind : Byte} {rest : List Byte} (group : dest.toNat < 64) (range : len.toNat ≤ 24)
    (whole : rest.length = len.toNat + 2) {n : Nat} (short : n < rest.length + 4) :
    judgeChars ((hd :: dest :: len :: kind :: rest).take n) = .more := by
  match n with
  | 0 | 1 => rfl
  | 2 => simp [judgeChars, group]
  | 3 => simp [judgeChars, range]
  | n + 4 =>
    simp only [List.take_succ_cons]
    rw [judgeChars_four, if_neg (by rw [List.length_take]; omega)]

/-- The characters of a line frame after its KIND. -/
def lineRest (h : LineHead) (kind : Byte) (payload : List Byte) : List Byte :=
  payload ++ crcBytes ([byte (64 * h.cls.toNat + h.src.toNat), byte h.dest.toNat, byte payload.length, kind] ++ payload)

theorem lineChars_eq (h : LineHead) (kind : Byte) (payload : List Byte) :
    lineChars h kind payload =
      byte (64 * h.cls.toNat + h.src.toNat) :: byte h.dest.toNat :: byte payload.length :: kind :: lineRest h kind payload := by
  simp [lineChars, lineRest]

theorem lineRest_length (h : LineHead) (kind : Byte) (payload : List Byte) :
    (lineRest h kind payload).length = payload.length + 2 := by
  simp [lineRest, crcBytes_length]

theorem judgeChars_lineChars (h : LineHead) (kind : Byte) {payload : List Byte} (fits : payload.length ≤ 24) :
    judgeChars (lineChars h kind payload) = .frame h kind payload ∧
      ∀ n, n < (lineChars h kind payload).length → judgeChars ((lineChars h kind payload).take n) = .more := by
  have len : (byte payload.length).toNat = payload.length := by rw [byte_toNat]; omega
  have group : (byte h.dest.toNat).toNat < 64 := by
    have := h.dest.isLt
    rw [byte_toNat]
    omega
  have rest := lineRest_length h kind payload
  rw [lineChars_eq]
  refine ⟨?_, fun n short => judgeChars_take group (by omega) (by omega) short⟩
  rw [judgeChars_four, if_pos (by omega), checkFrame_eq, lineHead_of_bytes, len]
  simp [lineRest]

/-- Settles O7: a whole frame is judged by its LEN and its check code, a shorter part of it lacks what its LEN asks
for. -/
theorem framesSurviveTheirCheckCode : Obligations.FramesSurviveTheirCheckCode := by
  unfold Obligations.FramesSurviveTheirCheckCode
  refine ⟨fun kind tag payload fits => scanHost_hostFrame kind tag fits,
    fun h kind payload fits => judgeChars_lineChars h kind fits,
    fun cls own kind payload fits => judgeChars_lineChars _ kind fits, fun l => ?_, ?_⟩
  · unfold crcBytes
    rw [be16_toNat, crc16_eq]
  · unfold crcBytes
    rw [Tests.test_crc]
    rfl

end Sys2Proof.Machine
end

section
/-! PROOFS. Receiving on the signaller line (R141, R143 to R146, R152, R154): what each character does, the frames that break
a rule, and what the receiver does with them. -/

namespace Sys2Proof.Machine

/-! ### The receiver (R143, R152) -/

theorem silent_iff_noFrameBegun (l : LineController) : l.silent = true ↔ NoFrameBegun l := by
  unfold LineController.silent NoFrameBegun
  cases l.inFlight <;> simp

theorem canReceive_iff (s : State) : s.canReceive = true ↔ s.part = .run ∧ s.line.rx ≠ .skipping ∧ NoFrameBegun s.line := by
  simp [State.canReceive, silent_iff_noFrameBegun, and_assoc]

theorem skips_iff (s : State) : s.skips = true ↔ s.part = .run ∧ s.line.rx = .skipping ∧ NoFrameBegun s.line := by
  simp [State.skips, silent_iff_noFrameBegun, and_assoc]

theorem noFrameBegun_of_none {l : LineController} (flight : l.inFlight = none) : NoFrameBegun l := fun f some_ => by
  simp [flight] at some_

theorem canReceive_of_none {s : State} (run : s.part = .run) (rx : s.line.rx ≠ .skipping) (flight : s.line.inFlight = none) :
    s.canReceive = true := (canReceive_iff s).2 ⟨run, rx, noFrameBegun_of_none flight⟩

theorem canReceive_of_ready {s : State} (ready : LineReady s) : s.canReceive = true := by
  obtain ⟨run, idle, flight⟩ := ready
  exact canReceive_of_none run (by rw [idle]; decide) flight

theorem LineController.dropUnbegun_inFlight {l : LineController} (silent : NoFrameBegun l) : l.dropUnbegun.inFlight = none := by
  cases flight : l.inFlight with
  | none => rw [dropUnbegun_of_none flight, flight]
  | some f => rw [dropUnbegun_of_unbegun flight (silent f flight)]

/-- A receiver that has taken characters can take more (R143). -/
theorem takeLine_canReceive {s : State} (can : s.canReceive = true) {rx : RxState} (awake : rx ≠ .skipping)
    (asm : List Byte) : (takeLine rx asm s).canReceive = true := by
  obtain ⟨run, -, silent⟩ := (canReceive_iff s).1 can
  exact canReceive_of_none run awake (LineController.dropUnbegun_inFlight silent)

/-- The line taken anew: the later taking alone counts. -/
theorem takeLine_takeLine {s : State} (can : s.canReceive = true) (rx rx' : RxState) (asm asm' : List Byte) :
    takeLine rx asm (takeLine rx' asm' s) = takeLine rx asm s := by
  obtain ⟨-, -, silent⟩ := (canReceive_iff s).1 can
  have gone := LineController.dropUnbegun_inFlight silent
  have again : (s.line.dropUnbegun.lineTaken rx' asm').dropUnbegun = s.line.dropUnbegun.lineTaken rx' asm' :=
    dropUnbegun_of_none gone
  simp only [takeLine, State.setLine, again]
  rfl

theorem badFrame_line (rx : RxState) (q : Nat) (s : State) :
    (badFrame rx q s).line = { s.line with rx := rx, assembly := [], headBits := [], quiet := q } :=
  (emit_count_only cntLineBad (s.setLine _)).line_eq (by decide) (by decide)

theorem badFrame_counted (rx : RxState) (q : Nat) (s : State) :
    (badFrame rx q s).counters[(21 : Fin 32)] = s.counters[(21 : Fin 32)].bumped := emit_count_self _ _

/-- A frame discarded as its latest character is taken: the line is taken, the frame counted (R143 to R145). -/
theorem badFrame_taken (rx : RxState) (s : State) :
    let u := badFrame rx 0 (takeLine rx [] s)
    u.line.rx = rx ∧ u.line.assembly = [] ∧ u.line.quiet = 0 ∧ u.line.wait = none ∧
      u.counters[(21 : Fin 32)] = s.counters[(21 : Fin 32)].bumped ∧ Only [.line, .counters, .notices] s u := by
  have frame := ((takeLine_only rx [] s).mono (by decide)).trans (badFrame_only rx 0 (takeLine rx [] s))
  dsimp only
  rw [badFrame_line]
  exact ⟨rfl, rfl, rfl, rfl, badFrame_counted _ _ _, frame⟩

/-! ### Taking characters (R143 to R145, R154) -/

/-- What the receiver does once its latest character has made the assembly `asm`. -/
def received (asm : List Byte) (s : State) : CharOutcome → State
  | .more => takeLine .assembling asm s
  | .skip => badFrame .skipping 0 (takeLine .skipping [] s)
  | .badCrc => badFrame .idle 0 (takeLine .idle [] s)
  | .frame h kind payload => react (completeFrame h kind payload (takeLine .idle [] s))

theorem takeChar_received {s : State} (can : s.canReceive = true) (c : Byte) :
    takeChar s c = received (s.line.assembly ++ [s.line.joined c]) s (judgeChars (s.line.assembly ++ [s.line.joined c])) := by
  unfold takeChar
  exact if_pos can

/-- In an assembly already begun, a character is taken as it stands. -/
theorem takeChar_takeLine {s : State} (can : s.canReceive = true) (asm : List Byte) (c : Byte) :
    takeChar (takeLine .assembling asm s) c = received (asm ++ [c]) s (judgeChars (asm ++ [c])) := by
  rw [takeChar_received (takeLine_canReceive can (by decide) asm)]
  change received (asm ++ [c]) _ (judgeChars (asm ++ [c])) = _
  unfold received
  simp only [takeLine_takeLine can]

/-- The first character alone completes nothing; the bits of a HEAD taken over stand in it (R154). -/
theorem takeChar_first {s : State} (can : s.canReceive = true) (empty : s.line.assembly = []) (c : Byte) :
    takeChar s c = takeLine .assembling [s.line.joined c] s := by
  rw [takeChar_received can, empty]
  rfl

theorem takeChars_snoc (cs : List Byte) (c : Byte) (s : State) : takeChars (cs ++ [c]) s = takeChar (takeChars cs s) c := by
  simp [takeChars]

/-- Characters that leave the assembly incomplete join it. -/
theorem takeChars_more {s : State} (can : s.canReceive = true) {cs asm : List Byte}
    (more : ∀ n, n < cs.length → judgeChars (asm ++ cs.take (n + 1)) = .more) :
    takeChars cs (takeLine .assembling asm s) = takeLine .assembling (asm ++ cs) s := by
  induction cs generalizing asm with
  | nil => rw [List.append_nil]; rfl
  | cons c cs ih =>
    have first : judgeChars (asm ++ [c]) = .more := more 0 (by simp)
    have one : takeChar (takeLine .assembling asm s) c = takeLine .assembling (asm ++ [c]) s := by
      rw [takeChar_takeLine can, first]
      rfl
    have rest := ih (asm := asm ++ [c]) fun n short => by simpa using more (n + 1) (by simpa using short)
    rw [← one, List.append_assoc] at rest
    exact rest

/-- Characters of which no proper part makes a frame or breaks a rule: the last one decides. -/
theorem takeChars_received {s : State} (can : s.canReceive = true) (empty : s.line.assembly = []) {c : Byte} {cs : List Byte}
    (more : ∀ n, n < cs.length + 1 → judgeChars ((s.line.joined c :: cs).take n) = .more) :
    takeChars (c :: cs) s = received (s.line.joined c :: cs) s (judgeChars (s.line.joined c :: cs)) := by
  have begun : ∀ cs, takeChars (c :: cs) s = takeChars cs (takeLine .assembling [s.line.joined c] s) := fun cs => by
    rw [← takeChar_first can empty]
    rfl
  rcases cs.eq_nil_or_concat with rfl | ⟨most, last, rfl⟩
  · exact begun []
  · rw [List.concat_eq_append] at more ⊢
    have joined := takeChars_more can (cs := most) (asm := [s.line.joined c]) fun n short => by
      have part := more (n + 2) (by simp; omega)
      rwa [List.take_succ_cons, List.take_append_of_le_length (by omega)] at part
    rw [begun, takeChars_snoc, joined, takeChar_takeLine can]
    rfl

/-- The quiet count as characters that are not taken leave it: by the last of them, if there is one (log entry 18). -/
def quietAfterChars (cs : List Byte) (quiet : Nat) : Nat := (cs.getLast?.map quietAfterChar).getD quiet

theorem deaf_of_skips {s : State} (skips : s.skips = true) : s.canReceive = false := by
  obtain ⟨-, rx, -⟩ := (skips_iff s).1 skips
  simp [State.canReceive, rx]

theorem takeChar_skips {s : State} (skips : s.skips = true) (c : Byte) :
    takeChar s c = s.setLine fun l => { l with quiet := quietAfterChar c } := by
  have deaf := deaf_of_skips skips
  unfold takeChar
  rw [deaf, if_neg Bool.false_ne_true, if_pos skips]

theorem framingError_skips {s : State} (skips : s.skips = true) :
    framingError s = s.setLine fun l => { l with quiet := 0 } := by
  have deaf := deaf_of_skips skips
  unfold framingError
  rw [deaf, if_neg Bool.false_ne_true, if_pos skips]

/-- In SKIPPING no character is taken; the last one leaves the quiet count (R141; log entry 18). -/
theorem takeChars_skips {s : State} (skips : s.skips = true) (cs : List Byte) :
    takeChars cs s = s.setLine fun l => { l with quiet := quietAfterChars cs l.quiet } := by
  induction cs using List.reverseRecOn with
  | nil => rfl
  | append_singleton cs c ih =>
    have still : (takeChars cs s).skips = true := by rw [ih]; exact skips
    have last : ∀ q, quietAfterChars (cs ++ [c]) q = quietAfterChar c := fun q => by
      unfold quietAfterChars
      rw [List.getLast?_concat]
      rfl
    rw [takeChars_snoc, takeChar_skips still, ih]
    simp only [last]
    rfl

/-- The leading run of a list of bits: recessive throughout, and ended by a dominant bit. -/
theorem takeWhile_id_spec (l : List Bool) :
    (∀ i, i < (l.takeWhile id).length → l[i]? = some true) ∧
      ((l.takeWhile id).length < l.length → l[(l.takeWhile id).length]? = some false) := by
  induction l with
  | nil => simp
  | cons b l ih =>
    obtain ⟨run, stop⟩ := ih
    cases b with
    | false => simp
    | true =>
      simp only [List.takeWhile_cons, id, if_true, List.length_cons]
      refine ⟨fun i below => ?_, fun below => ?_⟩
      · match i with
        | 0 => rfl
        | i + 1 => exact run i (by omega)
      · exact stop (by omega)

theorem bitsOfByte_reverse_getElem? (c : Byte) {i : Nat} (h : i < 8) : (bitsOfByte c).reverse[i]? = some (c.getLsbD i) := by
  match i, h with
  | 0, _ | 1, _ | 2, _ | 3, _ | 4, _ | 5, _ | 6, _ | 7, _ => rfl

/-- The quiet count after a character: the recessive bits since its last dominant bit, the stop bit among them (R141). -/
theorem quietAfterChar_spec (c : Byte) :
    1 ≤ quietAfterChar c ∧ quietAfterChar c ≤ 9 ∧ (∀ i, i + 1 < quietAfterChar c → c.getLsbD i = true) ∧
      (quietAfterChar c ≤ 8 → c.getLsbD (quietAfterChar c - 1) = false) := by
  obtain ⟨run, stop⟩ := takeWhile_id_spec (bitsOfByte c).reverse
  have bits : (bitsOfByte c).reverse.length = 8 := rfl
  have few : ((bitsOfByte c).reverse.takeWhile id).length ≤ 8 := bits ▸ (List.takeWhile_prefix id).length_le
  unfold quietAfterChar
  refine ⟨by omega, by omega, fun i below => ?_, fun below => ?_⟩
  · have bit := run i (by omega)
    rwa [bitsOfByte_reverse_getElem? c (by omega), Option.some_inj] at bit
  · have bit := stop (by omega)
    rwa [bitsOfByte_reverse_getElem? c (by omega), Option.some_inj] at bit

/-! ### Commands that bring a line frame (R143 to R146) -/

theorem exec_lineFrame {c : Instr} {h : LineHead} {kind : Byte} {payload : List Byte}
    (row : lineFrameOf c = some (h, kind, payload)) (s : State) : exec c s = .next (receiveFrame h kind payload s) := by
  cases c <;> cases row <;> rfl

theorem exec_lineFrameBad (chars : List Byte) (err : Bool) (s : State) :
    exec (.lineFrameBad chars err) s =
      .next (react (if err then framingError (takeChars chars s) else takeChars chars s)) := by rfl

theorem exec_lineGapAbort (chars : List Byte) (s : State) :
    exec (.lineGapAbort chars) s = .next (react (gapAbort (takeChars chars s))) := by rfl

theorem framingError_receives {s : State} (can : s.canReceive = true) :
    framingError s = badFrame .skipping 0 (takeLine .skipping [] s) := by
  unfold framingError
  rw [if_pos can]

/-- The gap of an assembly that has not grown since the line fell quiet (R143). -/
theorem gapAbort_assembling {s : State} (can : s.canReceive = true) (rx : s.line.rx = .assembling) :
    gapAbort s = badFrame .idle (max s.line.quiet 21) s := by
  unfold gapAbort
  rw [can, rx]
  rfl

/-- A frame received while the receiver is SKIPPING is the frame's characters passing by (R143). -/
theorem receiveFrame_skips {s : State} (skips : s.skips = true) (h : LineHead) (kind : Byte) {payload : List Byte}
    (fits : payload.length ≤ 24) :
    receiveFrame h kind payload s = react (takeChars (lineChars h kind payload) s) := by
  unfold receiveFrame
  rw [if_neg (Nat.not_lt.2 fits), deaf_of_skips skips, skips]
  rfl

/-! ### Frames that break a rule of reception (R143 to R145) -/

/-- The rules of R144 and R145 that the characters of a discarded frame break: the state the receiver is left in. -/
theorem takeChars_bad {s : State} (can : s.canReceive = true) (empty : s.line.assembly = []) (bits : s.line.headBits = [])
    {chars : List Byte} {rx : RxState}
    (breaks : (∃ hd dest : Byte, chars = [hd, dest] ∧ 64 ≤ dest.toNat ∧ rx = .skipping) ∨
      (∃ hd dest len : Byte, chars = [hd, dest, len] ∧ dest.toNat < 64 ∧ 24 < len.toNat ∧ rx = .skipping) ∨
      (∃ (hd dest len kind : Byte) (body : List Byte), chars = [hd, dest, len, kind] ++ body ∧ dest.toNat < 64 ∧
        len.toNat ≤ 24 ∧ body.length = len.toNat + 2 ∧
        crcBytes ([hd, dest, len, kind] ++ body.take len.toNat) ≠ body.drop len.toNat ∧ rx = .idle)) :
    takeChars chars s = badFrame rx 0 (takeLine rx [] s) := by
  have judged : ∀ {c : Byte} {cs : List Byte}, (∀ n, n < cs.length + 1 → judgeChars ((c :: cs).take n) = .more) →
      takeChars (c :: cs) s = received (c :: cs) s (judgeChars (c :: cs)) := fun {c cs} more => by
    have plain : s.line.joined c = c := by simp [LineController.joined, bits]
    have taken := takeChars_received can empty (c := c) (cs := cs)
    rw [plain] at taken
    exact taken more
  rcases breaks with ⟨hd, dest, rfl, group, rfl⟩ | ⟨hd, dest, len, rfl, group, range, rfl⟩ |
    ⟨hd, dest, len, kind, body, rfl, group, range, length, bad, rfl⟩
  · have skip : judgeChars [hd, dest] = .skip := by simp [judgeChars, group]
    rw [judged fun n short => ?_, skip]
    · rfl
    · match n, short with
      | 0, _ | 1, _ => rfl
  · have skip : judgeChars [hd, dest, len] = .skip := by simp [judgeChars, range]
    rw [judged fun n short => ?_, skip]
    · rfl
    · match n, short with
      | 0, _ | 1, _ => rfl
      | 2, _ => simp [judgeChars, group]
  · have code : judgeChars (hd :: dest :: len :: kind :: body) = .badCrc := by
      rw [judgeChars_four, if_pos length, checkFrame_eq, if_neg bad]
    change takeChars (hd :: dest :: len :: kind :: body) s = _
    rw [judged fun n short => judgeChars_take group range length short, code]
    rfl

/-- Settles O45: the characters before the one that breaks a rule assemble, that one discards the frame. -/
theorem badLineFramesAreCounted : Obligations.BadLineFramesAreCounted := by
  unfold Obligations.BadLineFramesAreCounted
  refine ⟨fun chars err rx s ready empty breaks bits => ?_, fun s run rx flight => ?_, fun hd s ready empty => ?_,
    fun chars err s run rx silent => ?_, fun c h kind payload s row fits run rx silent => ?_, fun chars err s config => ?_,
    fun s run rx quiet => ?_⟩
  · have can := canReceive_of_ready ready
    have taken : (if err then framingError (takeChars chars s) else takeChars chars s) = badFrame rx 0 (takeLine rx [] s) := by
      rcases breaks with ⟨rfl, rfl, rfl⟩ | ⟨hd, dest, e, group, rfl, r⟩ | ⟨hd, dest, len, e, group, range, rfl, r⟩ |
        ⟨hd, dest, len, kind, body, e, group, range, length, bad, rfl, r⟩
      · exact framingError_receives can
      · exact takeChars_bad can empty bits (.inl ⟨hd, dest, e, group, r⟩)
      · exact takeChars_bad can empty bits (.inr (.inl ⟨hd, dest, len, e, group, range, r⟩))
      · exact takeChars_bad can empty bits (.inr (.inr ⟨hd, dest, len, kind, body, e, group, range, length, bad, r⟩))
    exact ⟨_, by rw [exec_lineFrameBad, taken], badFrame_taken rx s⟩
  · have can := canReceive_of_none run (by rw [rx]; decide) flight
    refine ⟨badFrame .idle (max s.line.quiet 21) s, ?_, by rw [badFrame_line], by rw [badFrame_line], ?_,
      badFrame_counted _ _ s, badFrame_only _ _ s⟩
    · rw [exec_lineGapAbort, ← gapAbort_assembling can rx]
      rfl
    · rw [badFrame_line]
      exact le_max_right s.line.quiet 21
  · have can := canReceive_of_ready ready
    let t := takeLine .assembling [s.line.joined hd] s
    have taken : takeChars [hd] s = t := takeChar_first can empty hd
    refine ⟨badFrame .idle (max t.line.quiet 21) t, ?_, by rw [badFrame_line], by rw [badFrame_line],
      badFrame_counted _ _ t, ((takeLine_only _ _ s).mono (by decide)).trans (badFrame_only _ _ t)⟩
    rw [exec_lineGapAbort, taken, gapAbort_assembling (takeLine_canReceive can (by decide) _) rfl]
  · have skips := (skips_iff s).2 ⟨run, rx, silent⟩
    cases err with
    | true =>
      refine ⟨0, ?_, fun _ => rfl, fun h => by simp at h, fun c h => by simp at h⟩
      have still : (takeChars chars s).skips = true := by rw [takeChars_skips skips]; exact skips
      rw [exec_lineFrameBad, if_pos rfl, framingError_skips still, takeChars_skips skips]
      rfl
    | false =>
      refine ⟨quietAfterChars chars s.line.quiet, ?_, fun h => by simp at h, fun _ none_ => by rw [none_]; rfl,
        fun c _ last => ?_⟩
      · rw [exec_lineFrameBad, takeChars_skips skips]
        rfl
      · rw [quietAfterChars, last]
        exact quietAfterChar_spec c
  · have skips := (skips_iff s).2 ⟨run, rx, silent⟩
    rw [exec_lineFrame row, exec_lineFrameBad, receiveFrame_skips skips h kind fits]
    rfl
  · obtain ⟨deaf, noSkip⟩ := deaf_of_config config
    have same : framingError s = s := by
      unfold framingError
      rw [deaf, noSkip]
      rfl
    rw [exec_lineFrameBad, takeChars_config config, same, ite_self]
  · have due : s.skipEndDue = true := by
      simp only [State.skipEndDue, run, rx]
      exact decide_eq_true quiet
    change Host.Outcome.next (if s.skipEndDue then _ else _) = _
    rw [if_pos due]
    rfl

end Sys2Proof.Machine
end

section
/-! PROOFS. Whom a line frame addresses, and what becomes of a frame that is not the part's to take (R145, R146); a HEAD taken
over is completed (R154). -/

namespace Sys2Proof.Machine

/-! ### Packed bits -/

theorem testBit_packBits (l : List Bool) (i : Nat) : (packBits l).testBit i = l[i]?.getD false := by
  induction l generalizing i with
  | nil => simp [packBits]
  | cons b l ih =>
    have half : (flag b + 2 * packBits l) / 2 = packBits l := by
      cases b with
      | false => simp [flag]
      | true => simp [flag]; omega
    cases i with
    | zero => cases b <;> simp [packBits, flag, Nat.testBit_zero]
    | succ i => rw [packBits, Nat.testBit_succ, half, ih]; rfl

theorem byteOfBits_bitsOfByte (c : Byte) : byteOfBits (bitsOfByte c) = c := by
  refine BitVec.eq_of_getLsbD_eq fun i below => ?_
  unfold byteOfBits byte
  rw [BitVec.getLsbD_ofNat, testBit_packBits, bitsOfByte_reverse_getElem? c below, decide_eq_true below]
  rfl

/-- Bits of a HEAD taken over, completed by the character that carries it, are that character (R154). -/
theorem LineController.joined_taken {l : LineController} {c : Byte} {n : Nat} (few : 1 ≤ n ∧ n ≤ 8)
    (bits : l.headBits = (bitsOfByte c).take n) : l.joined c = c := by
  have length : ((bitsOfByte c).take n).length = n := by
    rw [List.length_take]
    exact min_eq_left few.2
  have some_ : (bitsOfByte c).take n ≠ [] := fun none_ => by
    rw [none_, List.length_nil] at length
    omega
  have joined : l.joined c = byteOfBits (l.headBits ++ (bitsOfByte c).drop l.headBits.length) := by
    unfold LineController.joined
    split
    · next none_ => exact absurd (bits ▸ none_) some_
    · rfl
  rw [joined, bits, length, List.take_append_drop, byteOfBits_bitsOfByte]

/-! ### Whom a frame addresses (R145, R146) -/

theorem groups_contains_iff (l : LineController) (dest : BitVec 6) :
    l.groups.toList.contains (some dest) = true ↔ ∃ g : Fin 4, l.groups[g] = some dest := by
  rw [List.contains_iff_mem, Vector.mem_toList_iff, Vector.mem_iff_getElem]
  exact ⟨fun ⟨i, below, e⟩ => ⟨⟨i, below⟩, e⟩, fun ⟨g, e⟩ => ⟨g.val, g.isLt, e⟩⟩

theorem LineController.addressing_iff (l : LineController) (dest : BitVec 6) :
    (l.addressing dest = some .own ↔ l.own = some dest) ∧
      (l.addressing dest = some .group ↔ l.own ≠ some dest ∧ ∃ g : Fin 4, l.groups[g] = some dest) ∧
      (l.addressing dest = some .broadcast ↔ l.own ≠ some dest ∧ (∀ g : Fin 4, l.groups[g] ≠ some dest) ∧ dest = 63) := by
  have none_ : (∀ g : Fin 4, l.groups[g] ≠ some dest) ↔ ¬∃ g : Fin 4, l.groups[g] = some dest := not_exists.symm
  rw [none_, ← groups_contains_iff]
  unfold LineController.addressing
  by_cases own : l.own = some dest
  · rw [if_pos own]
    exact ⟨iff_of_true rfl own, iff_of_false (by decide) fun h => h.1 own, iff_of_false (by decide) fun h => h.1 own⟩
  · rw [if_neg own]
    by_cases group : l.groups.toList.contains (some dest) = true
    · rw [if_pos group]
      exact ⟨iff_of_false (by decide) own, iff_of_true rfl ⟨own, group⟩, iff_of_false (by decide) fun h => h.2.1 group⟩
    · rw [if_neg group]
      refine ⟨iff_of_false ?_ own, iff_of_false ?_ fun h => group h.2, ⟨fun h => ⟨own, group, ?_⟩, fun h => if_pos h.2.2⟩⟩
      · split <;> decide
      · split <;> decide
      · by_contra other
        rw [if_neg other] at h
        exact absurd h (by decide)

/-! ### The tests of a complete frame (R145, R146) -/

theorem receiveFrame_ready {s : State} (ready : LineReady s) (h : LineHead) (kind : Byte) {payload : List Byte}
    (fits : payload.length ≤ 24) :
    receiveFrame h kind payload s = react (completeFrame h kind payload (takeLine .idle [] s)) := by
  have can := canReceive_of_ready ready
  obtain ⟨-, idle, -⟩ := ready
  unfold receiveFrame
  rw [if_neg (Nat.not_lt.2 fits), can, idle]
  rfl

theorem receiveFrame_own {h : LineHead} {kind : Byte} {payload : List Byte} {s : State} (ready : LineReady s)
    (fits : payload.length ≤ 24) (own : s.line.own = some h.src) :
    receiveFrame h kind payload s = react (takeLine .idle [] s) := by
  have taken : (takeLine .idle [] s).line.own = some h.src := own
  rw [receiveFrame_ready ready h kind fits]
  unfold completeFrame
  rw [if_pos taken]

theorem receiveFrame_foreign {h : LineHead} {kind : Byte} {payload : List Byte} {s : State} (ready : LineReady s)
    (fits : payload.length ≤ 24) (other : s.line.own ≠ some h.src) (foreign : s.line.addressing h.dest = none) :
    receiveFrame h kind payload s = react ((takeLine .idle [] s).setLine LineController.waitsToBase) := by
  have taken : (takeLine .idle [] s).line.own ≠ some h.src := other
  have lowered : ((takeLine .idle [] s).setLine LineController.waitsToBase).line.addressing h.dest = none := foreign
  rw [receiveFrame_ready ready h kind fits]
  unfold completeFrame
  rw [if_neg taken]
  dsimp only
  rw [lowered]

theorem receiveFrame_addressed {h : LineHead} {kind : Byte} {addr : Addressing} {payload : List Byte} {s : State}
    (ready : LineReady s) (fits : payload.length ≤ 24) (other : s.line.own ≠ some h.src)
    (addressed : s.line.addressing h.dest = some addr) :
    receiveFrame h kind payload s =
      react (addressedFrame h kind addr payload ((takeLine .idle [] s).setLine LineController.waitsToBase)) := by
  have taken : (takeLine .idle [] s).line.own ≠ some h.src := other
  have lowered : ((takeLine .idle [] s).setLine LineController.waitsToBase).line.addressing h.dest = some addr := addressed
  rw [receiveFrame_ready ready h kind fits]
  unfold completeFrame
  rw [if_neg taken]
  dsimp only
  rw [lowered]

theorem frameTaken_line (s : State) : (frameTaken s).line = (takeLine .idle [] s).line.waitsToBase :=
  (emit_count_only _ _).line_eq (by decide) (by decide)

theorem frameTaken_counted (s : State) : (frameTaken s).counters[(20 : Fin 32)] = s.counters[(20 : Fin 32)].bumped :=
  emit_count_self _ _

/-- A frame that addresses the part is counted with the waits at base; a command goes no further while the link is not ACTIVE
(R146). -/
theorem addressedFrame_of_inactive {h : LineHead} {kind : Byte} {addr : Addressing} {payload : List Byte} {s : State}
    (command : kind ≠ kindBeacon) (inactive : s.line.link ≠ .active) :
    addressedFrame h kind addr payload ((takeLine .idle [] s).setLine LineController.waitsToBase) = frameTaken s := by
  have link : (frameTaken s).line.link ≠ .active := by
    rw [frameTaken_line]
    exact inactive
  unfold addressedFrame
  exact (if_neg command).trans (if_neg link)

/-- Settles O46: a frame is judged by its source, its DEST and the link; the characters of one whose HEAD was taken over are
the frame's own. -/
theorem framesForOthersGoNoFurther : Obligations.FramesForOthersGoNoFurther := by
  unfold Obligations.FramesForOthersGoNoFurther
  refine ⟨fun h kind payload s ready fits => ?_, fun dest l => l.addressing_iff dest,
    fun c h kind payload n s t row fits run rx flight empty low high bits done => ?_⟩
  · have frame := takeLine_only .idle [] s
    refine ⟨fun own => ?_, fun other foreign => ?_, fun other addressed command inactive => ?_⟩
    · refine ⟨takeLine .idle [] s, ?_, frame, rfl, rfl, rfl, rfl, rfl, rfl⟩
      rw [exec_lineFrame rfl, receiveFrame_own ready fits own]
    · refine ⟨(takeLine .idle [] s).setLine LineController.waitsToBase, ?_,
        frame.trans (setLine_only _ _ rfl rfl), rfl, rfl, rfl, rfl, rfl⟩
      rw [exec_lineFrame rfl, receiveFrame_foreign ready fits other foreign]
    · obtain ⟨addr, some_⟩ := Option.isSome_iff_exists.1 addressed
      refine ⟨frameTaken s, ?_, frameTaken_only s, frameTaken_counted s, ?_⟩
      · rw [exec_lineFrame rfl, receiveFrame_addressed ready fits other some_, addressedFrame_of_inactive command inactive]
      · rw [frameTaken_line]
        exact ⟨rfl, rfl, rfl⟩
  · have can := canReceive_of_none run (by rw [rx]; decide) flight
    obtain ⟨whole, more⟩ := judgeChars_lineChars h kind fits
    have head := LineController.joined_taken ⟨low, high⟩ bits
    let v := { s with line := { s.line with rx := .idle, headBits := [] } }
    have ready : LineReady v := ⟨run, rfl, flight⟩
    have received : takeChars (lineChars h kind payload) s = react (completeFrame h kind payload (takeLine .idle [] s)) := by
      rw [lineChars_eq] at whole more ⊢
      rw [takeChars_received can empty (by rw [head]; exact more), head, whole]
      rfl
    have busy : (s.canReceive && s.line.rx == .idle) = false := by rw [rx]; simp
    rw [exec_lineFrame row, receiveFrame_ready ready h kind fits] at done
    cases done
    rw [exec_lineFrame row]
    unfold receiveFrame
    rw [if_neg (Nat.not_lt.2 fits), busy, can, received]
    rfl

end Sys2Proof.Machine
end

section
/-! PROOFS. A frame of the part that is lost: arbitration lost, a collision, and a frame that gives way before its start bit
(R152, R154, R156, R172). -/

namespace Sys2Proof.Machine

/-! ### The line once the waits have followed the content (R150, R151) -/

theorem lineSettle_holdsContent (s : State) (c : LineClass) : (lineSettle s).holdsContent c = s.holdsContent c :=
  holdsContent_congr ((lineSettle_only s).faults_eq (by decide)) ((lineSettle_only s).reports_eq (by decide)) c

/-- Where no wait may begin, the raised waits follow the content and nothing else of the line changes. -/
theorem lineSettle_line_busy {s : State} (run : s.part = .run) (busy : s.line.mayWait = false) :
    (lineSettle s).line = { s.line with
      raisedAlarm := s.line.raisedAlarm && (lineSettle s).holdsContent .alarm
      raisedState := s.line.raisedState && (lineSettle s).holdsContent .state
      raisedRoutine := s.line.raisedRoutine && (lineSettle s).holdsContent .routine } := by
  rw [lineSettle_line run, busy]
  simp only [lineSettle_holdsContent, Bool.false_and, Bool.or_false, Bool.false_eq_true, if_false]

/-! ### A frame given up (R154, R156, R172) -/

theorem giveUp_line (rx : RxState) (hb : List Bool) (q : Nat) (s : State) :
    (giveUp rx hb q s).line = { s.line with inFlight := none, rx := rx, assembly := [], headBits := hb, quiet := q } := rfl

theorem giveUp_counters (rx : RxState) (hb : List Bool) (q : Nat) (s : State) : (giveUp rx hb q s).counters = s.counters :=
  (giveUp_only rx hb q s).counters_eq (by decide)

theorem giveUp_reports (rx : RxState) (hb : List Bool) (q : Nat) (s : State) : (giveUp rx hb q s).reports =
    { s.reports with confirmRenewed := false, stateRenewed := false, healthRenewed := false } := by
  unfold giveUp notSent State.setReports State.setFaults State.setLine
  rfl

theorem giveUp_table (rx : RxState) (hb : List Bool) (q : Nat) (s : State) (i : Fin 32) :
    (giveUp rx hb q s).faults.table[i] = { s.faults.table[i] with carried := none } := by
  unfold giveUp notSent State.setReports State.setFaults State.setLine
  simp only [Fin.getElem_fin, remake_getElem]

/-- A frame that is not sent: the line, the receiver in the state it is left in; the marks; the due marks stay. -/
theorem settled_giveUp {s : State} (run : s.part = .run) {rx : RxState} (awake : rx ≠ .idle) (hb : List Bool) (q : Nat) :
    let t := lineSettle (giveUp rx hb q s)
    t.line = { s.line with
        inFlight := none, rx := rx, assembly := [], headBits := hb, quiet := q
        raisedAlarm := s.line.raisedAlarm && t.holdsContent .alarm
        raisedState := s.line.raisedState && t.holdsContent .state
        raisedRoutine := s.line.raisedRoutine && t.holdsContent .routine } ∧
      t.counters = s.counters ∧ (∀ i : Fin 32, t.faults.table[i] = { s.faults.table[i] with carried := none }) ∧
      t.reports = { s.reports with confirmRenewed := false, stateRenewed := false, healthRenewed := false } ∧
      Only [.line, .faults, .reports] s t := by
  have given := giveUp_only rx hb q s
  have settled := lineSettle_only (giveUp rx hb q s)
  have busy : (giveUp rx hb q s).line.mayWait = false := by
    simp [giveUp_line, LineController.mayWait, awake]
  have line := lineSettle_line_busy ((given.part_eq (by decide)).trans run) busy
  dsimp only
  rw [settled.faults_eq (by decide), settled.reports_eq (by decide), settled.counters_eq (by decide)]
  rw [giveUp_line] at line
  exact ⟨line, giveUp_counters rx hb q s, giveUp_table rx hb q s, giveUp_reports rx hb q s, given.trans (settled.mono (by decide))⟩

/-- The HEAD bits taken over are those of HEAD's character as far as they were sent (R140, R154). -/
theorem headRead_eq {f : TxFrame} (head : f.sent < 9) :
    f.headRead = (bitsOfByte (f.chars.getD 0 0)).take (f.sent - 1) ++ [false] := by
  unfold TxFrame.headRead
  match f.sent, head with
  | 0, _ | 1, _ | 2, _ | 3, _ | 4, _ | 5, _ | 6, _ | 7, _ | 8, _ => rfl

/-- The bit at which a frame is lost has been counted and its sample taken (R140). -/
def lossCounted (i : Fin 32) (s : State) : State := emit [.count i] (s.setLine LineController.sampledNow)

theorem lossCounted_only (i : Fin 32) (s : State) : Only [.line, .counters, .notices] s (lossCounted i s) :=
  (setLine_only s LineController.sampledNow rfl rfl).seq (emit_count_only i _) (by decide) (by decide)

theorem lossCounted_line (i : Fin 32) (s : State) : (lossCounted i s).line = { s.line with bitAcc := 0 } :=
  (emit_count_only i (s.setLine LineController.sampledNow)).line_eq (by decide) (by decide)

theorem lossCounted_self (i : Fin 32) (s : State) : (lossCounted i s).counters[i] = s.counters[i].bumped := emit_count_self i _

theorem lossCounted_kept {i j : Fin 32} (other : j ≠ i) (s : State) : (lossCounted j s).counters[i] = s.counters[i] :=
  emit_count_kept other _

theorem loseArbitration_of_some {s : State} {f : TxFrame} (flight : s.line.inFlight = some f) :
    loseArbitration s =
      if f.sent = 9 then lineSettle (giveUp .skipping [] 0 (emit [.count cntLineBad] (lossCounted cntArbLost s)))
      else lineSettle (giveUp .assembling f.headRead 0 (lossCounted cntArbLost s)) := by
  unfold loseArbitration
  rw [flight]
  rfl

theorem collide_of_some {s : State} {f : TxFrame} (flight : s.line.inFlight = some f) :
    collide s = lineSettle (giveUp .skipping [] (collisionQuiet f s.line.quiet) (lossCounted cntLineBad s)) := by
  unfold collide
  rw [flight]
  rfl

theorem canLose_of_some {s : State} {f : TxFrame} (run : s.part = .run) (flight : s.line.inFlight = some f) :
    s.canLose = (f.begun && decide (f.sent < 10) && f.bit) := by
  unfold State.canLose
  rw [run, flight]
  rfl

theorem canCollide_of_some {s : State} {f : TxFrame} (run : s.part = .run) (flight : s.line.inFlight = some f) :
    s.canCollide = (f.driving && (decide (10 ≤ f.sent) || !f.bit)) := by
  unfold State.canCollide
  rw [run, flight]
  rfl

theorem exec_arbitrationLost (s : State) : exec .arbitrationLost s = .next (if s.canLose then loseArbitration s else s) := by rfl

theorem exec_collision (s : State) : exec .collision s = .next (if s.canCollide then collide s else s) := by rfl

/-- A frame lost at a bit that has been counted and sampled: the receiver is left in a state, no W is raised, every carried
mark and renewed flag is cleared (R150, R154, R156, R172). -/
theorem lost_settled {s u : State} (run : s.part = .run) (counted : Only [.line, .counters, .notices] s u)
    (line : u.line = { s.line with bitAcc := 0 }) {rx : RxState} (awake : rx ≠ .idle) (hb : List Bool) (q : Nat) :
    let t := lineSettle (giveUp rx hb q u)
    (t.line.inFlight = none ∧ t.line.bitAcc = 0 ∧ t.line.quiet = q) ∧
      (t.line.rx = rx ∧ t.line.assembly = [] ∧ t.line.headBits = hb) ∧
      t.counters = u.counters ∧
      t.line.raisedAlarm = (s.line.raisedAlarm && t.holdsContent .alarm) ∧
      t.line.raisedState = (s.line.raisedState && t.holdsContent .state) ∧
      t.line.raisedRoutine = (s.line.raisedRoutine && t.holdsContent .routine) ∧
      (∀ i : Fin 32, t.faults.table[i] = { s.faults.table[i] with carried := none }) ∧
      t.reports = { s.reports with confirmRenewed := false, stateRenewed := false, healthRenewed := false } ∧
      Only [.line, .faults, .reports, .counters, .notices] s t := by
  obtain ⟨settled, counters, table, reports, frame⟩ :=
    settled_giveUp ((counted.part_eq (by decide)).trans run) awake hb q
  rw [counted.faults_eq (by decide)] at table
  rw [counted.reports_eq (by decide)] at reports
  dsimp only
  rw [settled, line]
  exact ⟨⟨rfl, rfl, rfl⟩, ⟨rfl, rfl, rfl⟩, counters, rfl, rfl, rfl, table, reports, counted.seq frame (by decide) (by decide)⟩

/-! ### A frame whose start bit has not begun (R152) -/

theorem takeLine_of_unbegun {f : TxFrame} {s : State} (flight : s.line.inFlight = some f) (unbegun : f.begun = false)
    (rx : RxState) (asm : List Byte) :
    takeLine rx asm s = takeLine rx asm { s with line := { s.line with inFlight := none } } := by
  have gone := dropUnbegun_of_unbegun flight unbegun
  have none_ := dropUnbegun_of_none (l := { s.line with inFlight := none }) rfl
  simp only [takeLine, State.setLine, gone, none_]

section
variable {f : TxFrame} {s : State} (run : s.part = .run) (idle : s.line.rx = .idle) (flight : s.line.inFlight = some f)
  (unbegun : f.begun = false)
include run idle flight unbegun

theorem canReceive_of_unbegun : s.canReceive = true := by
  refine (canReceive_iff s).2 ⟨run, by rw [idle]; decide, fun g some_ => ?_⟩
  cases flight.symm.trans some_
  exact unbegun

theorem takeChar_of_unbegun (c : Byte) : takeChar s c = takeChar { s with line := { s.line with inFlight := none } } c := by
  have ready : LineReady { s with line := { s.line with inFlight := none } } := ⟨run, idle, rfl⟩
  rw [takeChar_received (canReceive_of_unbegun run idle flight unbegun), takeChar_received (canReceive_of_ready ready)]
  unfold received
  simp only [takeLine_of_unbegun flight unbegun]
  rfl

theorem takeChars_of_unbegun {chars : List Byte} (some_ : chars ≠ []) :
    takeChars chars s = takeChars chars { s with line := { s.line with inFlight := none } } := by
  cases chars with
  | nil => exact absurd rfl some_
  | cons c cs =>
    unfold takeChars
    rw [List.foldl_cons, List.foldl_cons, takeChar_of_unbegun run idle flight unbegun]

theorem framingError_of_unbegun : framingError s = framingError { s with line := { s.line with inFlight := none } } := by
  have ready : LineReady { s with line := { s.line with inFlight := none } } := ⟨run, idle, rfl⟩
  rw [framingError_receives (canReceive_of_unbegun run idle flight unbegun), framingError_receives (canReceive_of_ready ready),
    takeLine_of_unbegun flight unbegun]

theorem receiveFrame_of_unbegun (h : LineHead) (kind : Byte) {payload : List Byte} (fits : payload.length ≤ 24) :
    receiveFrame h kind payload s = receiveFrame h kind payload { s with line := { s.line with inFlight := none } } := by
  have ready : LineReady { s with line := { s.line with inFlight := none } } := ⟨run, idle, rfl⟩
  have can := canReceive_of_unbegun run idle flight unbegun
  rw [receiveFrame_ready ready h kind fits, ← takeLine_of_unbegun flight unbegun]
  unfold receiveFrame
  rw [if_neg (Nat.not_lt.2 fits), can, idle]
  rfl

end

/-- Settles O48: either loss counts, gives the frame up and leaves the due marks; a frame not begun leaves the receiver as
without it. -/
theorem lostFramesStayDue : Obligations.LostFramesStayDue := by
  unfold Obligations.LostFramesStayDue
  refine ⟨fun f s run flight begun head bit => ?_, fun f s run flight begun unsent where_ => ?_,
    fun f s run idle flight unbegun => ?_⟩
  · have can : s.canLose = true := by rw [canLose_of_some run flight, begun, decide_eq_true head, bit]; rfl
    have counted := lossCounted_only cntArbLost s
    have line := lossCounted_line cntArbLost s
    refine ⟨loseArbitration s, by rw [exec_arbitrationLost, if_pos can], ?_⟩
    rw [loseArbitration_of_some flight]
    by_cases stop : f.sent = 9
    · rw [if_pos stop]
      have bad := emit_count_only cntLineBad (lossCounted cntArbLost s)
      obtain ⟨⟨flight', acc, quiet⟩, ⟨rx, -, -⟩, counters, marks⟩ := lost_settled run (counted.trans (bad.mono (by decide)))
        ((bad.line_eq (by decide) (by decide)).trans line) (rx := .skipping) (by decide) [] 0
      refine ⟨flight', acc, quiet, ?_, fun few => by omega, fun _ => ⟨rx, ?_⟩, marks⟩
      · have kept : CountKept cntArbLost (lossCounted cntArbLost s) (emit [.count cntLineBad] (lossCounted cntArbLost s)) :=
          emit_count_kept (by decide) _
        rw [counters]
        exact Eq.trans kept (lossCounted_self cntArbLost s)
      · rw [counters]
        exact (emit_count_self cntLineBad _).trans (congrArg Counter.bumped (lossCounted_kept (by decide) s))
    · rw [if_neg stop]
      obtain ⟨⟨flight', acc, quiet⟩, ⟨rx, assembly, bits⟩, counters, marks⟩ :=
        lost_settled run counted line (rx := .assembling) (by decide) f.headRead 0
      refine ⟨flight', acc, quiet, ?_, fun few => ⟨rx, assembly, bits.trans (headRead_eq few), ?_⟩,
        fun last => absurd last stop, marks⟩
      · rw [counters]
        exact lossCounted_self cntArbLost s
      · rw [counters]
        exact lossCounted_kept (by decide) s
  · have driving : f.driving = true := by rw [TxFrame.driving, begun, TxFrame.bits, decide_eq_true unsent]; rfl
    have can : s.canCollide = true := by
      rw [canCollide_of_some run flight, driving]
      rcases where_ with late | dominant
      · rw [decide_eq_true late]
        rfl
      · simp [dominant]
    obtain ⟨⟨flight', acc, quiet⟩, ⟨rx, -, -⟩, counters, alarm, state, routine, marks⟩ :=
      lost_settled run (lossCounted_only cntLineBad s) (lossCounted_line cntLineBad s) (rx := .skipping) (by decide) []
        (collisionQuiet f s.line.quiet)
    refine ⟨collide s, by rw [exec_collision, if_pos can], ?_⟩
    rw [collide_of_some flight]
    refine ⟨flight', rx, acc, quiet.trans ?_, alarm, state, routine, ?_, marks⟩
    · simp [collisionQuiet]
    · rw [counters]
      exact lossCounted_self cntLineBad s
  · refine ⟨?_, ?_, fun c h kind payload row fits => ?_, fun chars err some_ => ?_, fun chars some_ => ?_⟩
    · rw [exec_arbitrationLost, canLose_of_some run flight, unbegun]
      rfl
    · rw [exec_collision, canCollide_of_some run flight, TxFrame.driving, unbegun]
      rfl
    · rw [exec_lineFrame row, exec_lineFrame row, receiveFrame_of_unbegun run idle flight unbegun h kind fits]
    · rw [exec_lineFrameBad, exec_lineFrameBad]
      by_cases none_ : chars = []
      · obtain rfl : err = true := some_.resolve_left (not_not_intro none_)
        subst none_
        rw [if_pos rfl, if_pos rfl]
        exact congrArg (fun t => Host.Outcome.next (react t)) (framingError_of_unbegun run idle flight unbegun)
      · rw [takeChars_of_unbegun run idle flight unbegun none_]
    · rw [exec_lineGapAbort, exec_lineGapAbort, takeChars_of_unbegun run idle flight unbegun some_]

end Sys2Proof.Machine
end

section
/-! PROOFS. What a frame of the part carries (R164, R166, R168, R169): a STATUS field by field, and a FAULT_REPORT of the due
records that changed earliest. -/

namespace Sys2Proof.Machine

/-! ### Packed fields -/

theorem packBits_lt (l : List Bool) : packBits l < 2 ^ l.length := by
  induction l with
  | nil => simp [packBits]
  | cons b l ih =>
    have bit : flag b ≤ 1 := by cases b <;> decide
    rw [packBits, List.length_cons, Nat.pow_succ]
    omega

theorem packPairs_lt {l : List Nat} (pairs : ∀ n ∈ l, n < 4) : packPairs l < 4 ^ l.length := by
  induction l with
  | nil => simp [packPairs]
  | cons n l ih =>
    have first := pairs n (by simp)
    have rest := ih fun m h => pairs m (by simp [h])
    rw [packPairs, List.length_cons, Nat.pow_succ]
    omega

theorem packPairs_div {l : List Nat} (pairs : ∀ n ∈ l, n < 4) (i : Nat) : packPairs l / 4 ^ i % 4 = l[i]?.getD 0 := by
  induction l generalizing i with
  | nil => simp [packPairs]
  | cons n l ih =>
    have first := pairs n (by simp)
    have rest := ih fun m h => pairs m (by simp [h])
    cases i with
    | zero =>
      simp only [packPairs, Nat.pow_zero, Nat.div_one, List.getElem?_cons_zero, Option.getD_some]
      omega
    | succ i =>
      have shift : (n + 4 * packPairs l) / 4 = packPairs l := by omega
      rw [packPairs, Nat.pow_succ', ← Nat.div_div_eq_div_mul, shift, rest i, List.getElem?_cons_succ]

theorem allSections_getElem? (i : Fin 10) : allSections[i.val]? = some i := by revert i; decide

theorem allSlots_getElem? (k : Fin 4) : allSlots[k.val]? = some k := by revert k; decide

/-! ### STATUS (R164) -/

theorem Sect.statusCode_eq (c : Sect) : c.statusCode =
    match c.track, c.state with
    | some _, some .occupied => 1
    | some _, some .disturbed => 2
    | some _, some .prepared => 3
    | _, _ => 0 := by
  unfold Sect.statusCode Sect.inUse
  cases c.track with
  | none => rfl
  | some t =>
    cases c.state with
    | none => rfl
    | some x => cases x <;> rfl

theorem Sect.statusCode_lt (c : Sect) : c.statusCode < 4 := by
  rw [Sect.statusCode_eq]
  split <;> decide

theorem Slot.phaseCode_eq (x : Slot) : x.phaseCode =
    match x.record with
    | none => 0
    | some r => match r.phase with | .approaching => 1 | .arrived => 2 := by
  unfold Slot.phaseCode
  cases x.record with
  | none => rfl
  | some r => cases phase : r.phase <;> simp only [Option.map_some, Option.getD_some, phase] <;> rfl

theorem Slot.phaseCode_lt (x : Slot) : x.phaseCode < 4 := by
  rw [Slot.phaseCode_eq]
  split
  · decide
  · split <;> decide

theorem Slot.demands_eq (x : Slot) : x.demands =
    match x.record with
    | none => false
    | some r => r.committed := by
  unfold Slot.demands
  cases x.record with
  | none => rfl
  | some r => rfl

theorem countActive_eq (s : State) (c : FaultClass) : s.faults.countActive c =
    (allFaultSlots.filter fun i =>
      match s.faults.table[i].record with
      | none => false
      | some r => decide (r.cls = c ∧ r.state ≠ .clearedUnacked)).length := by
  unfold FaultManager.countActive
  refine congrArg List.length (List.filter_congr fun i _ => ?_)
  cases s.faults.table[i].record with
  | none => rfl
  | some r =>
    simp only [Option.any_some, FaultRecord.active]
    by_cases cls : r.cls = c <;> by_cases state : r.state = .clearedUnacked <;> simp [cls, state]

theorem modeCode_eq (m : Option Mode) :
    (m.map Mode.code).getD 0 = match m with | some .degraded => 1 | some .failed => 2 | _ => 0 := by
  cases m with
  | none => rfl
  | some m => cases m <;> rfl

theorem statusCodes_lt (s : State) : ∀ n ∈ allSections.map fun i => s.sections[i].statusCode, n < 4 := fun n h => by
  obtain ⟨i, -, code⟩ := List.mem_map.1 h
  exact code ▸ Sect.statusCode_lt _

theorem phaseCodes_lt (s : State) : ∀ n ∈ allSlots.map fun k => s.slots[k].phaseCode, n < 4 := fun n h => by
  obtain ⟨k, -, code⟩ := List.mem_map.1 h
  exact code ▸ Slot.phaseCode_lt _

/-- The sections in use, packed. -/
def usedSections (s : State) : Nat := packBits (allSections.map fun i => s.sections[i].inUse)

/-- The states of the sections, packed. -/
def sectionStates (s : State) : Nat := packPairs (allSections.map fun i => s.sections[i].statusCode)

/-- The phases of the slots, packed. -/
def slotPhases (s : State) : Nat := packPairs (allSlots.map fun k => s.slots[k].phaseCode)

/-- The committed slots, packed. -/
def committedSlots (s : State) : Nat := packBits (allSlots.map fun k => s.slots[k].demands)

/-- A STATUS, byte by byte (ch. 12.3). -/
theorem statusPayload_eq (s : State) : s.statusPayload =
    [codeOrFF (s.seq.state.map SeqState.code),
      byte ((s.faults.mode.map Mode.code).getD 0 + 4 * flag s.faults.latch + 8 * s.seq.holdBits),
      byte (usedSections s / 256), byte (usedSections s), byte (sectionStates s / 65536), byte (sectionStates s / 256),
      byte (sectionStates s), byte (slotPhases s), byte (committedSlots s)] ++ (s.activeCounts ++ be32 (s.now.toNat / 1000)) := by
  unfold State.statusPayload usedSections sectionStates slotPhases committedSlots be16 be24
  simp only [List.cons_append, List.nil_append]

theorem usedSections_spec (s : State) :
    usedSections s < 1024 ∧ ∀ i : Fin 10, (usedSections s).testBit i = s.sections[i].track.isSome := by
  unfold usedSections
  refine ⟨lt_of_lt_of_eq (packBits_lt _) (by rw [List.length_map]; rfl), fun i => ?_⟩
  rw [testBit_packBits, List.getElem?_map, allSections_getElem?]
  rfl

theorem sectionStates_spec (s : State) :
    sectionStates s < 1048576 ∧ ∀ i : Fin 10, sectionStates s / 4 ^ i.val % 4 = s.sections[i].statusCode := by
  unfold sectionStates
  refine ⟨lt_of_lt_of_eq (packPairs_lt (statusCodes_lt s)) (by rw [List.length_map]; rfl), fun i => ?_⟩
  rw [packPairs_div (statusCodes_lt s), List.getElem?_map, allSections_getElem?]
  rfl

theorem slotPhases_spec (s : State) :
    slotPhases s < 256 ∧ ∀ k : Fin 4, slotPhases s / 4 ^ k.val % 4 = s.slots[k].phaseCode := by
  unfold slotPhases
  refine ⟨lt_of_lt_of_eq (packPairs_lt (phaseCodes_lt s)) (by rw [List.length_map]; rfl), fun k => ?_⟩
  rw [packPairs_div (phaseCodes_lt s), List.getElem?_map, allSlots_getElem?]
  rfl

theorem committedSlots_spec (s : State) :
    committedSlots s < 16 ∧ ∀ k : Fin 4, (committedSlots s).testBit k = s.slots[k].demands := by
  unfold committedSlots
  refine ⟨lt_of_lt_of_eq (packBits_lt _) (by rw [List.length_map]; rfl), fun k => ?_⟩
  rw [testBit_packBits, List.getElem?_map, allSlots_getElem?]
  rfl

theorem byte_of_lt {n : Nat} (h : n < 256) : (byte n).toNat = n := by
  rw [byte_toNat]
  omega

theorem be16_value {n : Nat} (h : n < 65536) : 256 * (byte (n / 256)).toNat + (byte n).toNat = n := by
  rw [byte_toNat, byte_toNat]
  omega

theorem be24_value {n : Nat} (h : n < 16777216) :
    65536 * (byte (n / 65536)).toNat + 256 * (byte (n / 256)).toNat + (byte n).toNat = n := by
  rw [byte_toNat, byte_toNat, byte_toNat]
  omega

theorem activeCounts_eq (s : State) :
    s.activeCounts = [FaultClass.severe, FaultClass.minor, FaultClass.notice].map fun c =>
      byte (allFaultSlots.filter fun i =>
        match s.faults.table[i].record with
        | none => false
        | some r => decide (r.cls = c ∧ r.state ≠ .clearedUnacked)).length := by
  simp only [State.activeCounts, countActive_eq, List.map_cons, List.map_nil]

theorem statusPayload_statusOf (s : State) : StatusOf s s.statusPayload := by
  obtain ⟨usedFit, used⟩ := usedSections_spec s
  obtain ⟨statesFit, states⟩ := sectionStates_spec s
  obtain ⟨phasesFit, phases⟩ := slotPhases_spec s
  obtain ⟨committedFit, committed⟩ := committedSlots_spec s
  have usedValue := be16_value (n := usedSections s) (by omega)
  have statesValue := be24_value (n := sectionStates s) (by omega)
  have phasesValue := byte_of_lt phasesFit
  have committedValue := byte_of_lt (n := committedSlots s) (by omega)
  unfold StatusOf
  rw [statusPayload_eq]
  simp only [List.cons_append, List.nil_append, List.getD_cons_zero, List.getD_cons_succ, usedValue, statesValue, phasesValue,
    committedValue]
  refine ⟨rfl, ?_, ⟨usedFit, used⟩, ⟨statesFit, fun i => ?_⟩, fun k => ?_, ⟨committedFit, fun k => ?_⟩, ?_, ?_⟩
  · have hold : 8 * s.seq.holdBits = 8 * flag s.seq.holdSignaller + 16 * flag s.seq.holdLocal := by
      unfold Sequencer.holdBits
      omega
    rw [modeCode_eq, hold, ← Nat.add_assoc]
    rfl
  · exact (states i).trans (Sect.statusCode_eq _)
  · exact (phases k).trans (Slot.phaseCode_eq _)
  · exact (committed k).trans (Slot.demands_eq _)
  · change (s.activeCounts ++ be32 (s.now.toNat / 1000)).take 3 = _
    exact (List.take_left' rfl).trans (activeCounts_eq s)
  · change (s.activeCounts ++ be32 (s.now.toNat / 1000)).drop 3 = _
    exact List.drop_left' rfl

/-! ### The due records, the earliest changed first (R169) -/

theorem reportAge_eq (s : State) (i : Fin 32) : s.faults.age s.now i = reportAge s i := by rfl

theorem Before.trans {s : State} {i j k : Fin 32} (h : Before s i j) (h' : Before s j k) : Before s i k := by
  unfold Before at h h' ⊢
  omega

theorem insertByAge_perm (f : FaultManager) (now : Time) (i : Fin 32) (l : List (Fin 32)) :
    (f.insertByAge now i l).Perm (i :: l) := by
  induction l with
  | nil => exact .refl _
  | cons j l ih =>
    unfold FaultManager.insertByAge
    split
    · exact .refl _
    · exact (ih.cons j).trans (.swap i j l)

/-- A slot above those placed so far goes behind those that changed as early. -/
theorem insertByAge_sorted {s : State} {i : Fin 32} {l : List (Fin 32)} (sorted : l.Pairwise (Before s)) (above : ∀ j ∈ l, j < i) :
    (s.faults.insertByAge s.now i l).Pairwise (Before s) := by
  induction l with
  | nil => exact List.pairwise_singleton _ _
  | cons j l ih =>
    obtain ⟨first, rest⟩ := List.pairwise_cons.1 sorted
    unfold FaultManager.insertByAge
    simp only [reportAge_eq]
    split
    · next older =>
      have before : Before s i j := .inl older
      refine List.pairwise_cons.2 ⟨fun k h => ?_, sorted⟩
      rcases List.mem_cons.1 h with rfl | h
      · exact before
      · exact before.trans (first k h)
    · next younger =>
      have lower := above j (by simp)
      have before : Before s j i := by
        unfold Before
        omega
      refine List.pairwise_cons.2 ⟨fun k h => ?_, ih rest fun k h => above k (by simp [h])⟩
      rcases List.mem_cons.1 ((insertByAge_perm _ _ _ _).mem_iff.1 h) with rfl | h
      · exact before
      · exact first k h

/-- Slots in ascending order, placed by age behind those placed before. -/
theorem foldl_insertByAge (s : State) {l acc : List (Fin 32)} (ascending : l.Pairwise (· < ·)) (sorted : acc.Pairwise (Before s))
    (above : ∀ i ∈ l, ∀ j ∈ acc, j < i) :
    (l.foldl (fun acc i => s.faults.insertByAge s.now i acc) acc).Pairwise (Before s) ∧
      (l.foldl (fun acc i => s.faults.insertByAge s.now i acc) acc).Perm (acc ++ l) := by
  induction l generalizing acc with
  | nil => exact ⟨sorted, by rw [List.append_nil]; exact .refl _⟩
  | cons i l ih =>
    obtain ⟨first, rest⟩ := List.pairwise_cons.1 ascending
    have perm := insertByAge_perm s.faults s.now i acc
    obtain ⟨placed, all⟩ := ih rest (insertByAge_sorted sorted (above i (by simp))) fun k hk j hj => by
      rcases List.mem_cons.1 (perm.mem_iff.1 hj) with rfl | hj
      · exact first k hk
      · exact above k (by simp [hk]) j hj
    exact ⟨placed, all.trans ((perm.append_right l).trans List.perm_middle.symm)⟩

theorem allFaultSlots_ascending : allFaultSlots.Pairwise (· < ·) := by decide

/-- The due slots of some classes, sorted by age (R169). -/
theorem earliestFirst_spec (s : State) (p : FaultClass → Bool) :
    (s.faults.earliestFirst s.now (s.faults.dueSlots p)).Pairwise (Before s) ∧
      ∀ i, i ∈ s.faults.earliestFirst s.now (s.faults.dueSlots p) ↔ dueIn s p i = true := by
  rw [dueSlots_eq]
  obtain ⟨sorted, perm⟩ := foldl_insertByAge s (acc := []) (allFaultSlots_ascending.filter (dueIn s p)) .nil fun _ _ j h => by
    simp at h
  refine ⟨sorted, fun i => perm.mem_iff.trans ?_⟩
  simp [mem_allFaultSlots]

theorem entry_eq (s : State) (i : Fin 32) : s.faults.table[i].entry s.now = reportRow s i := by
  unfold FaultSlot.entry reportRow
  cases s.faults.table[i].record with
  | none => rfl
  | some r => rfl

/-! ### FAULT_REPORT, and the content of each class (R166, R168, R169) -/

theorem faultReport_none_iff (s : State) (p : FaultClass → Bool) :
    s.faultReport p = none ↔ ∀ i : Fin 32, dueIn s p i = false := by
  obtain ⟨-, due⟩ := earliestFirst_spec s p
  have empty : s.faultReport p = none ↔ s.faults.earliestFirst s.now (s.faults.dueSlots p) = [] := by
    unfold State.faultReport
    cases s.faults.earliestFirst s.now (s.faults.dueSlots p) with
    | nil => exact iff_of_true rfl rfl
    | cons i l => exact iff_of_false nofun nofun
  rw [empty, List.eq_nil_iff_forall_not_mem]
  simp only [due, Bool.not_eq_true]

/-- A FAULT_REPORT carries the first three of the due slots, fewer when fewer are due. -/
theorem faultReport_some {s : State} {p : FaultClass → Bool} {c : Content} (report : s.faultReport p = some c) :
    c.kind = 0x42 ∧ c.carried = (s.faults.earliestFirst s.now (s.faults.dueSlots p)).take 3 ∧ c.carried ≠ [] ∧
      c.payload = (c.carried.map (reportRow s)).flatten := by
  unfold State.faultReport at report
  simp only [entry_eq] at report
  generalize (s.faults.earliestFirst s.now (s.faults.dueSlots p)).take 3 = l at report ⊢
  cases l with
  | nil => cases report
  | cons i l =>
    cases report
    exact ⟨rfl, rfl, List.cons_ne_nil _ _, rfl⟩

theorem faultReport_reportOf {s : State} {p : FaultClass → Bool} {c : Content} (report : s.faultReport p = some c) :
    ReportOf s p c := by
  obtain ⟨sorted, due⟩ := earliestFirst_spec s p
  obtain ⟨kind, carried, some_, payload⟩ := faultReport_some report
  unfold ReportOf
  generalize s.faults.earliestFirst s.now (s.faults.dueSlots p) = l at sorted due carried
  rw [← List.take_append_drop 3 l, List.pairwise_append, ← carried] at sorted
  obtain ⟨first, -, before⟩ := sorted
  refine ⟨kind, some_, ?_, first, fun i h => (due i).1 (List.mem_of_mem_take (carried ▸ h)), fun j h left => ?_, payload⟩
  · rw [carried, List.length_take]
    exact min_le_left 3 _
  · have rest : j ∈ l.drop 3 := by
      have all := (due j).2 h
      rw [← List.take_append_drop 3 l, ← carried] at all
      exact (List.mem_append.1 all).resolve_left left
    have many : 3 ≤ l.length := by
      have := List.length_pos_of_mem rest
      rw [List.length_drop] at this
      omega
    refine ⟨?_, fun i h => before i h j rest⟩
    rw [carried, List.length_take]
    exact min_eq_left many

/-- The content of the STATE class (R163, R165, R168). -/
theorem content_state (s : State) :
    (∀ k, s.reports.confirm = some k → s.content .state = some ⟨0x43, [k.kind, byte k.result.code], []⟩) ∧
      (s.reports.confirm = none → s.reports.stateMark = true → s.content .state = some ⟨0x41, s.statusPayload, []⟩) ∧
      (s.reports.confirm = none → s.reports.stateMark = false → s.content .state = none) := by
  refine ⟨fun k confirm => ?_, fun confirm mark => ?_, fun confirm mark => ?_⟩
  · simp only [State.content, confirm]
    rfl
  · simp only [State.content, confirm, mark]
    rfl
  · simp only [State.content, confirm, mark, Bool.false_eq_true, if_false]

/-- The content of the ROUTINE class: the due records, and without one a STATUS for the health mark (R165, R166, R169). -/
theorem content_routine (s : State) :
    (s.faultReport notSevere = none →
      s.content .routine = if s.reports.healthMark then some ⟨0x41, s.statusPayload, []⟩ else none) ∧
      ∀ c, s.faultReport notSevere = some c → s.content .routine = some c := by
  refine ⟨fun none_ => ?_, fun c some_ => ?_⟩
  · simp only [State.content, none_]
    rfl
  · simp only [State.content, some_]


end Sys2Proof.Machine
end

section
/-! PROOFS. A frame of the part from the wait's end to its completion (R150, R152, R153, R155, R169 to R171). -/

namespace Sys2Proof.Machine

/-! ### The end of a wait (R152) -/

theorem exec_accessWaitQuiet (s : State) : exec .accessWaitQuiet s = .next (if s.waitQuiet then startFrame s else s) := by rfl

theorem waitBits_eq (l : LineController) (cls : LineClass) : l.waitBits cls =
    match cls with
    | .alarm => if l.raisedAlarm then 10 else 8
    | .state => if l.raisedState then 12 else 10
    | .routine => if l.raisedRoutine then 14 else 12 := by cases cls <;> rfl

theorem waitQuiet_of_reached {s : State} {cls : LineClass} (run : s.part = .run) (active : s.line.link = .active)
    (idle : s.line.rx = .idle) (flight : s.line.inFlight = none) (wait : s.line.wait = some cls)
    (reached : s.line.waitBits cls ≤ s.line.quiet) : s.waitQuiet = true := by
  simp [State.waitQuiet, run, active, idle, flight, wait, reached]

theorem startFrame_of_none {s : State} {cls : LineClass} (wait : s.line.wait = some cls) (empty : s.content cls = none) :
    startFrame s = lineSettle (s.setLine fun l => { l with wait := none }) := by
  unfold startFrame
  rw [wait]
  dsimp only
  rw [empty]

theorem startFrame_of_some {s : State} {cls : LineClass} {c : Content} (wait : s.line.wait = some cls)
    (held : s.content cls = some c) :
    startFrame s = s.setLine fun l => { l with wait := none, inFlight := some (l.frame cls c) } := by
  unfold startFrame
  rw [wait]
  dsimp only
  rw [held]

theorem sendingKind_iff (l : LineController) (k : Byte) :
    l.sendingKind k = true ↔ ∃ f, l.inFlight = some f ∧ f.begun = true ∧ f.kind = k := by
  unfold LineController.sendingKind
  cases l.inFlight with
  | none => simp
  | some f => simp

/-! ### Completion (R155, R171) -/

theorem exec_lineFrameSent (s : State) : exec .lineFrameSent s = .next (if s.frameSentDue then frameSent s else s) := by rfl

theorem frameSentDue_of_sent {s : State} {f : TxFrame} (run : s.part = .run) (flight : s.line.inFlight = some f)
    (sent : 10 * f.chars.length ≤ f.sent) : s.frameSentDue = true := by
  simp [State.frameSentDue, run, flight, TxFrame.bits, sent]

/-- The frame has been counted and its marks are written. -/
def sentMarked (f : TxFrame) (s : State) : State := writeMarks f (emit [.count cntLineSent] s)

theorem sentMarked_only (f : TxFrame) (s : State) : Only [.faults, .reports, .counters, .notices] s (sentMarked f s) :=
  (emit_count_only cntLineSent s).seq (writeMarks_only f _) (by decide) (by decide)

/-- The line at the frame's end: W of its class as the content says, the receiver IDLE. -/
def LineController.sent (l : LineController) (cls : LineClass) (more : Bool) : LineController :=
  { l.setRaised cls more with inFlight := none, quiet := 0, rx := .idle }

theorem frameSent_of_some {s : State} {f : TxFrame} (flight : s.line.inFlight = some f) :
    frameSent s =
      lineSettle ((sentMarked f s).setLine fun l => l.sent f.cls ((sentMarked f s).holdsContent f.cls)) := by
  unfold frameSent
  rw [flight]
  rfl

theorem sent_raised (l : LineController) (cls : LineClass) (more : Bool) :
    (l.sent cls more).raisedAlarm = (if cls = .alarm then more else l.raisedAlarm) ∧
      (l.sent cls more).raisedState = (if cls = .state then more else l.raisedState) ∧
      (l.sent cls more).raisedRoutine = (if cls = .routine then more else l.raisedRoutine) := by
  cases cls <;> exact ⟨rfl, rfl, rfl⟩

/-- W of a class after a frame: raised as it was or by its own frame, as long as there is content (R150). -/
theorem raised_after (holds : LineClass → Bool) (own cls : LineClass) (raised : Bool) :
    ((if own = cls then holds own else raised) && holds cls) = ((raised || decide (own = cls)) && holds cls) := by
  by_cases same : own = cls
  · subst same
    simp
  · simp [same]

theorem writeMarks_reports (f : TxFrame) (s : State) :
    (f.kind = 0x43 → (writeMarks f s).reports = { s.reports with
      confirm := if s.reports.confirmRenewed then s.reports.confirm else none, confirmRenewed := false }) ∧
    (f.kind = 0x41 → (writeMarks f s).reports = { s.reports with
      stateMark := s.reports.stateMark && s.reports.stateRenewed, stateRenewed := false
      healthMark := s.reports.healthMark && s.reports.healthRenewed, healthRenewed := false
      healthTimer := some (later s.now (s.line.tHealth * 1000)) }) := by
  refine ⟨fun kind => ?_, fun kind => ?_⟩
  · unfold writeMarks
    rw [if_neg (by rw [kind]; decide), if_pos (by rw [kind]; decide)]
    rfl
  · unfold writeMarks
    rw [if_neg (by rw [kind]; decide), if_neg (by rw [kind]; decide)]
    rfl

theorem FaultSlot.reported_of_carried {x : FaultSlot} {r : FaultRecord} {st : FaultState} (record : x.record = some r)
    (carried : x.carried = some st) (now : Time) :
    x.reported now = { x with
      record := some { r with lastReported := some st, lastReport := some now }, forced := false, carried := none } := by
  unfold FaultSlot.reported
  rw [record, carried]

theorem writeMarks_table {f : TxFrame} (kind : f.kind = 0x42) (s : State) (i : Fin 32) :
    (writeMarks f s).faults.table[i] = s.faults.table[i].reported s.now := by
  unfold writeMarks
  rw [if_pos (by rw [kind]; decide)]
  simp only [State.setFaults_faults, Fin.getElem_fin, remake_getElem]

/-- The line once a frame has been completed and the waits have followed the content (R150, R155). -/
theorem frameSent_line {s : State} {f : TxFrame} (run : s.part = .run) (flight : s.line.inFlight = some f) :
    let t := frameSent s
    t.line.inFlight = none ∧ t.line.rx = .idle ∧ t.line.quiet = 0 ∧
      t.line.raisedAlarm = ((s.line.raisedAlarm || decide (f.cls = .alarm)) && t.holdsContent .alarm) ∧
      t.line.raisedState = ((s.line.raisedState || decide (f.cls = .state)) && t.holdsContent .state) ∧
      t.line.raisedRoutine = ((s.line.raisedRoutine || decide (f.cls = .routine)) && t.holdsContent .routine) := by
  have marked := sentMarked_only f s
  have holds : ∀ c, (frameSent s).holdsContent c = (sentMarked f s).holdsContent c := fun c => by
    rw [frameSent_of_some flight, lineSettle_holdsContent]
    exact holdsContent_congr rfl rfl c
  have run' : ((sentMarked f s).setLine fun l => l.sent f.cls ((sentMarked f s).holdsContent f.cls)).part = .run :=
    (marked.part_eq (by decide)).trans run
  have line := lineSettle_line run'
  rw [← frameSent_of_some flight, State.setLine_line, marked.line_eq (by decide) (by decide)] at line
  obtain ⟨alarm, state, routine⟩ := sent_raised s.line f.cls ((sentMarked f s).holdsContent f.cls)
  have held : ∀ c, ((sentMarked f s).setLine fun l => l.sent f.cls ((sentMarked f s).holdsContent f.cls)).holdsContent c =
      (sentMarked f s).holdsContent c := holdsContent_congr rfl rfl
  simp only [alarm, state, routine, held, raised_after] at line
  dsimp only
  rw [line, holds, holds, holds]
  exact ⟨rfl, rfl, rfl, rfl, rfl, rfl⟩

/-- What is left of the marks, the counters and the other blocks once a frame has been completed (R155, R171). -/
theorem frameSent_marks {s : State} {f : TxFrame} (flight : s.line.inFlight = some f) :
    (frameSent s).counters[(23 : Fin 32)] = s.counters[(23 : Fin 32)].bumped ∧
      (frameSent s).reports = (writeMarks f (emit [.count cntLineSent] s)).reports ∧
      (frameSent s).faults = (writeMarks f (emit [.count cntLineSent] s)).faults ∧
      Only [.line, .faults, .reports, .counters, .notices] s (frameSent s) := by
  have marked := sentMarked_only f s
  have settled : Only [.line] (sentMarked f s) (frameSent s) := by
    rw [frameSent_of_some flight]
    exact (setLine_only _ (fun l => l.sent f.cls ((sentMarked f s).holdsContent f.cls)) (setRaised_settings _ _ _).1
      (setRaised_settings _ _ _).2).trans (lineSettle_only _)
  refine ⟨?_, settled.reports_eq (by decide), settled.faults_eq (by decide), marked.seq settled (by decide) (by decide)⟩
  rw [settled.counters_eq (by decide), sentMarked, (writeMarks_only f _).counters_eq (by decide)]
  exact emit_count_self cntLineSent s

/-- Settles O47: the wait's end, the start bit as the idle step has it, what the classes carry, and the completed frame. -/
theorem lineFramesAreStartedAndCompleted : Obligations.LineFramesAreStartedAndCompleted := by
  unfold Obligations.LineFramesAreStartedAndCompleted
  refine ⟨fun cls s run active idle flight wait reached => ?_, fun f s queue due run begins => ?_, sendingKind_iff,
    fun s => ?_, fun f s run flight sent => ?_⟩
  · have quiet := waitQuiet_of_reached run active idle flight wait ((waitBits_eq s.line cls).trans_le reached)
    rw [exec_accessWaitQuiet, if_pos quiet]
    exact ⟨fun empty => by rw [startFrame_of_none wait empty]; rfl, fun c held => by rw [startFrame_of_some wait held]; rfl⟩
  · obtain ⟨quiet, -, -⟩ := idleStepIsOneHeadTick s queue
    obtain ⟨t, next, -, -, -, -, inRun, -⟩ := quiet due
    obtain ⟨-, -, -, starts, -⟩ := inRun run
    exact ⟨t, next, starts f begins⟩
  · obtain ⟨confirm, status, empty⟩ := content_state s
    obtain ⟨health, report⟩ := content_routine s
    refine ⟨statusPayload_statusOf s, confirm, status, empty, faultReport_none_iff s isSevere,
      fun c some_ => faultReport_reportOf (p := isSevere) some_,
      fun none_ => health ((faultReport_none_iff s notSevere).2 none_), fun ⟨i, due⟩ => ?_⟩
    cases some_ : s.faultReport notSevere with
    | none => exact absurd ((faultReport_none_iff s notSevere).1 some_ i) (by rw [Bool.not_eq_false]; exact due)
    | some c => exact ⟨c, report c some_, faultReport_reportOf some_⟩
  · obtain ⟨flight', rx, quiet, alarm, state, routine⟩ := frameSent_line run flight
    obtain ⟨counted, reports, faults, frame⟩ := frameSent_marks flight
    have count := emit_count_only cntLineSent s
    obtain ⟨confirm, status⟩ := writeMarks_reports f (emit [.count cntLineSent] s)
    rw [← reports, count.reports_eq (by decide)] at confirm status
    rw [(count.clock_eq (by decide)).1, count.line_eq (by decide) (by decide)] at status
    refine ⟨frameSent s, ?_, flight', rx, quiet, alarm, state, routine, counted, confirm, status,
      fun kind i r st record carried => ?_, frame⟩
    · rw [exec_lineFrameSent, if_pos (frameSentDue_of_sent run flight sent)]
    · rw [faults, writeMarks_table kind, count.faults_eq (by decide), (count.clock_eq (by decide)).1]
      exact FaultSlot.reported_of_carried record carried s.now

end Sys2Proof.Machine
end

section
/-! PROOFS. What the Sequencer's taking of the demand leaves of the link's marks (R64, R165, R167, R173): the count of good
frames, the health timer and mark, the CONFIRM slot, the forced marks. -/

namespace Sys2Proof.Machine

/-! ### The Report Scheduler's marks -/

/-- The health timer and mark and the CONFIRM slot stand, and a STATUS that is due stays due. -/
structure MarksKept (s t : State) : Prop where
  timer : t.reports.healthTimer = s.reports.healthTimer
  health : t.reports.healthMark = s.reports.healthMark
  confirm : t.reports.confirm = s.reports.confirm
  status : s.reports.stateMark = true → t.reports.stateMark = true

theorem MarksKept.trans {s t u : State} (h : MarksKept s t) (h' : MarksKept t u) : MarksKept s u :=
  ⟨h'.timer.trans h.timer, h'.health.trans h.health, h'.confirm.trans h.confirm, h'.status ∘ h.status⟩

theorem MarksKept.of_eq {s t : State} (h : t.reports = s.reports) : MarksKept s t := by
  refine ⟨?_, ?_, ?_, ?_⟩ <;> rw [h]
  exact id

theorem MarksKept.of_only {bs : List Block} {s t : State} (h : Only bs s t) (off : .reports ∉ bs) : MarksKept s t :=
  .of_eq (h.reports_eq off)

theorem emit1_marks (s : State) (o : Output) : MarksKept s (emit1 s o) := by
  cases o with
  | log k n d => exact .of_only (writeLog_only k n d s) (by decide)
  | notice n => exact .of_only (queueNotice_only n s) (by decide)
  | stateNotice => exact .of_only (queueNotice_only _ s) (by decide)
  | count i => exact .of_only (bump_only i s) (by decide)
  | statusDue => exact ⟨rfl, rfl, rfl, fun _ => rfl⟩

theorem emit_marks (os : List Output) (s : State) : MarksKept s (emit os s) := by
  induction os generalizing s with
  | nil => exact .of_eq rfl
  | cons o os ih => exact (emit1_marks s o).trans (ih (emit1 s o))

theorem applyFault_marks (g : FaultManager → FaultStep) (s : State) : MarksKept s (applyFault g s) :=
  MarksKept.trans (.of_only (setFaults_only s fun f => (g f).1) (by decide)) (emit_marks _ _)

theorem deriveMode_marks (c : ModeCause) (s : State) : MarksKept s (deriveMode c s) := by
  unfold deriveMode
  split
  · exact .of_eq rfl
  · exact MarksKept.trans (.of_only (setFaults_only s _) (by decide)) (emit_marks _ _)

theorem raise_marks (k : FaultKind) (o d : Nat) (s : State) : MarksKept s (raise k o d s) := by
  unfold raise
  dsimp only
  refine MarksKept.trans ?_ (deriveMode_marks _ _)
  split
  · exact (applyFault_marks _ s).trans (.of_only (tookFree_only _) (by decide))
  · exact applyFault_marks _ s

theorem endCondition_marks (k : FaultKind) (o : Nat) (s : State) : MarksKept s (endCondition k o s) :=
  (applyFault_marks _ s).trans (deriveMode_marks _ _)

/-! ### The forced marks (R167) -/

/-- A slot keeps its forced mark with its record, or is free. -/
def FaultSlot.KeepsForced (x y : FaultSlot) : Prop :=
  (y.forced = x.forced ∧ y.record.isSome = x.record.isSome) ∨ (y.forced = false ∧ y.record = none)

/-- Every slot does. -/
def FaultManager.KeepsForced (f g : FaultManager) : Prop := ∀ i : Fin 32, f.table[i].KeepsForced g.table[i]

theorem FaultManager.KeepsForced.refl (f : FaultManager) : f.KeepsForced f := fun _ => .inl ⟨rfl, rfl⟩

theorem FaultManager.KeepsForced.trans {f g h : FaultManager} (kept : f.KeepsForced g) (kept' : g.KeepsForced h) :
    f.KeepsForced h := fun i => by
  rcases kept' i with ⟨forced', some'⟩ | free
  · rcases kept i with ⟨forced, some_⟩ | ⟨forced, none_⟩
    · exact .inl ⟨forced'.trans forced, some'.trans some_⟩
    · refine .inr ⟨forced'.trans forced, Option.not_isSome_iff_eq_none.1 ?_⟩
      rw [some', none_]
      exact Bool.false_ne_true
  · exact .inr free

theorem FaultManager.keepsForced_of_table {f g : FaultManager} (same : g.table = f.table) : f.KeepsForced g := fun i => by
  rw [same]
  exact .inl ⟨rfl, rfl⟩

/-- One slot's entry is replaced. -/
theorem FaultManager.keepsForced_of_set {f g : FaultManager} {i : Fin 32} {x : FaultSlot} (table : g.table = f.table.set i x)
    (here : f.table[i].KeepsForced x) : f.KeepsForced g := fun j => by
  by_cases same : i = j
  · subst same
    rw [table, show (f.table.set i x)[i] = x by simp]
    exact here
  · rw [table, getElem_set_other same]
    exact .inl ⟨rfl, rfl⟩

theorem FaultManager.endAt_keepsForced (f : FaultManager) (now : Time) (i : Fin 32) : f.KeepsForced (f.endAt now i).1 := by
  have restates : f.KeepsForced (f.restate now i .clearedUnacked .cleared .none).1 := by
    unfold FaultManager.restate
    split
    · exact .refl f
    · next r holds => exact keepsForced_of_set rfl (.inl ⟨rfl, by rw [holds]; rfl⟩)
  have removes : f.KeepsForced (f.remove i .none).1 := by
    unfold FaultManager.remove
    split
    · exact .refl f
    · exact keepsForced_of_set rfl (.inr ⟨rfl, rfl⟩)
  unfold FaultManager.endAt
  split
  · exact .refl f
  · split
    · exact restates
    · exact removes
    · exact .refl f

theorem FaultManager.ended_keepsForced (f : FaultManager) (now : Time) (k : FaultKind) (o : Nat) :
    f.KeepsForced (f.ended now k o).1 := by
  have tested : ∀ g : FaultManager, g.KeepsForced (g.testTableFull now).1 := fun g => by
    unfold FaultManager.testTableFull
    split
    · exact g.endAt_keepsForced now 31
    · exact .refl g
  unfold FaultManager.ended
  split
  · exact .refl f
  · split
    · exact .refl f
    · exact (f.endAt_keepsForced now _).trans (tested _)

/-- No slot has a forced mark. -/
def FaultManager.Unforced (f : FaultManager) : Prop := ∀ i : Fin 32, f.table[i].forced = false

section
variable {f : FaultManager} (unforced : f.Unforced) (now : Time)
include unforced

theorem FaultManager.unforced_of_set {g : FaultManager} {j : Fin 32} {x : FaultSlot} (table : g.table = f.table.set j x)
    (here : x.forced = false) : g.Unforced := fun i => by
  by_cases same : j = i
  · subst same
    rw [table, show (f.table.set j x)[j] = x by simp]
    exact here
  · rw [table, getElem_set_other same]
    exact unforced i

theorem FaultManager.create_unforced (i : Fin 32) (k : FaultKind) (o d : Nat) : (f.create now i k o d).1.Unforced :=
  unforced_of_set unforced rfl rfl

theorem FaultManager.reraise_unforced (i : Fin 32) (d : Nat) : (f.reraise now i d).1.Unforced := by
  unfold FaultManager.reraise
  split
  · exact unforced
  · exact unforced_of_set unforced rfl (unforced i)

/-- With no forced mark set, a raise sets none (R167). -/
theorem FaultManager.raised_unforced (n : Byte) (k : FaultKind) (o d : Nat) : (f.raised now n k o d).1.Unforced := by
  have full : (f.raiseTableFull now k).1.Unforced := by
    unfold FaultManager.raiseTableFull
    split
    · exact reraise_unforced unforced now 31 _
    · exact create_unforced unforced now 31 _ _ _
  unfold FaultManager.raised
  split
  · exact reraise_unforced unforced now _ _
  · exact create_unforced unforced now _ _ _ _
  · exact create_unforced unforced now _ _ _ _
  · exact full

end

theorem endCondition_keepsForced (k : FaultKind) (o : Nat) (s : State) : s.faults.KeepsForced (endCondition k o s).faults := by
  unfold endCondition
  rw [deriveMode_faults, applyFault_faults]
  exact (s.faults.ended_keepsForced s.now k o).trans (FaultManager.keepsForced_of_table rfl)

theorem raise_unforced {s : State} (unforced : s.faults.Unforced) (k : FaultKind) (o d : Nat) :
    (raise k o d s).faults.Unforced := by
  rw [raise_faults]
  exact FaultManager.raised_unforced unforced s.now _ k o d

/-! ### What the Sequencer does as it takes the demand (R64 to R77) -/

/-- The count of good frames and the link's marks stand. -/
structure LinkKept (s t : State) : Prop where
  good : CountKept cntLineGood s t
  marks : MarksKept s t
  forced : s.faults.KeepsForced t.faults

theorem LinkKept.refl (s : State) : LinkKept s s := ⟨.refl _ s, .of_eq rfl, .refl _⟩

theorem LinkKept.trans {s t u : State} (h : LinkKept s t) (h' : LinkKept t u) : LinkKept s u :=
  ⟨h.good.trans h'.good, h.marks.trans h'.marks, h.forced.trans h'.forced⟩

theorem LinkKept.of_only {bs : List Block} {s t : State} (h : Only bs s t)
    (off : .counters ∉ bs ∧ .reports ∉ bs ∧ .faults ∉ bs) : LinkKept s t :=
  ⟨.of_only h off.1, .of_only h off.2.1, FaultManager.keepsForced_of_table (by rw [h.faults_eq off.2.2])⟩

theorem LinkKept.ite {s t u : State} {c : Prop} [Decidable c] (ht : LinkKept s t) (hu : LinkKept s u) :
    LinkKept s (if c then t else u) := by
  split
  · exact ht
  · exact hu

theorem LinkKept.foldl {α : Type} {f : State → α → State} (hf : ∀ s a, LinkKept s (f s a)) (l : List α) (s : State) :
    LinkKept s (l.foldl f s) := by
  induction l generalizing s with
  | nil => exact .refl s
  | cons a l ih => exact (hf s a).trans (ih (f s a))

/-- Outputs that do not count a good frame. -/
theorem emit_link {os : List Output} (other : .count cntLineGood ∉ os) (s : State) : LinkKept s (emit os s) := by
  induction os generalizing s with
  | nil => exact .refl s
  | cons o os ih =>
    rw [List.mem_cons, not_or] at other
    have counted : CountKept cntLineGood s (emit1 s o) := by
      cases o with
      | count i => exact emit_count_kept (fun same => other.1 (by rw [same])) s
      | log k n d => exact .of_eq (emit1_counters (by simp) s)
      | notice n => exact .of_eq (emit1_counters (by simp) s)
      | stateNotice => exact .of_eq (emit1_counters (by simp) s)
      | statusDue => exact .of_eq (emit1_counters (by simp) s)
    have faults : (emit1 s o).faults = s.faults := (emit_only [o] s).faults_eq (by decide)
    have one : LinkKept s (emit1 s o) := ⟨counted, emit1_marks s o, FaultManager.keepsForced_of_table (by rw [faults])⟩
    exact one.trans (ih other.2 (emit1 s o))

theorem endCondition_link (k : FaultKind) (o : Nat) (s : State) : LinkKept s (endCondition k o s) :=
  ⟨.of_eq (endCondition_counters k o s), endCondition_marks k o s, endCondition_keepsForced k o s⟩

theorem commitRecord_link (k : Fin 4) (cause : CommitCause) (time : Time) (short : Bool) (s : State) :
    LinkKept s (commitRecord k cause time short s) := by
  unfold commitRecord
  split
  · exact .refl s
  · split
    · exact .refl s
    · exact LinkKept.trans (.of_only (setRecord_only s k _) (by decide)) (emit_link (by simp) _)

theorem setSeq_link (s : State) (f : Sequencer → Sequencer) : LinkKept s (s.setSeq f) :=
  ⟨rfl, .of_eq rfl, FaultManager.keepsForced_of_table rfl⟩

theorem seqGo_link (x : SeqState) (c : SeqCause) (b : Bool) (n : Option Nat) (s : State) : LinkKept s (seqGo x c b n s) :=
  (setSeq_link s _).trans (emit_link (by simp) _)

theorem lampCommand_link (c : LampCmd) (s : State) : LinkKept s (lampCommand c s) :=
  .of_only (lampCommand_only c s) (by decide)

theorem toBarriers_link {f : Fin 4 → State → State} (h : ∀ b s, LinkKept s (f b s)) (p : Barrier → Bool) (s : State) :
    LinkKept s (toBarriers p f s) := .foldl (fun s b => .ite (h b s) (.refl s)) _ s

theorem raiseBarrier_link (b : Fin 4) (s : State) : LinkKept s (raiseBarrier b s) := by
  have raised : LinkKept s (s.setBarrier b fun x => x.raised s.now) := ⟨rfl, .of_eq rfl, FaultManager.keepsForced_of_table rfl⟩
  unfold raiseBarrier
  dsimp only
  split
  · exact raised.trans (endCondition_link _ _ _)
  · exact raised

/-- A move of the Sequencer with its lamp command and a command to the barriers. -/
theorem moveAndCommand_link {f : Fin 4 → State → State} (h : ∀ b s, LinkKept s (f b s)) (x : SeqState) (c : SeqCause)
    (l : LampCmd) (p : Barrier → Bool) (s : State) : LinkKept s (toBarriers p f (lampCommand l (seqMove x c s))) :=
  ((seqGo_link x c false none s).trans (lampCommand_link l _)).trans (toBarriers_link h p _)

theorem releaseBarrier_link (b : Fin 4) (s : State) : LinkKept s (releaseBarrier b s) :=
  .of_only (releaseBarrier_only b s) (by decide)

theorem cntClosureBin_ne_good (ms : Nat) : .count cntLineGood ∉ [Output.count (cntClosureBin ms)] := by
  rw [List.mem_singleton, Output.count.injEq]
  unfold cntClosureBin
  repeat' split
  all_goals decide

theorem enterOpen_link (s : State) : LinkKept s (enterOpen s) := by
  have opens := fun (f : Sequencer → Sequencer) b n =>
    ((setSeq_link s f).trans (seqGo_link .roadOpen .barriers b n _)).trans (lampCommand_link .dark _)
  unfold enterOpen
  dsimp only
  refine .ite (LinkKept.trans ?_ (endCondition_link _ _ _)) ?_
  all_goals
    split
    · exact (opens _ _ _).trans (emit_link (cntClosureBin_ne_good _) _)
    · exact opens _ _ _

theorem leaveOpen_link (x : SeqState) (c : SeqCause) (l : LampCmd) (s : State) : LinkKept s (leaveOpen x c l s) := by
  unfold leaveOpen
  dsimp only
  refine LinkKept.trans ?_ (lampCommand_link l _)
  refine LinkKept.trans ?_ (.of_only (abortTest_only _) (by decide))
  exact ((setSeq_link s _).trans (emit_link (by decide) _)).trans (seqGo_link x c _ none _)

theorem enterRaising_link (s : State) : LinkKept s (enterRaising s) :=
  (moveAndCommand_link raiseBarrier_link _ _ _ _ s).trans (.ite (enterOpen_link _) (.refl _))

theorem guardCommit_link (g : Nat) (s : State) : LinkKept s (guardCommit g s) :=
  .foldl (fun s _ => .ite (commitRecord_link _ _ _ _ s) (.refl s)) _ _

theorem testClosed_link (s : State) : LinkKept s (testClosed s) :=
  .ite (.ite (guardCommit_link _ s) (enterRaising_link s)) (.refl s)

theorem enterClosed_link (s : State) : LinkKept s (enterClosed s) :=
  (moveAndCommand_link releaseBarrier_link _ _ _ _ s).trans (testClosed_link _)

theorem enterLowerExit_link (s : State) : LinkKept s (enterLowerExit s) :=
  (moveAndCommand_link releaseBarrier_link _ _ _ _ s).trans (.ite (enterClosed_link _) (.refl _))

theorem testLowerEntry_link (s : State) : LinkKept s (testLowerEntry s) :=
  .ite ((setSeq_link s _).trans (.ite (enterLowerExit_link _) (enterClosed_link _))) (.refl s)

theorem reclose_link (s : State) : LinkKept s (reclose s) :=
  ((moveAndCommand_link releaseBarrier_link _ _ _ _ s).trans (setSeq_link _ _)).trans (testLowerEntry_link _)

theorem takeDemand_link (s : State) : LinkKept s (takeDemand s) := by
  unfold takeDemand
  split
  · exact .ite (leaveOpen_link _ _ _ s) (.refl s)
  · exact .ite (reclose_link s) (.refl s)
  · exact testClosed_link s
  · exact .refl s

theorem react_link (s : State) : LinkKept s (react s) :=
  (takeDemand_link s).trans (.of_only (lineSettle_only _) (by decide))

end Sys2Proof.Machine
end

section
/-! PROOFS. Link supervision (R146 to R149, R173): what a beacon and its absence do to the link, and what each change of link
state records, tells and marks. -/

namespace Sys2Proof.Machine

/-! ### A change of link state, recorded and told (R149) -/

theorem queueNotice_setLine (n : Notice) (s : State) (f : LineController → LineController) :
    queueNotice n (s.setLine f) = (queueNotice n s).setLine f := by
  unfold queueNotice
  rw [apply_ite (fun t : State => t.setLine f)]
  rfl

theorem writeLog_setLine (k : LogKind) (o : Nat) (d : List Byte) (s : State) (f : LineController → LineController) :
    writeLog k o d (s.setLine f) = (writeLog k o d s).setLine f := by
  have noticed := queueNotice_setLine (levelNotice (s.memory.append s.now k o d)) (s.setMemory fun _ => s.memory.append s.now k o d) f
  unfold writeLog
  dsimp only
  rw [apply_ite (fun t : State => t.setLine f), apply_ite (fun t : State => t.setLine f), ← noticed]
  rfl

theorem linkTold_eq (new : LinkState) (cause : LinkCause) (s : State) :
    linkTold new cause s =
      (queueNotice ⟨.link, [byte new.code]⟩ (writeLog .link 0 [byte s.line.link.code, byte new.code, byte cause.code] s)).setLine
        fun l => { l.waitsToBase with link := new, wait := none } := by
  rw [← queueNotice_setLine, ← writeLog_setLine]
  rfl

theorem linkTold_only (new : LinkState) (cause : LinkCause) (s : State) :
    Only [.link, .line, .log, .notices] s (linkTold new cause s) := by
  rw [linkTold_eq]
  exact ((writeLog_only _ _ _ s).seq (queueNotice_only _ _) (cs := [.link, .line, .log, .notices]) (by decide) (by decide)).trans
    ((setLine_only_link _ _ rfl).mono (by decide))

theorem linkGo_frame (new : LinkState) (cause : LinkCause) (s : State) :
    Only [.link, .line, .log, .notices, .reports, .faults] s (linkGo new cause s) := by
  rw [linkGo_eq]
  exact (linkTold_only new cause s).seq (linkEdges_only _ _ _) (by decide) (by decide)

theorem LineController.abandoned_link (l : LineController) : l.abandoned.link = l.link := by
  cases flight : l.inFlight with
  | none => rw [LineController.abandoned_of_none flight]
  | some f =>
    rw [LineController.abandoned_of_some flight]
    split
    · rfl
    · rfl

theorem linkGo_link (new : LinkState) (cause : LinkCause) (s : State) : (linkGo new cause s).line.link = new := by
  rw [linkGo_line]
  dsimp only
  split
  · exact LineController.abandoned_link _
  · rfl

theorem linkGo_moves {s : State} (run : s.part = .run) (new : LinkState) (cause : LinkCause) :
    LinkMoves new cause.code s (linkGo new cause s) := by
  have edges := linkEdges_only s.line.link new (linkTold new cause s)
  refine ⟨linkGo_link new cause s, ?_, ?_⟩
  · rw [Wrote, linkGo_eq, edges.memory_eq (by decide), linkTold_eq, State.setLine_memory,
      queueNotice_memory, writeLog_memory run]
  · rw [linkGo_eq, edges.host_eq (by decide) (by decide), linkTold_eq, State.setLine_host]

/-- What is changed of the line besides the link does not touch what a move of the link left. -/
theorem LinkMoves.setLine {new : LinkState} {n : Nat} {s t : State} (h : LinkMoves new n s t) {f : LineController → LineController}
    (link : (f t.line).link = t.line.link) : LinkMoves new n s (t.setLine f) := by
  obtain ⟨moved, wrote, told⟩ := h
  refine ⟨link.trans moved, ?_, ?_⟩
  · rw [Wrote, State.setLine_memory]
    exact wrote
  · rw [State.setLine_host]
    exact told

/-! ### The edges of ACTIVE (R173) -/

/-- A change between the states other than ACTIVE leaves the marks. -/
theorem linkGo_inactive {s : State} {new : LinkState} (old : s.line.link ≠ .active) (other : new ≠ .active)
    (cause : LinkCause) : linkGo new cause s = linkTold new cause s := by
  rw [linkGo_eq]
  unfold linkEdges
  rw [if_neg old]
  exact if_neg other

theorem linkGo_up {s : State} (old : s.line.link ≠ .active) (cause : LinkCause) :
    linkGo .active cause s = linkUp (linkTold .active cause s) := by
  rw [linkGo_eq]
  unfold linkEdges
  rw [if_neg old]
  exact if_pos rfl

theorem linkGo_gone {s : State} {new : LinkState} (old : s.line.link = .active) (other : new ≠ .active) (cause : LinkCause) :
    linkGo new cause s = linkGone (abandon (linkTold new cause s)) := by
  rw [linkGo_eq]
  unfold linkEdges
  rw [if_pos old]
  exact if_neg other

/-- The entry to ACTIVE: every record forced due, a STATUS due, the health timer started. -/
theorem linkUp_marks (s : State) :
    (linkUp s).reports.stateMark = true ∧ (linkUp s).reports.healthTimer = some (later s.now (s.line.tHealth * 1000)) ∧
      ∀ i : Fin 32, (linkUp s).faults.table[i].forced = (linkUp s).faults.table[i].record.isSome := by
  unfold linkUp statusDue State.setReports State.setFaults
  refine ⟨rfl, rfl, fun i => ?_⟩
  simp only [Fin.getElem_fin, remake_getElem]

/-- The end of ACTIVE: the CONFIRM slot emptied, the health mark and its timer ended, no record forced. -/
theorem linkGone_marks (s : State) :
    (linkGone s).reports.confirm = none ∧ (linkGone s).reports.healthMark = false ∧ (linkGone s).reports.healthTimer = none ∧
      (linkGone s).faults.Unforced ∧ ∀ i : Fin 32, (linkGone s).faults.table[i].record = s.faults.table[i].record := by
  unfold linkGone FaultManager.Unforced State.setReports State.setFaults
  refine ⟨rfl, rfl, rfl, fun i => ?_, fun i => ?_⟩ <;> simp only [Fin.getElem_fin, remake_getElem]

theorem abandon_records_same (s : State) (i : Fin 32) : (abandon s).faults.table[i].record = s.faults.table[i].record := by
  cases flight : s.line.inFlight with
  | none => rw [abandon_of_none flight]
  | some f =>
    rw [abandon_of_some flight]
    split
    · rw [giveUp_table]
    · rfl


/-! ### A valid BEACON (R146 to R148) -/

/-- The link as a valid BEACON leaves it, before LINK_LOST ends (R147, R148). -/
def beaconMoved (s : State) : State :=
  match s.line.link with
  | .down | .lost => (linkGo .sync .beacon s).setLine fun l => { l with firstBeacon := some s.now }
  | .sync =>
    if agedPast s.now s.line.firstBeacon (2 * s.line.beaconMs) then s.setLine fun l => { l with firstBeacon := some s.now }
    else (linkGo .active .beacon s).setLine fun l => { l with lastBeacon := some s.now }
  | .active => s.setLine fun l => { l with lastBeacon := some s.now }

theorem takeBeacon_eq (s : State) :
    takeBeacon s = if s.line.link = .lost then endCondition .linkLost 0 (beaconMoved s) else beaconMoved s := by
  unfold takeBeacon beaconMoved
  cases s.line.link <;> rfl

section
variable {s : State}

theorem beaconMoved_enters (old : s.line.link = .down ∨ s.line.link = .lost) :
    beaconMoved s = (linkGo .sync .beacon s).setLine fun l => { l with firstBeacon := some s.now } := by
  unfold beaconMoved
  rcases old with old | old <;> rw [old]

theorem beaconMoved_late (sync : s.line.link = .sync)
    (late : agedPast s.now s.line.firstBeacon (2 * s.line.beaconMs) = true) :
    beaconMoved s = s.setLine fun l => { l with firstBeacon := some s.now } := by
  unfold beaconMoved
  rw [sync]
  exact if_pos late

theorem beaconMoved_up (sync : s.line.link = .sync)
    (fresh : agedPast s.now s.line.firstBeacon (2 * s.line.beaconMs) = false) :
    beaconMoved s = (linkGo .active .beacon s).setLine fun l => { l with lastBeacon := some s.now } := by
  unfold beaconMoved
  rw [sync]
  exact if_neg (Bool.eq_false_iff.1 fresh)

theorem beaconMoved_renews (active : s.line.link = .active) :
    beaconMoved s = s.setLine fun l => { l with lastBeacon := some s.now } := by
  unfold beaconMoved
  rw [active]

end

/-- A change of the link's first and last beacon alone. -/
theorem setBeacons_only (s : State) {f : LineController → LineController} (settings : (f s.line).settings = s.line.settings)
    (traffic : (f s.line).traffic = s.line.traffic) : Only [.link] s (s.setLine f) := by
  intro b hb
  cases b <;> simp_all [Same, State.configuration, LineController.settings]

/-- What a BEACON changes of the link and its marks. -/
theorem beaconMoved_frame (s : State) :
    Only [.link, .line, .log, .notices, .reports, .faults] s (beaconMoved s) := by
  have set := fun (t : State) (f : LineController → LineController) settings traffic =>
    (setBeacons_only t (f := f) settings traffic).mono (bs := [.link, .line, .log, .notices, .reports, .faults]) (by decide)
  cases link : s.line.link with
  | down =>
    rw [beaconMoved_enters (.inl link)]
    exact (linkGo_frame _ _ s).trans (set _ _ rfl rfl)
  | lost =>
    rw [beaconMoved_enters (.inr link)]
    exact (linkGo_frame _ _ s).trans (set _ _ rfl rfl)
  | sync =>
    cases late : agedPast s.now s.line.firstBeacon (2 * s.line.beaconMs) with
    | true =>
      rw [beaconMoved_late link late]
      exact set _ _ rfl rfl
    | false =>
      rw [beaconMoved_up link late]
      exact (linkGo_frame _ _ s).trans (set _ _ rfl rfl)
  | active =>
    rw [beaconMoved_renews link]
    exact set _ _ rfl rfl

/-- What a valid BEACON leaves: LINK_LOST ended if the link was LOST, the demand and the content taken. -/
def beaconTaken (s : State) : State := react (takeBeacon (frameTaken s))

theorem takeBeacon_link (s : State) : LinkKept (beaconMoved s) (takeBeacon s) := by
  rw [takeBeacon_eq]
  exact .ite (endCondition_link _ _ _) (.refl _)

theorem beaconTaken_kept (s : State) : LinkKept (beaconMoved (frameTaken s)) (beaconTaken s) :=
  (takeBeacon_link _).trans (react_link _)

/-- After the link has moved, its supervision stands. -/
theorem beaconTaken_supervision (s : State) :
    (beaconTaken s).line.link = (beaconMoved (frameTaken s)).line.link ∧
      (beaconTaken s).line.firstBeacon = (beaconMoved (frameTaken s)).line.firstBeacon ∧
      (beaconTaken s).line.lastBeacon = (beaconMoved (frameTaken s)).line.lastBeacon := by
  have ended : Only (.faults :: recordBlocks) (beaconMoved (frameTaken s)) (takeBeacon (frameTaken s)) := by
    rw [takeBeacon_eq]
    exact .ite (endCondition_only _ _ _) (.refl _ _)
  have same : (beaconTaken s).line.supervision = (beaconMoved (frameTaken s)).line.supervision :=
    (ended.seq (react_only (takeBeacon (frameTaken s))) (cs := reactBlocks) (by decide) (by decide)) .link (by decide)
  simpa only [LineController.supervision, Prod.mk.injEq] using same

theorem beaconTaken_only (s : State) : Only (.link :: reactBlocks) s (beaconTaken s) :=
  (((frameTaken_only s).mono (by decide)).trans ((takeBeacon_only _).mono (by decide))).trans ((react_only _).mono (by decide))

theorem beaconTaken_counted (s : State) : (beaconTaken s).counters[(20 : Fin 32)] = s.counters[(20 : Fin 32)].bumped := by
  have moved : (beaconMoved (frameTaken s)).counters = (frameTaken s).counters :=
    (beaconMoved_frame (frameTaken s)).counters_eq (by decide)
  have kept : (beaconTaken s).counters[(20 : Fin 32)] = (beaconMoved (frameTaken s)).counters[(20 : Fin 32)] :=
    (beaconTaken_kept s).good
  rw [kept, moved, frameTaken_counted]

/-- The frame that brings a beacon leaves the clock, the settings and the link. -/
theorem frameTaken_link (s : State) :
    (frameTaken s).now = s.now ∧ (frameTaken s).line.link = s.line.link ∧
      (frameTaken s).line.firstBeacon = s.line.firstBeacon ∧ (frameTaken s).line.beaconMs = s.line.beaconMs ∧
      (frameTaken s).line.tHealth = s.line.tHealth ∧ (frameTaken s).part = s.part ∧ (frameTaken s).faults = s.faults := by
  have frame := frameTaken_only s
  rw [frameTaken_line]
  exact ⟨(frame.clock_eq (by decide)).1, rfl, rfl, rfl, rfl, frame.part_eq (by decide), frame.faults_eq (by decide)⟩

theorem broadcast_addressed (l : LineController) : ∃ addr, l.addressing 63 = some addr := by
  unfold LineController.addressing
  split
  · exact ⟨_, rfl⟩
  · split
    · exact ⟨_, rfl⟩
    · exact ⟨_, if_pos rfl⟩

/-- A valid BEACON reaches the link whatever its class (R146). -/
theorem receiveFrame_beacon {s : State} (ready : LineReady s) (other : s.line.own ≠ some 0) (cls : BitVec 2) :
    receiveFrame ⟨cls, 0, 63⟩ kindBeacon [] s = beaconTaken s := by
  obtain ⟨addr, addressed⟩ := broadcast_addressed s.line
  rw [receiveFrame_addressed ready (by decide) other addressed]
  rfl

/-- A BEACON that is not valid is counted, and that is all (R146). -/
theorem receiveFrame_badBeacon {h : LineHead} {payload : List Byte} {s : State} (ready : LineReady s)
    (other : s.line.own ≠ some h.src) (addressed : (s.line.addressing h.dest).isSome = true) (fits : payload.length ≤ 24)
    (bad : h.src ≠ 0 ∨ h.dest ≠ 63 ∨ payload ≠ []) : receiveFrame h kindBeacon payload s = react (frameTaken s) := by
  obtain ⟨addr, some_⟩ := Option.isSome_iff_exists.1 addressed
  have invalid : ¬beaconValid h payload = true := by
    simp only [beaconValid, Bool.and_eq_true, beq_iff_eq, List.isEmpty_iff]
    rintro ⟨⟨source, broadcast⟩, empty⟩
    rcases bad with bad | bad | bad
    · exact bad source
    · exact bad broadcast
    · exact bad empty
  rw [receiveFrame_addressed ready fits other some_]
  unfold addressedFrame
  exact congrArg react ((if_pos rfl).trans (if_neg invalid))

/-! ### The beacon timeout (R148) -/

theorem exec_beaconTimeout (s : State) : exec .beaconTimeout s = .next (if s.beaconTimeoutDue then react (loseLink s) else s) := by
  rfl

theorem beaconTimeoutDue_of_passed {b : Time} {s : State} (run : s.part = .run) (active : s.line.link = .active)
    (last : s.line.lastBeacon = some b) (passed : 3 * s.line.beaconMs < elapsed s.now b) : s.beaconTimeoutDue = true := by
  simp [State.beaconTimeoutDue, run, active, last, agedPast, passed]

/-- The marks as a link that leaves ACTIVE leaves them (R173). -/
theorem linkGo_lost_marks {s : State} (active : s.line.link = .active) :
    let v := linkGo .lost .timeout s
    v.reports.confirm = none ∧ v.reports.healthMark = false ∧ v.reports.healthTimer = none ∧ v.faults.Unforced ∧
      ∀ i : Fin 32, v.faults.table[i].record = s.faults.table[i].record := by
  have told : (linkTold .lost .timeout s).faults = s.faults := (linkTold_only _ _ s).faults_eq (by decide)
  obtain ⟨confirm, health, timer, unforced, records⟩ := linkGone_marks (abandon (linkTold .lost .timeout s))
  dsimp only
  rw [linkGo_gone active (by decide)]
  refine ⟨confirm, health, timer, unforced, fun i => ?_⟩
  rw [records i, abandon_records_same, told]

/-- The receiver of a link that leaves ACTIVE: SKIPPING if a frame of the part had begun (R152, R156; log entry 26). -/
theorem LineController.abandoned_rx (l : LineController) :
    l.abandoned.rx = if ∃ f, l.inFlight = some f ∧ f.begun = true then .skipping else l.rx := by
  cases flight : l.inFlight with
  | none => rw [LineController.abandoned_of_none flight, if_neg (by simp)]
  | some f =>
    rw [LineController.abandoned_of_some flight]
    by_cases begun : f.begun = true
    · rw [if_pos begun, if_pos ⟨f, rfl, begun⟩]
    · rw [if_neg begun, if_neg (by simpa using begun)]

/-- The line once the link is lost and the content taken: no frame, no wait. -/
theorem react_loseLink_line {s : State} (run : s.part = .run) (active : s.line.link = .active) :
    let t := react (loseLink s)
    t.line.link = .lost ∧ t.line.wait = none ∧ t.line.inFlight = none ∧
      t.line.rx = if ∃ f, s.line.inFlight = some f ∧ f.begun = true then .skipping else s.line.rx := by
  have lost : Only (.faults :: .free :: recordBlocks) (linkGo .lost .timeout s) (loseLink s) := raise_only _ _ _ _
  have demanded := lost.seq (takeDemand_only (loseLink s)) (cs := .free :: seqBlocks) (by decide) (by decide)
  have line := demanded.line_eq (by decide) (by decide)
  have part : (takeDemand (loseLink s)).part = .run :=
    (demanded.part_eq (by decide)).trans (((linkGo_frame _ _ s).part_eq (by decide)).trans run)
  have busy : (takeDemand (loseLink s)).line.mayWait = false := by
    rw [line]
    simp [LineController.mayWait, linkGo_link]
  have settled : (react (loseLink s)).line = _ := lineSettle_line_busy part busy
  obtain ⟨flight, wait⟩ := LineController.abandoned_idle { s.line.waitsToBase with link := .lost, wait := none }
  rw [line, linkGo_line, if_pos active] at settled
  dsimp only
  rw [settled]
  exact ⟨LineController.abandoned_link _, wait, flight, LineController.abandoned_rx _⟩

/-! ### The obligation -/

/-- The link's moves on a valid BEACON, as the state it finds them shows them (R147, R148, R173). -/
theorem beaconTaken_moves {s : State} (run : s.part = .run) :
    (s.line.link = .down ∨ s.line.link = .lost →
      LinkMoves .sync 0 (frameTaken s) (beaconMoved (frameTaken s)) ∧ (beaconMoved (frameTaken s)).faults = s.faults ∧
        (beaconMoved (frameTaken s)).line.firstBeacon = some s.now) ∧
    (s.line.link = .sync → agedPast s.now s.line.firstBeacon (2 * s.line.beaconMs) = true →
      Only [.link] (frameTaken s) (beaconMoved (frameTaken s)) ∧ (beaconMoved (frameTaken s)).line.link = .sync ∧
        (beaconMoved (frameTaken s)).line.firstBeacon = some s.now) ∧
    (s.line.link = .sync → agedPast s.now s.line.firstBeacon (2 * s.line.beaconMs) = false →
      LinkMoves .active 0 (frameTaken s) (beaconMoved (frameTaken s)) ∧
        (beaconMoved (frameTaken s)).line.lastBeacon = some s.now ∧ (beaconMoved (frameTaken s)).reports.stateMark = true ∧
        (beaconMoved (frameTaken s)).reports.healthTimer = some (later s.now (s.line.tHealth * 1000)) ∧
        ∀ i : Fin 32, (beaconMoved (frameTaken s)).faults.table[i].forced =
          (beaconMoved (frameTaken s)).faults.table[i].record.isSome) ∧
    (s.line.link = .active →
      Only [.link] (frameTaken s) (beaconMoved (frameTaken s)) ∧ (beaconMoved (frameTaken s)).line.link = .active ∧
        (beaconMoved (frameTaken s)).line.lastBeacon = some s.now) := by
  obtain ⟨now, link, first, interval, health, part, faults⟩ := frameTaken_link s
  have run' := part.trans run
  refine ⟨fun old => ?_, fun sync late => ?_, fun sync fresh => ?_, fun active => ?_⟩
  · have inactive : (frameTaken s).line.link ≠ .active := by
      rw [link]
      rcases old with old | old <;> rw [old] <;> decide
    rw [beaconMoved_enters (by rw [link]; exact old)]
    refine ⟨(linkGo_moves run' .sync .beacon).setLine rfl, ?_, congrArg some now⟩
    rw [State.setLine_faults, linkGo_inactive inactive (by decide), (linkTold_only _ _ _).faults_eq (by decide), faults]
  · rw [beaconMoved_late (link.trans sync) (by rw [now, first, interval]; exact late)]
    exact ⟨setBeacons_only _ rfl rfl, link.trans sync, congrArg some now⟩
  · have inactive : (frameTaken s).line.link ≠ .active := by rw [link, sync]; decide
    have told := linkTold_only .active .beacon (frameTaken s)
    obtain ⟨mark, timer, forced⟩ := linkUp_marks (linkTold .active .beacon (frameTaken s))
    rw [beaconMoved_up (link.trans sync) (by rw [now, first, interval]; exact fresh)]
    refine ⟨(linkGo_moves run' .active .beacon).setLine rfl, congrArg some now, ?_⟩
    rw [State.setLine_reports, State.setLine_faults, linkGo_up inactive]
    refine ⟨mark, timer.trans ?_, forced⟩
    rw [(told.clock_eq (by decide)).1, now, linkTold_line]
    exact congrArg (fun t => some (later s.now (t * 1000))) health
  · rw [beaconMoved_renews (link.trans active)]
    exact ⟨setBeacons_only _ rfl rfl, link.trans active, congrArg some now⟩

/-- A forced mark that stands for a record stands for it still (R167, R173). -/
theorem FaultManager.KeepsForced.forced {f g : FaultManager} (kept : f.KeepsForced g)
    (forced : ∀ i : Fin 32, f.table[i].forced = f.table[i].record.isSome) (i : Fin 32) :
    g.table[i].forced = g.table[i].record.isSome := by
  rcases kept i with ⟨mark, record⟩ | ⟨mark, record⟩
  · rw [mark, record, forced i]
  · rw [mark, record]
    rfl

theorem FaultManager.KeepsForced.unforced {f g : FaultManager} (kept : f.KeepsForced g) (unforced : f.Unforced) :
    g.Unforced := fun i => by
  rcases kept i with ⟨mark, -⟩ | ⟨mark, -⟩
  · exact mark.trans (unforced i)
  · exact mark

/-- Settles O43: the move of the link, then what the Sequencer and the Line Controller take, which leaves the link and its
marks. -/
theorem beaconsDriveTheLink : Obligations.BeaconsDriveTheLink := by
  unfold Obligations.BeaconsDriveTheLink
  refine ⟨fun cls s ready other => ?_, fun h payload s ready other addressed fits bad => ?_,
    fun b s run active last passed => ?_⟩
  · obtain ⟨enters, late, up, renews⟩ := beaconTaken_moves ready.1
    obtain ⟨link, first, last⟩ := beaconTaken_supervision s
    have kept := beaconTaken_kept s
    refine ⟨beaconTaken s, ?_, beaconTaken_counted s, fun old => ?_, fun sync aged => ?_, fun sync fresh => ?_,
      fun active => ?_, ⟨frameTaken s, beaconMoved (frameTaken s), frameTaken_only s, ?_, fun old => ?_, fun sync fresh => ?_, ?_⟩,
      beaconTaken_only s⟩
    · exact (exec_lineFrame rfl s).trans (congrArg _ (receiveFrame_beacon ready other cls))
    · obtain ⟨⟨moved, -, -⟩, -, time⟩ := enters old
      exact ⟨link.trans moved, first.trans time⟩
    · obtain ⟨-, moved, time⟩ := late sync aged
      exact ⟨link.trans moved, first.trans time⟩
    · obtain ⟨⟨moved, -, -⟩, time, mark, timer, forced⟩ := up sync fresh
      exact ⟨link.trans moved, last.trans time, kept.marks.status mark, kept.marks.timer.trans timer, kept.forced.forced forced⟩
    · obtain ⟨-, moved, time⟩ := renews active
      exact ⟨link.trans moved, last.trans time⟩
    · rw [beaconTaken, takeBeacon_eq, (frameTaken_link s).2.1]
    · exact ⟨(enters old).1, (enters old).2.1⟩
    · exact (up sync fresh).1
    · rintro (active | ⟨sync, aged⟩)
      · exact (renews active).1
      · exact (late sync aged).1
  · exact ⟨frameTaken s, (exec_lineFrame rfl s).trans (congrArg _ (receiveFrame_badBeacon ready other addressed fits bad)),
      frameTaken_counted s, frameTaken_only s⟩
  · have due := beaconTimeoutDue_of_passed run active last passed
    obtain ⟨link, wait, flight, rx⟩ := react_loseLink_line run active
    obtain ⟨confirm, health, timer, unforced, records⟩ := linkGo_lost_marks active
    have kept := react_link (loseLink s)
    have marks : MarksKept (linkGo .lost .timeout s) (react (loseLink s)) := (raise_marks _ _ _ _).trans kept.marks
    refine ⟨react (loseLink s), by rw [exec_beaconTimeout, if_pos due], link, wait, flight, rx, marks.confirm.trans confirm,
      marks.health.trans health, marks.timer.trans timer, kept.forced.unforced (raise_unforced unforced _ _ _),
      ⟨linkGo .lost .timeout s, rfl, linkGo_moves run .lost .timeout, records, linkGo_frame _ _ s⟩, ?_⟩
    exact ((loseLink_only s).mono (by decide)).trans ((react_only _).mono (by decide))

end Sys2Proof.Machine
end
